-- ==== Sys2Proof/Word.lean ====
section
/-! DEFINITION. The words the ST-48's port and array carry: bytes, 16-bit check codes and serials, 32-bit condition words. -/

namespace Sys2Proof

/-- One byte of a port transfer or of a stored image (R162). -/
abbrev Byte := BitVec 8

/-- A CRC-16 check code, or a serial 0..65,535 that wraps (R57, R98, R123). -/
abbrev Word16 := BitVec 16

/-- A condition word (R162): bits 0..11 latched events, bits 16..23 held states. -/
abbrev Word32 := BitVec 32

end Sys2Proof
end

