-- ==== Sys2Proof/Config.lean ====
section
/-! DEFINITION. The fixed figures of the ST-48: the tops of its counters, its periods and limits, and the unit of the interval clock. -/

namespace Sys2Proof.Config

/-- Microseconds of the interval clock in one millisecond. DESIGN CHOICE (log 1): positions in time are whole microseconds. Unsafe: the spec names no unit. -/
abbrev usPerMs : Nat := 1000

/-- Microseconds of the interval clock in one second (1,000 ms, R1). -/
abbrev usPerSecond : Nat := 1000000

/-- Microseconds in one unit of the REF tolerance item, 0.1 ms (01 section 1.1). -/
abbrev usPerTolerance : Nat := 100

/-- The absence limit of R5, 1,500 ms. -/
abbrev absenceLimitUs : Nat := 1500000

/-- φ of 500 ms, which divides the two alignments of R11. -/
abbrev halfSecondUs : Nat := 500000

/-- The top of the elapsed counter and of every 40-bit figure, 2^40−1 (R2, R97). -/
abbrev elapsedTop : Nat := 1099511627775

/-- The top of every 32-bit saturating count (R87). -/
abbrev countTop : Nat := 4294967295

/-- The highest reading of station time, 4,294,967,295 s 999 ms (R24), in milliseconds. -/
abbrev stationTopMs : Int := 4294967295999

/-- The top of station seconds (R27). -/
abbrev stationTopS : Nat := 4294967295

/-- Ticks between periodic checkpoint triggers (R126). -/
abbrev periodicTicks : Nat := 3600

/-- Equivalent seconds in one equivalent hour (R97). -/
abbrev secondsPerHour : Nat := 3600

end Sys2Proof.Config
end

