-- ==== Sys2Proof/Machine/Types.lean ====
section
/-! DEFINITION. The records of the ST-48 as plain data: stamps, trip records, unit tallies, component accounts, stored images,
configuration items, roster slots and the operands that commands carry. No behaviour stands here. -/

namespace Sys2Proof.Machine

/-! ### Time Base (01) -/

/-- The three time sources (01, head table). -/
inductive Source where
  | ref | xtal | rc
deriving DecidableEq, Repr

/-- The source a switch in flight moves to, and the range of the start source item (01 section 1.1). -/
inductive Target where
  | ref | xtal
deriving DecidableEq, Repr

/-- The quality of station time in a stamp (R16). -/
inductive Grade where
  | locked | holdover | free | unset
deriving DecidableEq, Repr

/-- A stamp (00 "Stamps and time", R15). The generation wraps. -/
structure Stamp where
  generation : BitVec 8
  seconds : Nat
  millis : Nat
  grade : Grade
deriving DecidableEq, Repr

/-- A local minute of day and local day number (R34). -/
structure LocalTime where
  minute : Nat
  day : Int
deriving DecidableEq, Repr

/-! ### Units (05) -/

/-- The modes decided from a unit's mode lines (R81). -/
inductive UnitMode where
  | stopped | generate | pump | condense | spin | conflict
deriving DecidableEq, Repr

/-- The four modes in which a unit accrues run time (00 "Plant and people"). -/
inductive RunMode where
  | generate | pump | condense | spin
deriving DecidableEq, Repr

/-- The unit mode of a trip: NONE for station common (03 section 3.2, 04 section 4.1). -/
inductive TripMode where
  | unit (m : UnitMode)
  | stationCommon
deriving DecidableEq, Repr

/-- The qualified level of a mode or breaker input (05 section 5.1). -/
inductive Level where
  | off | on | unknown
deriving DecidableEq, Repr

/-- One of a unit's five inputs: qualified level and the run being counted (05 section 5.1). -/
structure Input where
  level : Level
  run : Option Bool
  count : Nat
deriving DecidableEq, Repr

/-- The readings of one unit's five lines at one sample (R78); true is the active level. -/
structure UnitLines where
  generate : Bool
  pump : Bool
  condense : Bool
  spin : Bool
  breaker : Bool
deriving DecidableEq, Repr

/-- What the Unit Mode Tracker holds for one unit position (05 section 5.1). -/
structure UnitTrack where
  generate : Input
  pump : Input
  condense : Input
  spin : Input
  breaker : Input
  mode : UnitMode
  breakerClosed : Bool
  settled : Bool
deriving DecidableEq, Repr

/-- A report of the Tracker to the Tally Engine (R82, R83). -/
inductive Report where
  | start (m : RunMode)
  | change (m : RunMode)
  | closing
deriving DecidableEq, Repr

/-- One figure for each running mode. -/
structure PerMode where
  generate : Nat
  pump : Nat
  condense : Nat
  spin : Nat
deriving DecidableEq, Repr

/-- The thirteen figures of a unit tally (05 section 5.3), also of a baseline and of a shift's deltas (08 section 8.2). -/
structure UnitCounts where
  run : PerMode
  starts : PerMode
  changes : Nat
  trips : Nat
  conflict : Nat
  unobserved : Nat
  closings : Nat
deriving DecidableEq, Repr

/-- One unit's entry of the freeze side table (R90). -/
structure SideEntry where
  run : PerMode
  conflict : Nat
  starts : PerMode
  changes : Nat
  closings : Nat
deriving DecidableEq, Repr

/-! ### Component accounts (06) -/

/-- The kinds of component (00 "Plant and people"). -/
inductive AccountClass where
  | generator | turbine | transformer | breaker
deriving DecidableEq, Repr

/-- The service states of an account (R112). -/
inductive Service where
  | normal | warn | due
deriving DecidableEq, Repr

/-- The group of figures that OPEN_ACCOUNT and PRESET carry (R100, R114). -/
structure Figures where
  run : PerMode
  starts : PerMode
  changes : Nat
  trips : Nat
  closings : Nat
  equivalent : Nat
deriving DecidableEq, Repr

/-- The fields of an account that are absent when it is LOST (06 section 6.1). -/
structure LiveFields where
  tag : List Byte
  cls : AccountClass
  bound : Option (Fin 8)
  interval : Nat
  margin : Nat
  nextDue : Nat
  service : Service
deriving DecidableEq, Repr

/-- An account record (06 section 6.1) less its slot and dirty mark. It is LIVE when `live` is present and LOST otherwise. -/
structure Account where
  serial : Word16
  figures : Figures
  fraction : Nat
  live : Option LiveFields
deriving DecidableEq, Repr

/-- An account slot: free with its retired mark (R97), or an account with its dirty mark. -/
inductive AccountSlot where
  | free (retired : Bool)
  | held (a : Account) (dirty : Bool)
deriving DecidableEq, Repr

/-! ### Trips (03, 04) -/

/-- The kind of a trip event, record or entry. -/
inductive TripKind where
  | real | test
deriving DecidableEq, Repr

/-- The line states of the Scanner (03 section 3.2). -/
inductive LinePhase where
  | released | asserting | asserted | releasing
deriving DecidableEq, Repr

/-- A test trip injected on a line (R46). -/
structure TestInjection where
  stamp : Stamp
  endSecond : Nat
deriving DecidableEq, Repr

/-- What the Scanner holds for one line (03 section 3.2). -/
structure LineState where
  phase : LinePhase
  run : Nat
  held : Option Stamp
  heldMode : Option TripMode
  startLook : Bool
  firstRun : Bool
  test : Option TestInjection
deriving DecidableEq, Repr

/-- A qualified event of the physical line, before its line and kind are added (R43). -/
inductive LineEvent where
  | assertion (stamp : Stamp) (mode : TripMode) (foundAtStart : Bool)
  | release (stamp : Stamp)
deriving DecidableEq, Repr

/-- A qualified assertion as it is handed to the Trip Table (R43); the unit position and relay group are read from the line's configuration. -/
structure Assertion where
  line : Fin 32
  kind : TripKind
  stamp : Stamp
  mode : TripMode
  foundAtStart : Bool
deriving DecidableEq, Repr

/-- Acknowledging crew and ack stamp (04 section 4.1). -/
structure Ack where
  crew : Fin 16
  stamp : Stamp
deriving DecidableEq, Repr

/-- The four record states (04 section 4.2). -/
inductive RecordState where
  | active | acked | cleared | resolved
deriving DecidableEq, Repr

/-- A trip record (04 section 4.1) less its slot. Its state is read from `release` and `ack` (04 section 4.2). -/
structure TripRecord where
  serial : Word16
  line : Fin 32
  unit : Fin 9
  group : Fin 64
  kind : TripKind
  first : Stamp
  last : Stamp
  recurrences : Nat
  mode : TripMode
  cause : Option Nat
  ack : Option Ack
  release : Option Stamp
  carried : Nat
  foundAtStart : Bool
deriving DecidableEq, Repr

/-- An entry of the pending list (R59). It is released when its release stamp is present. -/
structure PendingEntry where
  line : Fin 32
  kind : TripKind
  first : Stamp
  last : Stamp
  recurrences : Nat
  mode : TripMode
  release : Option Stamp
  carried : Nat
  foundAtStart : Bool
deriving DecidableEq, Repr

/-! ### Configuration (10) -/

/-- The configuration of one trip line (03 section 3.1). -/
structure LineConfig where
  enabled : Bool
  unit : Fin 9
  group : Fin 64
  assertCount : Nat
  releaseCount : Nat
deriving DecidableEq, Repr

/-- A roster slot's fields in the configuration image (08 section 8.1). -/
structure RosterSlot where
  start : Nat
  crew : Fin 16
  window : Nat
  warning : Nat
deriving DecidableEq, Repr

/-- Every configuration item (10 section 10.1), in item code order, and the roster slots. -/
structure LiveConfig where
  levels : Vector (Fin 4) 4
  lines : Vector LineConfig 32
  modeCount : Nat
  runWeight : Vector Nat 16
  startEquivalent : Vector Nat 16
  changeEquivalent : Vector Nat 4
  tripEquivalent : Vector Nat 4
  closeEquivalent : Vector Nat 4
  refQualify : Nat
  refBadLimit : Nat
  refTolerance : Nat
  autoReturn : Bool
  startSource : Target
  holdoverLimit : Nat
  slewThreshold : Nat
  slewStep : Nat
  localOffset : Int
  defaultWindow : Nat
  roster : Vector RosterSlot 6
deriving DecidableEq, Repr

/-- The stored configuration image: every item and its check code (10 section 10.1). -/
structure ConfigImage where
  items : LiveConfig
  code : Word16
deriving DecidableEq, Repr

/-! ### The tally store (07) -/

/-- Occupancy and record contents of a tally image (R123). -/
inductive ImageContent where
  | empty
  | unit (c : UnitCounts)
  | account (a : Account)
deriving DecidableEq, Repr

/-- A tally image (R123): walk sequence number, occupancy with contents, stored check code. -/
structure Image where
  number : Nat
  content : ImageContent
  code : Word16
deriving DecidableEq, Repr

/-- The verify result at the end of an image write (R129). After a mismatch the image holds what the array retained (R130), which the world decides: it is an operand (log 8). -/
inductive ImageVerify where
  | matched
  | mismatched (retained : Image)
deriving DecidableEq, Repr

/-- The verify result at the end of a configuration write (R135); the same for the configuration image. -/
inductive ConfigVerify where
  | matched
  | mismatched (retained : ConfigImage)
deriving DecidableEq, Repr

/-- The walk states (07 section 7.3). -/
inductive WalkState where
  | idle | walking | final | held
deriving DecidableEq, Repr

/-- An image write in flight (07 section 7.1): image, whether it is attempt 2, walk number and contents as captured. -/
structure ImageWrite where
  image : Fin 32
  second : Bool
  number : Nat
  content : ImageContent
deriving DecidableEq, Repr

/-- A configuration write: waiting for the port, or in progress with the contents captured at the grant (R134, R135). -/
inductive ConfigWrite where
  | waiting
  | writing (second : Bool) (image : ConfigImage)
deriving DecidableEq, Repr

/-- The port holder (R134). -/
inductive PortHolder where
  | none | walk | config
deriving DecidableEq, Repr

/-! ### Watches (08) -/

/-- The watch states (R142). -/
inductive WatchState where
  | noWatch | onWatch | opened | signed
deriving DecidableEq, Repr

/-- What opened the handover in flight (08 section 8.2). -/
inductive Origin where
  | slot (i : Fin 6)
  | unscheduled
deriving DecidableEq, Repr

/-- The results of a slot start or pending-slot handling (08 section 8.2). -/
inductive SlotResult where
  | consumed | continued | opened | pending | dropped
deriving DecidableEq, Repr

/-- The last slot outcome (08 section 8.2). -/
structure SlotOutcome where
  slot : Fin 6
  day : Int
  result : SlotResult
deriving DecidableEq, Repr

/-- The previous shift: header and deltas (08 section 8.2). -/
structure PreviousShift where
  number : Nat
  crew : Fin 16
  start : Stamp
  stop : Stamp
  deltas : Vector UnitCounts 8
deriving DecidableEq, Repr

/-! ### Station Port (09) and starts (10) -/

/-- The three start kinds (00 "Start kinds"). -/
inductive StartKind where
  | cold | warm | resetLine
deriving DecidableEq, Repr

/-- The twelve latched events, in the order of 09 section 9.7. -/
inductive Event where
  | tripNew | sourceFail | sourceSwitched | stepApplied | handoverOpened | handoverWarn
  | slotMissed | serviceWarn | serviceDue | frameError | recordLost | started
deriving DecidableEq, Repr

/-- The outcomes of 09 section 9.5, in row order. -/
inductive ReplyCode where
  | ok | redundant | deferred | accepted | privilege | noAuthority | wrongCrew | stale | notFound | absent
  | badKind | badField | state | busy | full | present | classTaken | unitRunning | unresolved | incomingAbsent
  | storeError
deriving DecidableEq, Repr

/-- What a reply echoes from its request (R162, R165). -/
structure ReplyHead where
  requester : Fin 4
  tag : Byte
  kind : Nat
deriving DecidableEq, Repr

/-- A placed reply (R165). -/
structure Reply where
  head : ReplyHead
  code : ReplyCode
  body : List Byte
deriving DecidableEq, Repr

/-- A reply slot (09 section 9.3); a waiting reply carries its placing order. -/
inductive ReplySlot where
  | free
  | reserved (head : ReplyHead)
  | waiting (order : Nat) (reply : Reply)
deriving DecidableEq, Repr

/-- What every request command carries beside its own fields: the time since the previous command in microseconds of the interval clock (log 1), and requester, crew and tag of the frame (R162). -/
structure Header where
  dt : Nat
  requester : Fin 4
  crew : Fin 16
  tag : Byte
deriving DecidableEq, Repr

/-- READ_ACCOUNT names an account by slot or by tag (R122). -/
inductive AccountName where
  | slot (i : Nat)
  | tag (t : List Byte)
deriving DecidableEq, Repr

/-- The optional fields of a PRESET (R114); the class is carried as its code. -/
structure PresetOptions where
  tag : Option (List Byte)
  cls : Option Nat
  interval : Option Nat
  margin : Option Nat
  nextDue : Option Nat
deriving DecidableEq, Repr

end Sys2Proof.Machine
end

