-- ==== Sys2Proof/Syntax.lean ====
section
/-! DEFINITION. The commands of the ST-48: one constructor for each row of spec/opcode_table.json, with the row's operands. -/

namespace Sys2Proof

open Machine

/-- The commands. `h` is a request's header; `dt` is the time since the previous command in microseconds of the interval clock (log 1).
A command without `dt` is itself a moment of that clock, or part of a tick. -/
inductive Instr where
  -- Requests (09 section 9.4)
  | selectSource (h : Header) (source : Nat)
  | setTime (h : Header) (seconds millis : Nat)
  | readTime (h : Header)
  | testTrip (h : Header) (line duration : Nat)
  | cancelTest (h : Header) (line : Nat)
  | readLine (h : Header) (line : Nat)
  | acknowledge (h : Header) (slot serial : Nat)
  | assignCause (h : Header) (slot serial cause : Nat)
  | retireTrip (h : Header) (slot serial : Nat)
  | readTrip (h : Header) (slot : Nat)
  | readUnit (h : Header) (position : Nat)
  | openAccount (h : Header) (tag : List Byte) (cls interval margin : Nat) (initial : Option Figures)
  | bind (h : Header) (slot serial position : Nat)
  | unbind (h : Header) (slot serial : Nat)
  | preset (h : Header) (slot serial : Nat) (figures : Figures) (options : PresetOptions)
  | retireAccount (h : Header) (slot serial : Nat)
  | serviceDone (h : Header) (slot serial : Nat)
  | readAccount (h : Header) (name : AccountName)
  | checkpoint (h : Header)
  | readStore (h : Header)
  | setRosterSlot (h : Header) (slot start crew window warning : Nat)
  | startHandover (h : Header)
  | signOn (h : Header)
  | release (h : Header) (carry : Bool)
  | abortHandover (h : Header)
  | readWatch (h : Header)
  | readShiftTally (h : Header) (position selector : Nat)
  | find (h : Header) (collection start stop direction max : Nat) (options : List Byte)
  | readConditions (h : Header)
  | clearConditions (h : Header) (word : Word32)
  | setMask (h : Header) (word : Word32)
  | configure (h : Header) (code index : Nat) (value : Int)
  | readConfig (h : Header) (code index : Nat)
  | checkConfig (h : Header)
  -- Transfers (09 section 9.1)
  | send (dt : Nat) (bytes : List Byte)
  | collect (dt : Nat) (clocked : Nat)
  | statusPoll (dt : Nat) (code : Byte) (clocked : Nat)
  -- Time events (01)
  | refPulse (dt : Nat)
  | absenceLimitExpiry
  | flywheelBoundary
  | secondBoundary
  -- Expiries at a tick (R47, R126, R155)
  | testExpiry
  | periodicTrigger
  | warningDeadlineExpiry
  | windowDeadlineExpiry
  -- Crystal (R7, R8)
  | crystalReady (dt : Nat)
  | crystalStop (dt : Nat)
  -- Samples (R39, R78)
  | tripLineSample (dt : Nat) (levels : Vector Bool 32) (first : List (Fin 32))
  | modeLineSample (dt : Nat) (lines : Vector UnitLines 8)
  -- Warning line (R116, R117)
  | powerFailWarning (dt : Nat)
  | warningReleased (dt : Nat)
  -- Array (R129, R135)
  | imageWriteEnd (dt : Nat) (verify : ImageVerify)
  | configWriteEnd (dt : Nat) (verify : ConfigVerify)
  -- Supplies and starts (R20, R179 to R182)
  | mainPowerLost (dt : Nat) (image : Image) (config : ConfigImage)
  | backupBoundary
  | backupSupplyLost (dt : Nat)
  | coldStart (dt : Nat)
  | warmStart (dt : Nat)
  | resetLineAsserted (dt : Nat) (image : Image) (config : ConfigImage)
  | resetLineReleased (dt : Nat)
deriving DecidableEq, Repr

end Sys2Proof
end

