-- ==== Sys2Proof/WellFormed.lean ====
section
/-! DEFINITION. Which commands the world can send: the fields of a request fit the bytes R162 gives them, a status poll's code is neither
marker, and the lines a sample names first are named once. The machine gives every command its meaning, well formed or not. -/

namespace Sys2Proof

open Machine

/-- A figure that fits in `k` bytes (R162). -/
def fits (k n : Nat) : Bool := decide (n < 256 ^ k)

/-- A value of CONFIGURE fits in four bytes of two's complement (R162). -/
def fitsValue (v : Int) : Bool := decide (-2147483648 ≤ v) && decide (v < 2147483648)

/-- A per-mode group of 4-byte figures. -/
def PerMode.fitsWire (p : PerMode) : Bool := fits 4 p.generate && fits 4 p.pump && fits 4 p.condense && fits 4 p.spin

/-- The figures of OPEN_ACCOUNT and PRESET in their wire widths. -/
def Figures.fitsWire (f : Figures) : Bool :=
  PerMode.fitsWire f.run && PerMode.fitsWire f.starts && fits 4 f.changes && fits 4 f.trips && fits 4 f.closings && fits 5 f.equivalent

/-- The bytes an optional field takes beside its presence byte (R162). -/
def optSize {α : Type} (size : α → Nat) (o : Option α) : Nat := (o.map size).getD 0

/-- A body fits a frame: the length byte is 0..240 (R162). -/
def bodyFits (n : Nat) : Bool := decide (n ≤ 240)

/-- The bytes of an OPEN_ACCOUNT body: tag, class, interval, margin, and the figures if they are carried. -/
def openSize (tag : List Byte) (initial : Option Figures) : Nat := 7 + tag.length + optSize (fun _ => 49) initial

/-- The bytes of a PRESET body: slot, serial, figures, and the five optional fields. -/
def presetSize (o : PresetOptions) : Nat :=
  57 + optSize (fun t => 1 + t.length) o.tag + optSize (fun _ => 1) o.cls + optSize (fun _ => 2) o.interval + optSize (fun _ => 2) o.margin
    + optSize (fun _ => 5) o.nextDue

/-- Whether a command can be sent as it stands. -/
def Instr.wellFormed : Instr → Bool
  | .selectSource _ source => fits 1 source
  | .setTime _ seconds millis => fits 4 seconds && fits 2 millis
  | .readTime _ => true
  | .testTrip _ line duration => fits 1 line && fits 2 duration
  | .cancelTest _ line => fits 1 line
  | .readLine _ line => fits 1 line
  | .acknowledge _ slot serial => fits 1 slot && fits 2 serial
  | .assignCause _ slot serial cause => fits 1 slot && fits 2 serial && fits 2 cause
  | .retireTrip _ slot serial => fits 1 slot && fits 2 serial
  | .readTrip _ slot => fits 1 slot
  | .readUnit _ position => fits 1 position
  | .openAccount _ tag cls interval margin initial =>
      bodyFits (openSize tag initial) && fits 1 cls && fits 2 interval && fits 2 margin && initial.all Figures.fitsWire
  | .bind _ slot serial position => fits 1 slot && fits 2 serial && fits 1 position
  | .unbind _ slot serial => fits 1 slot && fits 2 serial
  | .preset _ slot serial figures o =>
      fits 1 slot && fits 2 serial && Figures.fitsWire figures && bodyFits (presetSize o) && o.cls.all (fits 1)
        && o.interval.all (fits 2) && o.margin.all (fits 2) && o.nextDue.all (fits 5)
  | .retireAccount _ slot serial => fits 1 slot && fits 2 serial
  | .serviceDone _ slot serial => fits 1 slot && fits 2 serial
  | .readAccount _ (.slot i) => fits 1 i
  | .readAccount _ (.tag t) => bodyFits (2 + t.length)
  | .checkpoint _ => true
  | .readStore _ => true
  | .setRosterSlot _ slot start crew window warning =>
      fits 1 slot && fits 2 start && fits 1 crew && fits 1 window && fits 1 warning
  | .startHandover _ => true
  | .signOn _ => true
  | .release _ _ => true
  | .abortHandover _ => true
  | .readWatch _ => true
  | .readShiftTally _ position selector => fits 1 position && fits 1 selector
  | .find _ collection start stop direction max options =>
      fits 1 collection && fits 1 start && fits 1 stop && fits 1 direction && fits 1 max && decide (options.length ≤ 235)
  | .readConditions _ => true
  | .clearConditions _ _ => true
  | .setMask _ _ => true
  | .configure _ code index value => fits 1 code && fits 1 index && fitsValue value
  | .readConfig _ code index => fits 1 code && fits 1 index
  | .checkConfig _ => true
  | .send _ _ => true
  | .collect _ _ => true
  | .statusPoll _ code _ => decide (code ≠ 0xC3) && decide (code ≠ 0x96)
  | .refPulse _ => true
  | .absenceLimitExpiry => true
  | .flywheelBoundary => true
  | .secondBoundary => true
  | .testExpiry => true
  | .periodicTrigger => true
  | .warningDeadlineExpiry => true
  | .windowDeadlineExpiry => true
  | .crystalReady _ => true
  | .crystalStop _ => true
  | .tripLineSample _ _ first => decide first.Nodup
  | .modeLineSample _ _ => true
  | .powerFailWarning _ => true
  | .warningReleased _ => true
  | .imageWriteEnd _ _ => true
  | .configWriteEnd _ _ => true
  | .mainPowerLost _ _ _ => true
  | .backupBoundary => true
  | .backupSupplyLost _ => true
  | .coldStart _ => true
  | .warmStart _ => true
  | .resetLineAsserted _ _ _ => true
  | .resetLineReleased _ => true

/-- A command the world can send as it stands. -/
abbrev WellFormed (i : Instr) : Prop := i.wellFormed = true

end Sys2Proof
end

