-- ==== Sys2Proof/Decode.lean ====
section
/-! DEFINITION. Reading a command from a table word. No row of spec/opcode_table.json gives bits, so no word spells a command.
The bytes of a request frame are read by Machine/Operands.lean. -/

namespace Sys2Proof

/-- The command a table word spells: none, because no row of the table has bits. -/
def decodeTableWord (_nbits _w : Nat) : Option Instr := none

end Sys2Proof
end

