-- ==== Sys2Proof/Machine/Wire.lean ====
section
/-! DEFINITION. The byte layouts of the spec: figures most significant byte first (R162), names by their position, the records in the
order of the tables that define them, and the CRC-16 of frames and images. -/

namespace Sys2Proof.Machine

/-! ### Figures (R162) -/

/-- `n` in `k` bytes, most significant first. -/
def beBytes : Nat → Nat → List Byte
  | 0, _ => []
  | k + 1, n => beBytes k (n / 256) ++ [BitVec.ofNat 8 n]

/-- A signed figure in `k` bytes of two's complement. -/
def beInt (k : Nat) (z : Int) : List Byte := beBytes k (z % (256 ^ k : Int)).toNat

/-- The figure that bytes spell, most significant first. -/
def beNat (bs : List Byte) : Nat := bs.foldl (fun a b => a * 256 + b.toNat) 0

/-- The signed figure that bytes spell in two's complement. -/
def beToInt (bs : List Byte) : Int :=
  if beNat bs < 256 ^ bs.length / 2 then (beNat bs : Int) else (beNat bs : Int) - (256 ^ bs.length : Int)

/-- A one-byte figure. -/
def u8 (n : Nat) : List Byte := beBytes 1 n
/-- A two-byte figure. -/
def u16 (n : Nat) : List Byte := beBytes 2 n
/-- A four-byte figure. -/
def u32 (n : Nat) : List Byte := beBytes 4 n
/-- A five-byte figure: the elapsed counter and every 0..2^40−1 figure. -/
def u40 (n : Nat) : List Byte := beBytes 5 n
/-- Yes and no, on and off, set and clear: 1 and 0. -/
def flag (b : Bool) : List Byte := u8 (if b then 1 else 0)
/-- An optional field: a presence byte, then the field when present. -/
def opt {α : Type} (f : α → List Byte) : Option α → List Byte
  | none => u8 0
  | some a => u8 1 ++ f a

/-! ### CRC-16 (R123, R162): polynomial 0x1021, initial value 0xFFFF, no reflection, no final inversion -/

/-- One bit of the division. -/
def crcBit (c : Word16) : Word16 := if c.msb then (c <<< 1) ^^^ 0x1021#16 else c <<< 1

/-- One byte, most significant bit first. -/
def crcByte (c : Word16) (b : Byte) : Word16 :=
  crcBit (crcBit (crcBit (crcBit (crcBit (crcBit (crcBit (crcBit (c ^^^ (b.setWidth 16 <<< 8)))))))))

/-- The CRC-16 of a run of bytes. -/
def crc16 (bs : List Byte) : Word16 := bs.foldl crcByte 0xFFFF#16

/-! ### Names, by their position in the list the spec gives (R162) -/

/-- Position of a source in REF, XTAL, RC. -/
def Source.code : Source → Nat
  | .ref => 0 | .xtal => 1 | .rc => 2
/-- Position of a target in REF, XTAL. -/
def Target.code : Target → Nat
  | .ref => 0 | .xtal => 1
/-- Position of a grade in LOCKED, HOLDOVER, FREE, UNSET. -/
def Grade.code : Grade → Nat
  | .locked => 0 | .holdover => 1 | .free => 2 | .unset => 3
/-- Position of a unit mode in STOPPED, GENERATE, PUMP, CONDENSE, SPIN, CONFLICT. -/
def UnitMode.code : UnitMode → Nat
  | .stopped => 0 | .generate => 1 | .pump => 2 | .condense => 3 | .spin => 4 | .conflict => 5
/-- A trip's unit mode; NONE is sent as 6. -/
def TripMode.code : TripMode → Nat
  | .unit m => m.code | .stationCommon => 6
/-- Position of a running mode in GENERATE, PUMP, CONDENSE, SPIN. -/
def RunMode.code : RunMode → Nat
  | .generate => 0 | .pump => 1 | .condense => 2 | .spin => 3
/-- Position of a class in GENERATOR, TURBINE, TRANSFORMER, BREAKER. -/
def AccountClass.code : AccountClass → Nat
  | .generator => 0 | .turbine => 1 | .transformer => 2 | .breaker => 3
/-- Position of a service state in NORMAL, WARN, DUE. -/
def Service.code : Service → Nat
  | .normal => 0 | .warn => 1 | .due => 2
/-- Position of a qualified level in OFF, ON, UNKNOWN. -/
def Level.code : Level → Nat
  | .off => 0 | .on => 1 | .unknown => 2
/-- Position of a kind in REAL, TEST. -/
def TripKind.code : TripKind → Nat
  | .real => 0 | .test => 1
/-- Position of a line state in RELEASED, ASSERTING, ASSERTED, RELEASING. -/
def LinePhase.code : LinePhase → Nat
  | .released => 0 | .asserting => 1 | .asserted => 2 | .releasing => 3
/-- Position of a record state in ACTIVE, ACKED, CLEARED, RESOLVED. -/
def RecordState.code : RecordState → Nat
  | .active => 0 | .acked => 1 | .cleared => 2 | .resolved => 3
/-- Position of a walk state in IDLE, WALKING, FINAL, HELD. -/
def WalkState.code : WalkState → Nat
  | .idle => 0 | .walking => 1 | .final => 2 | .held => 3
/-- Position of a port holder in NONE, WALK, CONFIG. -/
def PortHolder.code : PortHolder → Nat
  | .none => 0 | .walk => 1 | .config => 2
/-- Position of a watch state in NO_WATCH, ON_WATCH, OPEN, SIGNED. -/
def WatchState.code : WatchState → Nat
  | .noWatch => 0 | .onWatch => 1 | .opened => 2 | .signed => 3
/-- Position of an origin in slot 0..5, UNSCHEDULED. -/
def Origin.code : Origin → Nat
  | .slot i => i.val | .unscheduled => 6
/-- Position of a slot result in CONSUMED, CONTINUED, OPENED, PENDING, DROPPED. -/
def SlotResult.code : SlotResult → Nat
  | .consumed => 0 | .continued => 1 | .opened => 2 | .pending => 3 | .dropped => 4
/-- Position of a start kind in cold start, warm start, reset line. -/
def StartKind.code : StartKind → Nat
  | .cold => 0 | .warm => 1 | .resetLine => 2
/-- Row number of an outcome (09 section 9.5). -/
def ReplyCode.code : ReplyCode → Nat
  | .ok => 0 | .redundant => 1 | .deferred => 2 | .accepted => 3 | .privilege => 4 | .noAuthority => 5 | .wrongCrew => 6
  | .stale => 7 | .notFound => 8 | .absent => 9 | .badKind => 10 | .badField => 11 | .state => 12 | .busy => 13 | .full => 14
  | .present => 15 | .classTaken => 16 | .unitRunning => 17 | .unresolved => 18 | .incomingAbsent => 19 | .storeError => 20

/-- The class a code names. -/
def AccountClass.ofCode : Nat → Option AccountClass
  | 0 => some .generator | 1 => some .turbine | 2 => some .transformer | 3 => some .breaker | _ => none
/-- The source a code names. -/
def Source.ofCode : Nat → Option Source
  | 0 => some .ref | 1 => some .xtal | 2 => some .rc | _ => none

/-! ### Records, fields in the order of their tables (R162) -/

/-- A stamp in 8 bytes. -/
def Stamp.bytes (t : Stamp) : List Byte := u8 t.generation.toNat ++ u32 t.seconds ++ u16 t.millis ++ u8 t.grade.code

/-- Four figures, one for each running mode. -/
def PerMode.bytes (p : PerMode) : List Byte := u32 p.generate ++ u32 p.pump ++ u32 p.condense ++ u32 p.spin

/-- The thirteen figures of a unit tally, in the order of 05 section 5.3. -/
def UnitCounts.bytes (c : UnitCounts) : List Byte :=
  c.run.bytes ++ c.starts.bytes ++ u32 c.changes ++ u32 c.trips ++ u32 c.conflict ++ u32 c.unobserved ++ u32 c.closings

/-- An entry of the freeze side table, in the order of R90. -/
def SideEntry.bytes (e : SideEntry) : List Byte :=
  e.run.bytes ++ u32 e.conflict ++ e.starts.bytes ++ u32 e.changes ++ u32 e.closings

/-- One input: qualified level, run level, run count (05 section 5.1). -/
def Input.bytes (i : Input) : List Byte := u8 i.level.code ++ opt flag i.run ++ u8 i.count

/-- A tag: its length, then its characters. -/
def tagBytes (t : List Byte) : List Byte := u8 t.length ++ t

/-- LIVE is 0 and LOST 1. -/
def Account.stateCode (a : Account) : Nat := if a.live.isSome then 0 else 1

/-- The record contents of an account image: 06 section 6.1 less the slot and the dirty mark (R123). -/
def Account.contentBytes (a : Account) : List Byte :=
  u16 a.serial.toNat ++ u8 a.stateCode ++ opt tagBytes (a.live.map (·.tag)) ++ opt (fun c => u8 c.code) (a.live.map (·.cls))
    ++ opt (fun b : Fin 8 => u8 (b.val + 1)) (a.live.bind (·.bound))
    ++ a.figures.run.bytes ++ a.figures.starts.bytes ++ u32 a.figures.changes ++ u32 a.figures.trips ++ u32 a.figures.closings
    ++ u40 a.figures.equivalent ++ u8 a.fraction
    ++ opt u16 (a.live.map (·.interval)) ++ opt u16 (a.live.map (·.margin)) ++ opt u40 (a.live.map (·.nextDue))
    ++ opt (fun v => u8 v.code) (a.live.map (·.service))

/-- A whole account record (06 section 6.1), absent fields shown as absent. -/
def Account.bytes (slot : Nat) (a : Account) (dirty : Bool) : List Byte := u8 slot ++ a.contentBytes ++ flag dirty

/-- Acknowledging crew and ack stamp. -/
def Ack.bytes (a : Ack) : List Byte := u8 a.crew.val ++ a.stamp.bytes

/-- The state of a record is the pair of two facts, released and acknowledged (04 section 4.2). -/
def TripRecord.state (r : TripRecord) : RecordState :=
  match r.release, r.ack with
  | none, none => .active
  | none, some _ => .acked
  | some _, none => .cleared
  | some _, some _ => .resolved

/-- A trip record in the order of 04 section 4.1. -/
def TripRecord.bytes (slot : Nat) (r : TripRecord) : List Byte :=
  u8 slot ++ u16 r.serial.toNat ++ u8 r.line.val ++ u8 r.unit.val ++ u8 r.group.val ++ u8 r.kind.code ++ u8 r.state.code
    ++ r.first.bytes ++ r.last.bytes ++ u8 r.recurrences ++ u8 r.mode.code ++ opt u16 r.cause ++ opt Ack.bytes r.ack
    ++ opt Stamp.bytes r.release ++ u8 r.carried ++ flag r.foundAtStart

/-- A pending entry in the order of R59. -/
def PendingEntry.bytes (e : PendingEntry) : List Byte :=
  u8 e.line.val ++ u8 e.kind.code ++ e.first.bytes ++ e.last.bytes ++ u8 e.recurrences ++ u8 e.mode.code
    ++ flag e.release.isSome ++ opt Stamp.bytes e.release ++ u8 e.carried ++ flag e.foundAtStart

/-! ### Stored images. The spec gives the order of the fields and the CRC; their widths are those of R162: DEDUCED (log 7), an inference that could differ from the array. -/

/-- The bytes a tally image's check code runs over: number, occupancy, contents (R123). -/
def imageBytes (number : Nat) (content : ImageContent) : List Byte :=
  u32 number ++ match content with
    | .empty => u8 0
    | .unit c => u8 1 ++ c.bytes
    | .account a => u8 1 ++ a.contentBytes

/-- An image written with its check code computed over its fields (R129). -/
def Image.write (number : Nat) (content : ImageContent) : Image := ⟨number, content, crc16 (imageBytes number content)⟩

/-- An image is good when its stored check code equals the code computed over its stored fields (R123). -/
def Image.good (i : Image) : Bool := i.code == crc16 (imageBytes i.number i.content)

/-- The bytes of one roster slot (08 section 8.1). -/
def RosterSlot.bytes (r : RosterSlot) : List Byte := u16 r.start ++ u8 r.crew.val ++ u8 r.window ++ u8 r.warning

/-- The configuration items in code and index order, then the roster slots in slot order (10 section 10.1). -/
def LiveConfig.bytes (c : LiveConfig) : List Byte :=
  c.levels.toList.flatMap (fun l => u8 l.val)
    ++ c.lines.toList.flatMap (fun l => flag l.enabled)
    ++ c.lines.toList.flatMap (fun l => u8 l.unit.val)
    ++ c.lines.toList.flatMap (fun l => u8 l.group.val)
    ++ c.lines.toList.flatMap (fun l => u8 l.assertCount)
    ++ c.lines.toList.flatMap (fun l => u8 l.releaseCount)
    ++ u8 c.modeCount
    ++ c.runWeight.toList.flatMap u16 ++ c.startEquivalent.toList.flatMap u16 ++ c.changeEquivalent.toList.flatMap u16
    ++ c.tripEquivalent.toList.flatMap u16 ++ c.closeEquivalent.toList.flatMap u16
    ++ u8 c.refQualify ++ u8 c.refBadLimit ++ u8 c.refTolerance ++ flag c.autoReturn ++ u8 c.startSource.code
    ++ u32 c.holdoverLimit ++ u16 c.slewThreshold ++ u8 c.slewStep ++ beInt 2 c.localOffset ++ u8 c.defaultWindow
    ++ c.roster.toList.flatMap RosterSlot.bytes

/-- The check code computed over a configuration (10 section 10.1). -/
def LiveConfig.code (c : LiveConfig) : Word16 := crc16 c.bytes

/-- The configuration image with a freshly computed check code (R175). -/
def ConfigImage.write (c : LiveConfig) : ConfigImage := ⟨c, c.code⟩

/-- The configuration image's integrity (R177). -/
def ConfigImage.good (i : ConfigImage) : Bool := i.code == i.items.code

end Sys2Proof.Machine
end

