-- ==== Sys2Proof/Machine/Items.lean ====
section
/-! DEFINITION. The configuration items of 10 section 10.1: factory defaults, indices, ranges, reading and writing by item code. -/

namespace Sys2Proof.Machine

/-- The factory defaults (10 section 10.1, 06 section 6.4, 08 section 8.1). -/
def LiveConfig.factory : LiveConfig where
  levels := #v[0, 1, 2, 3]
  lines := Vector.replicate 32 ⟨false, 0, 0, 3, 5⟩
  modeCount := 4
  runWeight := #v[256, 280, 128, 160, 256, 320, 64, 192, 256, 256, 256, 64, 0, 0, 0, 0]
  startEquivalent := #v[600, 900, 300, 300, 900, 1800, 300, 600, 0, 0, 0, 0, 0, 0, 0, 0]
  changeEquivalent := #v[300, 600, 0, 0]
  tripEquivalent := #v[1800, 3600, 600, 7200]
  closeEquivalent := #v[0, 0, 0, 3600]
  refQualify := 4
  refBadLimit := 3
  refTolerance := 5
  autoReturn := true
  startSource := .ref
  holdoverLimit := 3600
  slewThreshold := 2000
  slewStep := 2
  localOffset := 0
  defaultWindow := 30
  roster := Vector.replicate 6 ⟨0, 0, 30, 15⟩

/-- How many indices an item code has; 0 for a code outside 1..22. -/
def itemIndices (code : Nat) : Nat :=
  if code = 1 then 4
  else if 2 ≤ code ∧ code ≤ 6 then 32
  else if code = 7 then 1
  else if code = 8 ∨ code = 9 then 16
  else if 10 ≤ code ∧ code ≤ 12 then 4
  else if 13 ≤ code ∧ code ≤ 22 then 1
  else 0

/-- `lo ≤ v ≤ hi`. -/
def within (lo hi v : Int) : Bool := decide (lo ≤ v) && decide (v ≤ hi)

/-- Whether a value lies in an item's range. -/
def itemInRange (code : Nat) (v : Int) : Bool :=
  match code with
  | 1 => within 0 3 v
  | 2 => within 0 1 v
  | 3 => within 0 8 v
  | 4 => within 0 63 v
  | 5 | 6 | 7 => within 1 8 v
  | 8 => within 0 1023 v
  | 9 | 10 | 11 | 12 => within 0 65535 v
  | 13 => within 2 16 v
  | 14 => within 1 8 v
  | 15 => within 1 20 v
  | 16 | 17 => within 0 1 v
  | 18 => within 1 86400 v
  | 19 => within 0 60000 v
  | 20 => v == 1 || v == 2 || v == 5 || v == 10
  | 21 => within (-720) 840 v
  | 22 => within 5 240 v
  | _ => false

/-- On and yes are 1, off and no are 0 (R162). -/
def boolValue (b : Bool) : Int := if b then 1 else 0

/-- The value of an item in a configuration; 0 where the code or index names none. -/
def itemGet (c : LiveConfig) (code index : Nat) : Int :=
  match code with
  | 1 => (c.levels[index]?.map (fun l => (l.val : Int))).getD 0
  | 2 => (c.lines[index]?.map (fun l => boolValue l.enabled)).getD 0
  | 3 => (c.lines[index]?.map (fun l => (l.unit.val : Int))).getD 0
  | 4 => (c.lines[index]?.map (fun l => (l.group.val : Int))).getD 0
  | 5 => (c.lines[index]?.map (fun l => (l.assertCount : Int))).getD 0
  | 6 => (c.lines[index]?.map (fun l => (l.releaseCount : Int))).getD 0
  | 7 => c.modeCount
  | 8 => ((c.runWeight[index]?).getD 0 : Nat)
  | 9 => ((c.startEquivalent[index]?).getD 0 : Nat)
  | 10 => ((c.changeEquivalent[index]?).getD 0 : Nat)
  | 11 => ((c.tripEquivalent[index]?).getD 0 : Nat)
  | 12 => ((c.closeEquivalent[index]?).getD 0 : Nat)
  | 13 => c.refQualify
  | 14 => c.refBadLimit
  | 15 => c.refTolerance
  | 16 => boolValue c.autoReturn
  | 17 => c.startSource.code
  | 18 => c.holdoverLimit
  | 19 => c.slewThreshold
  | 20 => c.slewStep
  | 21 => c.localOffset
  | 22 => c.defaultWindow
  | _ => 0

/-- Change one line's configuration; nothing where the index names no line. -/
def LiveConfig.mapLine (c : LiveConfig) (index : Nat) (f : LineConfig → LineConfig) : LiveConfig :=
  if h : index < 32 then { c with lines := c.lines.set index (f c.lines[index]) } else c

/-- The configuration with one item at a value in its range (R175). -/
def itemSet (c : LiveConfig) (code index : Nat) (v : Int) : LiveConfig :=
  match code with
  | 1 => { c with levels := c.levels.setIfInBounds index (Fin.ofNat 4 v.toNat) }
  | 2 => c.mapLine index fun l => { l with enabled := v == 1 }
  | 3 => c.mapLine index fun l => { l with unit := Fin.ofNat 9 v.toNat }
  | 4 => c.mapLine index fun l => { l with group := Fin.ofNat 64 v.toNat }
  | 5 => c.mapLine index fun l => { l with assertCount := v.toNat }
  | 6 => c.mapLine index fun l => { l with releaseCount := v.toNat }
  | 7 => { c with modeCount := v.toNat }
  | 8 => { c with runWeight := c.runWeight.setIfInBounds index v.toNat }
  | 9 => { c with startEquivalent := c.startEquivalent.setIfInBounds index v.toNat }
  | 10 => { c with changeEquivalent := c.changeEquivalent.setIfInBounds index v.toNat }
  | 11 => { c with tripEquivalent := c.tripEquivalent.setIfInBounds index v.toNat }
  | 12 => { c with closeEquivalent := c.closeEquivalent.setIfInBounds index v.toNat }
  | 13 => { c with refQualify := v.toNat }
  | 14 => { c with refBadLimit := v.toNat }
  | 15 => { c with refTolerance := v.toNat }
  | 16 => { c with autoReturn := v == 1 }
  | 17 => { c with startSource := if v == 0 then .ref else .xtal }
  | 18 => { c with holdoverLimit := v.toNat }
  | 19 => { c with slewThreshold := v.toNat }
  | 20 => { c with slewStep := v.toNat }
  | 21 => { c with localOffset := v }
  | 22 => { c with defaultWindow := v.toNat }
  | _ => c

end Sys2Proof.Machine
end

