-- ==== Sys2Proof/Machine/State.lean ====
section
/-! DEFINITION. The state of the ST-48, as plain data nested by the block that owns it (00 "Function diagram"), the queue of waiting
commands, the state after reset, and the reasons a step could stop. -/

namespace Sys2Proof.Machine

/-- The Time Base (01 section 1.1, 02 section 2.1). -/
structure TimeBase where
  /-- The interval clock, in microseconds (R1, log 1). -/
  clock : Nat
  source : Source
  target : Option Target
  rcHeld : Bool
  refQualified : Bool
  anchor : Option Nat
  /-- The moment of the last pulse of any kind: the absence limit in progress (R3, R5). -/
  lastPulse : Nat
  goodRun : Nat
  badRun : Nat
  crystalRunning : Bool
  boundaryPos : Nat
  /-- Station time at the boundary position, in milliseconds (02 section 2.1). -/
  boundaryTime : Int
  slewRemainder : Int
  pendingStep : Option Int
  /-- The latest reading of the second in progress that a changed length must not fall behind (R25 step 1, log 9). -/
  readFloor : Option Int
  lastPresented : Option LocalTime
  generation : BitVec 8
  timeSet : Bool
  elapsed : Nat
  holdover : Nat
  outageMark : Option Nat
  backupLost : Bool
deriving DecidableEq, Repr

/-- The Trip Table (04): 48 record slots, the pending list, the record serial counter. -/
structure TripTable where
  slots : Vector (Option TripRecord) 48
  pendingList : List PendingEntry
  serial : Word16
deriving DecidableEq, Repr

/-- The Tally Engine (05 section 5.3, 06): unit tallies with dirty marks, account slots, serial counter, freeze side table, POWER_FREEZE. -/
structure Tally where
  units : Vector UnitCounts 8
  dirty : Vector Bool 8
  accounts : Vector AccountSlot 24
  serial : Word16
  side : Vector SideEntry 8
  freeze : Bool
deriving DecidableEq, Repr

/-- The Store Controller and its non-volatile array (07), with the configuration fault flag (R176). -/
structure Store where
  images : Vector Image 32
  configImage : ConfigImage
  walk : WalkState
  number : Nat
  index : Fin 32
  sequence : Nat
  again : Bool
  periodic : Nat
  write : Option ImageWrite
  /-- The warning was taken while a write held the port: the final walk begins when that write ends (R132 step 1). -/
  finalDue : Bool
  failed : Vector Bool 32
  numbers : Vector (Option Nat) 32
  configWrite : Option ConfigWrite
  configFault : Bool
deriving DecidableEq, Repr

/-- The shift context and the shift figures (08 section 8.2), with the roster slots' last opened days (08 section 8.1). -/
structure Watch where
  state : WatchState
  crew : Fin 16
  incoming : Fin 16
  origin : Option Origin
  window : Option Nat
  openedAt : Option Nat
  warningDeadline : Option Nat
  windowDeadline : Option Nat
  overdue : Bool
  pendingSlot : Option (Fin 6)
  missed : Nat
  lastOutcome : Option SlotOutcome
  shift : Nat
  shiftStart : Stamp
  lastOpened : Vector (Option Int) 6
  baseline : Vector UnitCounts 8
  previous : Option PreviousShift
deriving DecidableEq, Repr

/-- The Station Port (09). -/
structure Port where
  slots : Vector ReplySlot 2
  nextOrder : Nat
  /-- The latched events as bits 0..11 of a condition word (R162). -/
  latched : Word32
  mask : Word32
  lastStart : StartKind
  levels : Vector (Fin 4) 4
  /-- The bytes shifted out in the last transfer: the model's view of port data out (log 26). -/
  dataOut : List Byte
deriving DecidableEq, Repr

/-- Supplies and discrete lines whose level the part's rules ask for (R118, R179), and the retained-valid marker. -/
structure Pins where
  mainPower : Bool
  /-- The backup supply is there: no loss of it has been commanded since main power last rose (R179, log 17). -/
  backupSupply : Bool
  resetLine : Bool
  warningLine : Bool
  retainedValid : Bool
  /-- Main power rose while the reset line was asserted: the start taken at its release (R179). -/
  startWaiting : Option StartKind
deriving DecidableEq, Repr

/-- The ST-48. -/
structure State where
  /-- The commands that are waiting, first in first out. -/
  pending : List Instr
  pins : Pins
  config : LiveConfig
  time : TimeBase
  lines : Vector LineState 32
  trips : TripTable
  units : Vector UnitTrack 8
  tally : Tally
  store : Store
  watch : Watch
  port : Port
deriving DecidableEq, Repr

/-- The reasons the part could stop with a fault: the spec gives none, so there is none. -/
inductive Fault where
deriving DecidableEq, Repr

/-- The reasons a command could be refused. -/
inductive Refusal where
  /-- A command that has no meaning yet, raised by its arm of `exec`; safe: nothing can be proved about it. No arm raises it now. -/
  | notModelled (mnemonic : String)
deriving DecidableEq, Repr

/-- Zero figures for each running mode. -/
def PerMode.zero : PerMode := ⟨0, 0, 0, 0⟩
/-- A unit tally all zero. -/
def UnitCounts.zero : UnitCounts := ⟨.zero, .zero, 0, 0, 0, 0, 0⟩
/-- A cleared entry of the freeze side table. -/
def SideEntry.zero : SideEntry := ⟨.zero, 0, .zero, 0, 0⟩
/-- The stamp of a cold start: grade UNSET, generation 0 (R159). -/
def Stamp.cold : Stamp := ⟨0, 0, 0, .unset⟩
/-- An input at a start: UNKNOWN with no run (R95, R96). -/
def Input.start : Input := ⟨.unknown, none, 0⟩
/-- A unit position after a cold start (R95). -/
def UnitTrack.cold : UnitTrack := ⟨.start, .start, .start, .start, .start, .stopped, false, false⟩
/-- An image of an array as delivered (R123). -/
def Image.delivered : Image := Image.write 0 .empty

/-- The part right after reset: the cold start of a part as delivered, warning released, has just ended at interval clock 0 (R180, log 5).
The start trigger's walk 1 has captured image 0, the first of the eight marked unit tallies (R126, R127). -/
def State.reset : State where
  pending := []
  pins := { mainPower := true, backupSupply := true, resetLine := false, warningLine := false, retainedValid := true, startWaiting := none }
  config := .factory
  time :=
    { clock := 0, source := .rc, target := some .ref, rcHeld := false, refQualified := false, anchor := none, lastPulse := 0,
      goodRun := 0, badRun := 0, crystalRunning := false, boundaryPos := 0, boundaryTime := 0, slewRemainder := 0,
      pendingStep := none, readFloor := none, lastPresented := none, generation := 0, timeSet := false, elapsed := 0,
      holdover := 0, outageMark := none, backupLost := false }
  lines := Vector.replicate 32 ⟨.released, 0, none, none, false, false, none⟩
  trips := { slots := Vector.replicate 48 none, pendingList := [], serial := 0 }
  units := Vector.replicate 8 .cold
  tally :=
    { units := Vector.replicate 8 .zero, dirty := #v[false, true, true, true, true, true, true, true],
      accounts := Vector.replicate 24 (.free false), serial := 0, side := Vector.replicate 8 .zero, freeze := false }
  store :=
    { images := Vector.replicate 32 .delivered, configImage := .write .factory, walk := .walking, number := 1, index := 0,
      sequence := 2, again := false, periodic := 0, write := some ⟨0, false, 1, .unit .zero⟩, finalDue := false,
      failed := Vector.replicate 32 false, numbers := Vector.replicate 32 (some 0), configWrite := none, configFault := false }
  watch :=
    { state := .noWatch, crew := 0, incoming := 0, origin := none, window := none, openedAt := none, warningDeadline := none,
      windowDeadline := none, overdue := false, pendingSlot := none, missed := 0, lastOutcome := none, shift := 0,
      shiftStart := .cold, lastOpened := Vector.replicate 6 none, baseline := Vector.replicate 8 .zero, previous := none }
  port :=
    { slots := Vector.replicate 2 .free, nextOrder := 1, latched := 0x800#32, mask := 0, lastStart := .cold,
      levels := #v[0, 1, 2, 3], dataOut := [] }

end Sys2Proof.Machine
end

