-- ==== Sys2Proof/Machine/Flags.lean ====
section
/-! DEFINITION. The condition set and the attention line (09 section 9.7): raising latched events, the held states as their causes
stand, and the level of the attention line. -/

namespace Sys2Proof.Machine

/-- Main power is present, no start is waiting and the reset line is released: the blocks other than the Time Base take samples, ticks, minute events and transfers (R39, R78, R161, R182). -/
def State.up (s : State) : Bool := s.pins.mainPower && !s.pins.resetLine && s.pins.startWaiting.isNone

/-- The Time Base observes the reference pulse and counts under main power: main power is present and no start is waiting (R20, R23, R179). -/
def State.timeUp (s : State) : Bool := s.pins.mainPower && s.pins.startWaiting.isNone

/-- The Time Base runs on the crystal from the backup supply: main power is off, or a start waits for the release of the reset line, and the retained domain is kept (R20, R179). -/
def State.onBackup (s : State) : Bool := !s.timeUp && s.pins.retainedValid

/-- The place of a latched event in the condition word (R162). -/
def Event.index : Event → Nat
  | .tripNew => 0 | .sourceFail => 1 | .sourceSwitched => 2 | .stepApplied => 3 | .handoverOpened => 4 | .handoverWarn => 5
  | .slotMissed => 6 | .serviceWarn => 7 | .serviceDue => 8 | .frameError => 9 | .recordLost => 10 | .started => 11

/-- The condition word with one latched event. -/
def Event.bit (e : Event) : Word32 := 1#32 <<< e.index

/-- Raise the latched events of a word (R170). The port is not there to take them under backup supply (R20) or in reset (R182, log 16). -/
def State.raiseWord (w : Word32) (s : State) : State :=
  if s.up then { s with port := { s.port with latched := s.port.latched ||| w } } else s

/-- Raise one latched event (R170). -/
def State.raise (e : Event) (s : State) : State := s.raiseWord e.bit

/-- A held state at its bit of the condition word (R162): TIME_UNSET is bit 16, CONFIG_FAULT bit 23. -/
def heldBit (i : Nat) (holds : Bool) : Word32 := if holds then 1#32 <<< (16 + i) else 0#32

/-- Whether a unit is in CONFLICT: the cause of MODE_CONFLICT (R84). -/
def State.anyConflict (s : State) : Bool := s.units.toList.any fun u => u.mode == .conflict

/-- Whether an image is FAILED: the cause of STORE_FAULT (R124). -/
def State.anyFailed (s : State) : Bool := s.store.failed.toList.any id

/-- The held states, each set exactly while its cause holds (09 section 9.7, R170). -/
def State.heldWord (s : State) : Word32 :=
  heldBit 0 (!s.time.timeSet) ||| heldBit 1 s.time.pendingStep.isSome ||| heldBit 2 (!s.trips.pendingList.isEmpty)
    ||| heldBit 3 s.anyConflict ||| heldBit 4 s.anyFailed ||| heldBit 5 s.tally.freeze ||| heldBit 6 s.watch.overdue
    ||| heldBit 7 s.store.configFault

/-- The condition set as a condition word (R173). -/
def State.conditions (s : State) : Word32 := s.port.latched ||| s.heldWord

/-- The attention line: asserted while a condition is set and not masked, and released while the part is off or in reset (R172, R179). -/
def State.attention (s : State) : Bool := s.up && decide (s.conditions &&& ~~~s.port.mask ≠ 0#32)

end Sys2Proof.Machine
end

