-- ==== Sys2Proof/Machine/Clock.lean ====
section
/-! DEFINITION. Station time: the reading, the slew amount, counting a boundary, stamps, grades and local time (01 sections 1.2 and 1.8,
02 sections 2.2 and 2.4), as operations on the Time Base alone. -/

namespace Sys2Proof.Machine

/-- The oscillator of the interval clock (R1): the current source's, or for REF the crystal while it is RUNNING and RC while it is STARTING. Intervals in progress carry on without a break when it changes, so the clock is one count. -/
def TimeBase.oscillator (t : TimeBase) : Source :=
  match t.source with
  | .xtal => .xtal
  | .rc => .rc
  | .ref => if t.crystalRunning then .xtal else .rc

/-- A target as a source. -/
def Target.source : Target → Source
  | .ref => .ref
  | .xtal => .xtal

/-- QUALIFYING while a switch is in flight (01 section 1.1). -/
def TimeBase.qualifying (t : TimeBase) : Bool := t.target.isSome

/-- Whole milliseconds of the interval clock since the boundary position (R24). -/
def TimeBase.msSince (t : TimeBase) : Nat := (t.clock - t.boundaryPos) / Config.usPerMs

/-- The slew step, or the remainder if its magnitude is smaller, with the sign of the remainder (R25 step 1). -/
def plainSlew (step : Nat) (remainder : Int) : Int :=
  if remainder.natAbs < step then remainder else if remainder < 0 then -(step : Int) else step

/-- The slew amount the next boundary applies (R25 step 1), raised to lie 1 ms beyond the latest station time already read in the second. -/
def TimeBase.slewAmount (step : Nat) (t : TimeBase) : Int :=
  let plain := plainSlew step t.slewRemainder
  match t.readFloor with
  | none => plain
  | some floor => if t.boundaryTime + 1000 + plain ≤ floor then floor + 1 - 1000 - t.boundaryTime else plain

/-- Station time as it reads now, in milliseconds (R24); it is never before the epoch (02 section 2.1). -/
def TimeBase.reading (step : Nat) (t : TimeBase) : Int :=
  max 0 (min Config.stationTopMs (t.boundaryTime + min (t.msSince : Int) (1000 + t.slewAmount step - 1)))

/-- Keep the reading made so far in the second before its length changes (R25 step 1, log 9). -/
def TimeBase.keepReading (step : Nat) (t : TimeBase) : TimeBase := { t with readFloor := some (t.reading step) }

/-- A saturating count one higher. -/
def satSucc (top n : Nat) : Nat := if n < top then n + 1 else n

/-- A saturating count increased by `k` (R87). -/
def satAdd (top n k : Nat) : Nat := if n < top then min top (n + k) else n

/-- The next whole second at or above a boundary time (R26), held at the top of R24. -/
def alignUp (ms : Int) : Int := if ms % 1000 = 0 then ms else min Config.stationTopMs (ms + (1000 - ms % 1000))

/-- Settle the slew amount and move the boundary time (R25), with REF alignment where it applies (R26). A raised amount is subtracted whole, so a remainder of -60,000 ms can leave the range of 02 section 2.1, by at most 10 ms: the model's choice (log 36). -/
def TimeBase.settle (step : Nat) (aligned : Bool) (t : TimeBase) : TimeBase :=
  let amount := t.slewAmount step
  let rest := t.slewRemainder - amount
  let moved := min Config.stationTopMs (t.boundaryTime + 1000 + amount)
  { t with
    slewRemainder := rest
    boundaryTime := if aligned && rest == 0 then alignUp moved else moved
    readFloor := none }

/-- The Time Base's own part of a counted boundary (R2 actions 1 to 5, with R25 in place of 3 and 4). -/
def TimeBase.count (step : Nat) (position : Nat) (aligned : Bool) (t : TimeBase) : TimeBase :=
  let t1 := { t with boundaryPos := position, elapsed := satSucc Config.elapsedTop t.elapsed }
  let t2 := t1.settle step aligned
  { t2 with holdover := if t.source = .ref then t.holdover else satSucc Config.countTop t.holdover }

/-- The grade of a stamp taken now, by the first row that applies (R16). -/
def TimeBase.grade (limit : Nat) (t : TimeBase) : Grade :=
  if !t.timeSet then .unset
  else match t.source with
    | .ref => .locked
    | .xtal => if t.holdover ≤ limit then .holdover else .free
    | .rc => .free

/-- A stamp taken now (R15); station time as read is never before the epoch (02 section 2.1). -/
def State.stamp (s : State) : Stamp :=
  let r := s.time.reading s.config.slewStep
  { generation := s.time.generation, seconds := (r / 1000).toNat, millis := (r % 1000).toNat,
    grade := s.time.grade s.config.holdoverLimit }

/-- Station seconds as read now (R24), never before the epoch. -/
def State.stationSeconds (s : State) : Nat := (s.time.reading s.config.slewStep / 1000).toNat

/-- Local minute and day from station seconds and the local offset (R34). -/
def localTimeOf (seconds : Nat) (offset : Int) : LocalTime :=
  let t : Int := seconds + 60 * offset
  { minute := (t % 86400 / 60).toNat, day := t / 86400 }

/-- Local time as read now (R34). -/
def State.localTime (s : State) : LocalTime := localTimeOf s.stationSeconds s.config.localOffset

/-- The interval clock stands: under backup supply the crystal has stopped or was not running, so station time keeps the value it had reached (R20 action 5). -/
def State.clockStands (s : State) : Bool := s.time.backupLost && !s.timeUp

/-- Time passes: the interval clock runs on (R1), unless it stands (R20 action 5). -/
def State.pass (dt : Nat) (s : State) : State :=
  { s with time := { s.time with clock := if s.clockStands then s.time.clock else s.time.clock + dt } }

/-- The interval clock has reached a moment; a moment already past stays past. -/
def State.reach (moment : Nat) (s : State) : State := { s with time := { s.time with clock := max s.time.clock moment } }

end Sys2Proof.Machine
end

