-- ==== Sys2Proof/Machine/Tallies.lean ====
section
/-! DEFINITION. The Tally Engine's operations (05 sections 5.3 and 5.4, 06): saturating counts, per-second and per-event accrual,
equivalent seconds, service states, the freeze side table and its crediting. -/

namespace Sys2Proof.Machine

/-- The figure of a running mode. -/
def PerMode.get (p : PerMode) : RunMode → Nat
  | .generate => p.generate | .pump => p.pump | .condense => p.condense | .spin => p.spin

/-- Increase the figure of a running mode, saturating (R87). -/
def PerMode.add (m : RunMode) (k : Nat) (p : PerMode) : PerMode :=
  match m with
  | .generate => { p with generate := satAdd Config.countTop p.generate k }
  | .pump => { p with pump := satAdd Config.countTop p.pump k }
  | .condense => { p with condense := satAdd Config.countTop p.condense k }
  | .spin => { p with spin := satAdd Config.countTop p.spin k }

/-- Increase each figure by the matching one, saturating (R117). -/
def PerMode.addAll (q p : PerMode) : PerMode :=
  { generate := satAdd Config.countTop p.generate q.generate, pump := satAdd Config.countTop p.pump q.pump,
    condense := satAdd Config.countTop p.condense q.condense, spin := satAdd Config.countTop p.spin q.spin }

/-- A unit mode as a running mode. -/
def UnitMode.running : UnitMode → Option RunMode
  | .generate => some .generate | .pump => some .pump | .condense => some .condense | .spin => some .spin
  | .stopped => none | .conflict => none

/-- One more in a 32-bit count. -/
def count1 (n : Nat) : Nat := satAdd Config.countTop n 1

/-! ### Unit tallies -/

/-- Change one unit tally; a change of a field sets its dirty mark (R87). -/
def Tally.changeUnit (u : Fin 8) (f : UnitCounts → UnitCounts) (t : Tally) : Tally :=
  { t with
    units := t.units.set u (f t.units[u])
    dirty := t.dirty.set u (t.dirty[u] || decide (f t.units[u] ≠ t.units[u])) }

/-- Change every unit tally by its position, with the dirty marks of R87. -/
def Tally.changeUnits (f : Fin 8 → UnitCounts → UnitCounts) (t : Tally) : Tally :=
  { t with
    units := Vector.ofFn fun u : Fin 8 => f u t.units[u]
    dirty := Vector.ofFn fun u : Fin 8 => t.dirty[u] || decide (f u t.units[u] ≠ t.units[u]) }

/-! ### Service states (R112) -/

/-- The warning threshold: next-due less 3,600 times the margin, or 0 (R97). -/
def LiveFields.threshold (l : LiveFields) : Nat := l.nextDue - Config.secondsPerHour * l.margin

/-- The service state the figures give, by the first row that applies (R112). -/
def serviceOf (equivalent : Nat) (l : LiveFields) : Service :=
  if l.nextDue ≤ equivalent then .due else if l.threshold ≤ equivalent then .warn else .normal

/-- The conditions a change of service state raises (R112). -/
def serviceEvents (before after : Service) : Word32 :=
  match before, after with
  | .normal, .warn => Event.serviceWarn.bit
  | .warn, .due => Event.serviceDue.bit
  | .normal, .due => Event.serviceWarn.bit ||| Event.serviceDue.bit
  | _, _ => 0#32

/-- Evaluate the service state of a LIVE account: the account after, and the events raised (R112). -/
def Account.evaluate (a : Account) : Account × Word32 :=
  match a.live with
  | none => (a, 0#32)
  | some l =>
    let v := serviceOf a.figures.equivalent l
    ({ a with live := some { l with service := v } }, serviceEvents l.service v)

/-- Evaluate an account only where its equivalent seconds differ from those of the account before (R108). -/
def Account.evaluateIfMoved (a : Account) (before : Account) : Account × Word32 :=
  if a.figures.equivalent = before.figures.equivalent then (a, 0#32) else a.evaluate

/-! ### Accrual to an account (R107 to R110) -/

/-- Add whole equivalent seconds, held at 2^40−1 (R97). -/
def Account.earn (k : Nat) (a : Account) : Account :=
  { a with figures := { a.figures with equivalent := satAdd Config.elapsedTop a.figures.equivalent k } }

/-- Add 1/256 parts and carry whole seconds (R107 steps 2 to 4, R117). -/
def Account.earnParts (parts : Nat) (a : Account) : Account :=
  { (a.earn ((a.fraction + parts) / 256)) with fraction := (a.fraction + parts) % 256 }

/-- An item held per class and running mode: index 4 × class + mode (10 section 10.1). -/
def perClassMode (v : Vector Nat 16) (c : AccountClass) (m : RunMode) : Nat := (v[4 * c.code + m.code]?).getD 0

/-- An item held per class. -/
def perClass (v : Vector Nat 4) (c : AccountClass) : Nat := (v[c.code]?).getD 0

/-- A second tick on a running unit (R107). -/
def accrueSecond (cfg : LiveConfig) (c : AccountClass) (m : RunMode) (a : Account) : Account × Word32 :=
  let a1 := { a with figures := { a.figures with run := a.figures.run.add m 1 } }
  (a1.earnParts (perClassMode cfg.runWeight c m)).evaluate

/-- A start of mode m (R108). -/
def accrueStart (cfg : LiveConfig) (c : AccountClass) (m : RunMode) (a : Account) : Account × Word32 :=
  let a1 := { a with figures := { a.figures with starts := a.figures.starts.add m 1 } }
  (a1.earn (perClassMode cfg.startEquivalent c m)).evaluateIfMoved a

/-- A mode change (R108). -/
def accrueChange (cfg : LiveConfig) (c : AccountClass) (a : Account) : Account × Word32 :=
  let a1 := { a with figures := { a.figures with changes := count1 a.figures.changes } }
  (a1.earn (perClass cfg.changeEquivalent c)).evaluateIfMoved a

/-- A closing, counted by BREAKER accounts alone (R109). -/
def accrueClosing (cfg : LiveConfig) (c : AccountClass) (a : Account) : Account × Word32 :=
  if c = .breaker then
    let a1 := { a with figures := { a.figures with closings := count1 a.figures.closings } }
    (a1.earn (perClass cfg.closeEquivalent c)).evaluate
  else (a, 0#32)

/-- A trip report with the unit mode it carries (R110). -/
def accrueTrip (cfg : LiveConfig) (mode : UnitMode) (c : AccountClass) (a : Account) : Account × Word32 :=
  let a1 := { a with figures := { a.figures with trips := count1 a.figures.trips } }
  (if mode.running.isSome then a1.earn (perClass cfg.tripEquivalent c) else a1).evaluate

/-- Apply a change to an account slot where it holds an account bound to a unit, with the dirty mark of R111: the slot after, and the events raised. -/
def AccountSlot.onBound (f : Fin 8 → AccountClass → Option (Account → Account × Word32)) : AccountSlot → AccountSlot × Word32
  | .free r => (.free r, 0#32)
  | .held a d =>
    match a.live with
    | none => (.held a d, 0#32)
    | some l =>
      match l.bound.bind (fun u => f u l.cls) with
      | none => (.held a d, 0#32)
      | some g => (.held (g a).1 (d || decide ((g a).1 ≠ a)), (g a).2)

/-- Apply a change to every account bound to a unit it names, and raise the service conditions. -/
def State.onBound (f : Fin 8 → AccountClass → Option (Account → Account × Word32)) (s : State) : State :=
  let after := fun i : Fin 24 => s.tally.accounts[i].onBound f
  ({ s with tally := { s.tally with accounts := Vector.ofFn fun i => (after i).1 } }).raiseWord
    ((List.finRange 24).foldl (fun w i => w ||| (after i).2) 0#32)

/-- A change for the accounts bound to one unit. -/
def forUnit (u : Fin 8) (g : AccountClass → Account → Account × Word32) (v : Fin 8) (c : AccountClass) :
    Option (Account → Account × Word32) :=
  if v = u then some (g c) else none

/-! ### The tick (R88) -/

/-- The unit tally's own part of a tick. -/
def tickCounts (freeze : Bool) (u : UnitTrack) (c : UnitCounts) : UnitCounts :=
  if u.settled then
    if freeze then c
    else match u.mode.running with
      | some m => { c with run := c.run.add m 1 }
      | none => if u.mode = .conflict then { c with conflict := count1 c.conflict } else c
  else if u.mode = .stopped then c
  else { c with unobserved := count1 c.unobserved }

/-- The side table's part of a tick while POWER_FREEZE holds (R90). -/
def tickSide (freeze : Bool) (u : UnitTrack) (e : SideEntry) : SideEntry :=
  if u.settled && freeze then
    match u.mode.running with
    | some m => { e with run := e.run.add m 1 }
    | none => if u.mode = .conflict then { e with conflict := count1 e.conflict } else e
  else e

/-- Which accounts accrue at a tick: those bound to a settled unit in a running mode, outside a freeze (R107). -/
def tickAccount (cfg : LiveConfig) (freeze : Bool) (units : Vector UnitTrack 8) (u : Fin 8) (c : AccountClass) :
    Option (Account → Account × Word32) :=
  if units[u].settled && !freeze then units[u].mode.running.map fun m => accrueSecond cfg c m else none

/-- The Tally Engine takes a second tick (R88, R90, R107). -/
def State.tallyTick (s : State) : State :=
  let t := s.tally.changeUnits fun u c => tickCounts s.tally.freeze s.units[u] c
  let side := Vector.ofFn fun u : Fin 8 => tickSide s.tally.freeze s.units[u] s.tally.side[u]
  ({ s with tally := { t with side := side } }).onBound (tickAccount s.config s.tally.freeze s.units)

/-! ### Reports (R89, R90) and trip reports (R92, R110) -/

/-- A report in the unit tally (R89). -/
def reportCounts (r : Report) (c : UnitCounts) : UnitCounts :=
  match r with
  | .start m => { c with starts := c.starts.add m 1 }
  | .change _ => { c with changes := count1 c.changes }
  | .closing => { c with closings := count1 c.closings }

/-- A report in the side table (R90). -/
def reportSide (r : Report) (e : SideEntry) : SideEntry :=
  match r with
  | .start m => { e with starts := e.starts.add m 1 }
  | .change _ => { e with changes := count1 e.changes }
  | .closing => { e with closings := count1 e.closings }

/-- A report in an account bound to the unit (R108, R109). -/
def reportAccount (cfg : LiveConfig) (r : Report) (c : AccountClass) (a : Account) : Account × Word32 :=
  match r with
  | .start m => accrueStart cfg c m a
  | .change _ => accrueChange cfg c a
  | .closing => accrueClosing cfg c a

/-- The Tally Engine takes a report of the Tracker (R89, R90). -/
def State.takeReport (u : Fin 8) (r : Report) (s : State) : State :=
  if s.tally.freeze then
    { s with tally := { s.tally with side := s.tally.side.set u (reportSide r s.tally.side[u]) } }
  else
    ({ s with tally := s.tally.changeUnit u (reportCounts r) }).onBound (forUnit u (reportAccount s.config r))

/-- The Tally Engine takes a trip report, frozen or not (R92, R110). -/
def State.takeTripReport (u : Fin 8) (mode : UnitMode) (s : State) : State :=
  ({ s with tally := s.tally.changeUnit u fun c => { c with trips := count1 c.trips } }).onBound
    (forUnit u (accrueTrip s.config mode))

/-! ### Crediting the freeze side table (R117) -/

/-- A unit tally credited with its entry. -/
def creditCounts (e : SideEntry) (c : UnitCounts) : UnitCounts :=
  { c with
    run := c.run.addAll e.run
    starts := c.starts.addAll e.starts
    changes := satAdd Config.countTop c.changes e.changes
    conflict := satAdd Config.countTop c.conflict e.conflict
    closings := satAdd Config.countTop c.closings e.closings }

/-- The sum over the running modes of a per-mode item times an entry's figures. -/
def weighted (v : Vector Nat 16) (c : AccountClass) (p : PerMode) : Nat :=
  perClassMode v c .generate * p.generate + perClassMode v c .pump * p.pump + perClassMode v c .condense * p.condense
    + perClassMode v c .spin * p.spin

/-- An account credited with its unit's entry; the service state is evaluated once. -/
def creditAccount (cfg : LiveConfig) (e : SideEntry) (c : AccountClass) (a : Account) : Account × Word32 :=
  let closings := if c = .breaker then e.closings else 0
  let f := a.figures
  let a1 := { a with figures := { f with
    run := f.run.addAll e.run
    starts := f.starts.addAll e.starts
    changes := satAdd Config.countTop f.changes e.changes
    closings := satAdd Config.countTop f.closings closings } }
  let a2 := a1.earnParts (weighted cfg.runWeight c e.run)
  (a2.earn (weighted cfg.startEquivalent c e.starts + perClass cfg.changeEquivalent c * e.changes
    + perClass cfg.closeEquivalent c * closings)).evaluate

/-- The dirty mark of every bound account is set by the crediting (R117, log 21). -/
def AccountSlot.markBound : AccountSlot → AccountSlot
  | .free r => .free r
  | .held a d => .held a (d || (a.live.bind (·.bound)).isSome)

/-- Credit the freeze side table, clear it and release POWER_FREEZE (R117). -/
def State.credit (s : State) : State :=
  let side := s.tally.side
  let t := s.tally.changeUnits fun u c => creditCounts side[u] c
  let marked := Vector.ofFn fun i : Fin 24 => t.accounts[i].markBound
  ({ s with tally := { t with accounts := marked, side := Vector.replicate 8 .zero, freeze := false } }).onBound
    (fun u c => some (creditAccount s.config side[u] c))

/-! ### The running check (R103) -/

/-- Whether a unit passes the running check for an account of a class. -/
def UnitTrack.passes (c : AccountClass) (u : UnitTrack) : Bool :=
  u.settled && u.mode == .stopped && (c != .breaker || !u.breakerClosed)

end Sys2Proof.Machine
end

