-- ==== Sys2Proof/Machine/Walk.lean ====
section
/-! DEFINITION. The Store Controller (07): marks, captures, checkpoint walks, the final walk, the store arbiter and the ends of writes. -/

namespace Sys2Proof.Machine

/-- The port holder (R134): a holder keeps the port from the capture of its write until the write ends. -/
def Store.holder (t : Store) : PortHolder :=
  match t.write, t.configWrite with
  | some _, _ => .walk
  | none, some (.writing _ _) => .config
  | none, _ => .none

/-- Whether a configuration write waits for the port (07 section 7.1). -/
def Store.configWaiting (t : Store) : Bool := t.configWrite == some .waiting

/-- The unit position or account slot of an image (07 section 7.1). -/
def imageRecord (i : Fin 32) : Fin 8 ⊕ Fin 24 :=
  if h : i.val < 8 then .inl ⟨i.val, h⟩ else .inr ⟨i.val - 8, by omega⟩

/-- An account slot is marked by its dirty mark, or by its retired mark when free (R125). -/
def AccountSlot.marked : AccountSlot → Bool
  | .free retired => retired
  | .held _ dirty => dirty

/-- Set or clear the mark of an account slot. -/
def AccountSlot.setMark (b : Bool) : AccountSlot → AccountSlot
  | .free _ => .free b
  | .held a _ => .held a b

/-- Whether the record of an image is marked now (R125). -/
def Tally.marked (t : Tally) (i : Fin 32) : Bool :=
  match imageRecord i with
  | .inl u => t.dirty[u]
  | .inr k => t.accounts[k].marked

/-- Set or clear the mark of an image's record: the dirty mark, or the retired mark of a free slot (R127, R130). -/
def Tally.setMark (b : Bool) (i : Fin 32) (t : Tally) : Tally :=
  match imageRecord i with
  | .inl u => { t with dirty := t.dirty.set u b }
  | .inr k => { t with accounts := t.accounts.set k (t.accounts[k].setMark b) }

/-- The contents captured for an image: the tally, the account, or EMPTY for a free slot (R127). -/
def Tally.contents (t : Tally) (i : Fin 32) : ImageContent :=
  match imageRecord i with
  | .inl u => .unit t.units[u]
  | .inr k =>
    match t.accounts[k] with
    | .free _ => .empty
    | .held a _ => .account a

/-- The next marked image at or after an index (R125, R128). -/
def Tally.nextMarked (t : Tally) (from' : Nat) : Option (Fin 32) :=
  (List.finRange 32).find? fun i => decide (from' ≤ i.val) && t.marked i

/-- Capture the record of an image for the walk, clearing its mark (R127). -/
def State.capture (i : Fin 32) (s : State) : State :=
  { s with
    tally := s.tally.setMark false i
    store := { s.store with index := i, write := some ⟨i, false, s.store.number, s.tally.contents i⟩ } }

/-- Grant the port to a waiting configuration write, which captures the live configuration (R134, R135, R175). -/
def State.grantConfig (s : State) : State :=
  if s.store.configWaiting && s.store.holder == .none && s.store.walk != .final then
    { s with store := { s.store with configWrite := some (.writing false (.write s.config)) } }
  else s

/-- A new walk: the next walk number, from image 0 (R126, R132). -/
def Store.begin (w : WalkState) (t : Store) : Store :=
  { t with walk := w, number := t.sequence, sequence := satSucc Config.countTop t.sequence, index := 0, again := false }

/-- The walk visits the images from an index: it captures the next marked image, or waits there while the port is held. None when it has passed image 31. -/
def State.visit (from' : Nat) (s : State) : Option State :=
  match s.tally.nextMarked from' with
  | none => none
  | some i =>
    if s.store.holder = .none then some (s.capture i)
    else some { s with store := { s.store with index := i } }

/-- The walk has passed image 31 (R128): a walk-again mark begins one further walk; a final walk ends HELD while the warning holds. The walk index stands where the last visit or the walk's beginning left it (log 33). -/
def State.endWalk (s : State) : State :=
  match s.store.walk with
  | .walking =>
    if s.store.again then
      let b := { s with store := s.store.begin .walking }
      (b.visit 0).getD { b with store := { b.store with walk := .idle } }
    else { s with store := { s.store with walk := .idle } }
  | .final => ({ s with store := { s.store with walk := if s.tally.freeze then .held else .idle } }).grantConfig
  | .idle => s
  | .held => s

/-- The walk goes on from an index (R128). -/
def State.goOn (from' : Nat) (s : State) : State := (s.visit from').getD s.endWalk

/-- A checkpoint trigger (R126). -/
def State.trigger (s : State) : State :=
  match s.store.walk with
  | .idle => ({ s with store := s.store.begin .walking }).goOn 0
  | .walking => { s with store := { s.store with again := true } }
  | .final => s
  | .held => s

/-- The final walk begins (R132 steps 2 and 3), in FINAL whether or not the warning still holds; R128 ends it in HELD or IDLE by that. -/
def State.beginFinal (s : State) : State :=
  ({ s with store := { s.store.begin .final with finalDue := false } } : State).goOn 0

/-- The Store Controller takes the power-fail warning (R132): a write holding the port runs to its end first. Two points beside R133 are the model's choice (log 12, DESIGN CHOICE): a warning withdrawn and taken again before that end finds the final walk due already, and one final walk begins, with one number; and one taken again while a final walk that began after the withdrawal is in flight begins no further walk, since R132 begins none in FINAL. -/
def State.takeWarning (s : State) : State :=
  match s.store.walk with
  | .final => s
  | .held => s
  | .idle | .walking =>
    if s.store.holder = .none then s.beginFinal else { s with store := { s.store with finalDue := true } }

/-- The Store Controller takes the release of the warning (R133). -/
def State.releaseWalk (s : State) : State :=
  match s.store.walk with
  | .final => { s with store := { s.store with walk := .walking } }
  | .held => { s with store := { s.store with walk := .idle } }
  | .idle => s
  | .walking => s

/-- After a write of image i has ended the port is returned: the final walk due begins, or a waiting configuration write is granted ahead of the walk's next image (R128, R132, R134). -/
def State.afterImage (i : Fin 32) (s : State) : State :=
  if s.store.finalDue then s.beginFinal
  else if s.store.walk = .walking ∨ s.store.walk = .final then s.grantConfig.goOn (i.val + 1)
  else s.grantConfig

/-- After a configuration write has ended: the final walk due begins, or a walk waiting at its index goes on there (R132, R134). -/
def State.afterConfig (s : State) : State :=
  if s.store.finalDue then s.beginFinal
  else if s.store.walk = .walking ∨ s.store.walk = .final then s.goOn s.store.index.val
  else s

/-- The end of an image write and its verify (R129, R130). -/
def State.imageEnd (verify : ImageVerify) (s : State) : State :=
  match s.store.write with
  | none => s
  | some w =>
    match verify with
    | .matched =>
      ({ s with store := { s.store with
          images := s.store.images.set w.image (.write w.number w.content)
          failed := s.store.failed.set w.image false
          numbers := s.store.numbers.set w.image (some w.number)
          write := none } }).afterImage w.image
    | .mismatched retained =>
      if w.second then
        ({ s with
            store := { s.store with
              images := s.store.images.set w.image retained
              failed := s.store.failed.set w.image true
              numbers := s.store.numbers.set w.image none
              write := none }
            tally := s.tally.setMark true w.image }).afterImage w.image
      else
        { s with store := { s.store with
            images := s.store.images.set w.image retained
            write := some { w with second := true } } }

/-- The store's part of the end of a configuration write: whether it ended and with a match (R135, R175, R176). -/
def State.configEnd (verify : ConfigVerify) (s : State) : State × Option Bool :=
  match s.store.configWrite with
  | some (.writing second image) =>
    match verify with
    | .matched =>
      ({ s with store := { s.store with configImage := image, configWrite := none, configFault := false } }, some true)
    | .mismatched retained =>
      if second then
        ({ s with store := { s.store with configImage := retained, configWrite := none, configFault := true } }, some false)
      else
        ({ s with store := { s.store with configImage := retained, configWrite := some (.writing true image) } }, none)
  | _ => (s, none)

/-- The Store Controller stops (R136): a walk ends where it stands, an image write is cut off and its slot marked again, and a configuration write is cut off or not made. A cut-off write leaves what the array retained. -/
def State.stopStore (image : Image) (config : ConfigImage) (s : State) : State :=
  let cut := match s.store.write with
    | some w => { s with
        store := { s.store with images := s.store.images.set w.image image }
        tally := s.tally.setMark true w.image }
    | none => s
  let stored := match cut.store.configWrite with
    | some (.writing _ _) => config
    | _ => cut.store.configImage
  { cut with store := { cut.store with
      configImage := stored, walk := .idle, again := false, write := none, finalDue := false, configWrite := none } }

/-- The Store Controller's part of a tick: the periodic count, and at 3,600 ticks a periodic trigger (R126). -/
def State.storeTick (s : State) : State :=
  if s.store.periodic + 1 < Config.periodicTicks then { s with store := { s.store with periodic := s.store.periodic + 1 } }
  else ({ s with store := { s.store with periodic := 0 } }).trigger

/-! ### Start checks (R137, R138) -/

/-- The contents of an image fit its position: unit tallies in images 0..7, accounts in 8..31. A record of the other kind cannot stand there and counts as bad (log 24). -/
def ImageContent.fits (i : Fin 32) : ImageContent → Bool
  | .empty => true
  | .unit _ => decide (i.val < 8)
  | .account _ => decide (8 ≤ i.val)

/-- An image is found good at a start check (R137, R138). -/
def Store.foundGood (t : Store) (i : Fin 32) : Bool := t.images[i].good && t.images[i].content.fits i

/-- One more than the greatest walk sequence number among the good images, held at the top (R137). -/
def Store.nextSequence (t : Store) : Nat :=
  satSucc Config.countTop ((List.finRange 32).foldl (fun m i => if t.foundGood i then max m t.images[i].number else m) 0)

/-- The Store Controller's own state after a start check (R137, R138). -/
def Store.checked (t : Store) : Store :=
  { t with
    failed := Vector.ofFn fun i : Fin 32 => !t.foundGood i
    numbers := Vector.ofFn fun i : Fin 32 => if t.foundGood i then some t.images[i].number else none
    sequence := t.nextSequence
    walk := .idle, again := false, write := none, finalDue := false, periodic := 0, configWrite := none }

/-- The start trigger, or the final walk in its place when the warning is asserted (R137, R138). -/
def State.startTrigger (s : State) : State := if s.pins.warningLine then s.takeWarning else s.trigger

end Sys2Proof.Machine
end

