-- ==== Sys2Proof/Machine/Roster.lean ====
section
/-! DEFINITION. The Watch Controller (08): authority, slot starts, opening a handover, the pending slot, shift boundaries, deadlines. -/

namespace Sys2Proof.Machine

/-- Whether a crew holds authority in the watch state (R143). -/
def Watch.authority (w : Watch) (crew : Fin 16) : Bool :=
  crew != 0 && match w.state with
    | .noWatch => false
    | .onWatch | .opened => crew == w.crew
    | .signed => crew == w.crew || crew == w.incoming

/-- A handover is in progress (R31, R147). -/
def Watch.handover (w : Watch) : Bool := w.state == .opened || w.state == .signed

/-- The opening's context (R147). -/
def Watch.open' (origin : Origin) (crew : Fin 16) (window : Nat) (warning : Nat) (elapsed : Nat) (w : Watch) : Watch :=
  let deadline := min Config.elapsedTop (elapsed + 60 * window)
  { w with
    state := .opened, incoming := crew, origin := some origin, window := some window, openedAt := some elapsed,
    windowDeadline := some deadline,
    warningDeadline := if warning = 0 then none else some (deadline - 60 * warning),
    overdue := false }

/-- A handover opens from ON_WATCH (R147). -/
def State.openHandover (origin : Origin) (crew : Fin 16) (window warning : Nat) (s : State) : State :=
  ({ s with watch := s.watch.open' origin crew window warning s.time.elapsed }).raise .handoverOpened

/-- Set the last slot outcome. -/
def State.slotOutcome (i : Fin 6) (day : Int) (r : SlotResult) (s : State) : State :=
  { s with watch := { s.watch with lastOutcome := some ⟨i, day, r⟩ } }

/-- A slot becomes the pending slot; an earlier one is dropped and missed (R146). -/
def State.makePending (i : Fin 6) (s : State) : State :=
  match s.watch.pendingSlot with
  | none => { s with watch := { s.watch with pendingSlot := some i } }
  | some _ => ({ s with watch := { s.watch with pendingSlot := some i, missed := satSucc 255 s.watch.missed } }).raise .slotMissed

/-- A slot that starts is taken by the watch state (R145). -/
def State.takeSlot (i : Fin 6) (day : Int) (s : State) : State :=
  let r := s.config.roster[i]
  match s.watch.state with
  | .noWatch => s.slotOutcome i day .consumed
  | .onWatch =>
    if r.crew = s.watch.crew then s.slotOutcome i day .continued
    else (s.openHandover (.slot i) r.crew r.window r.warning).slotOutcome i day .opened
  | .opened | .signed => (s.makePending i).slotOutcome i day .pending

/-- Whether a slot starts at a minute event (R144), time set being yes. -/
def State.slotStarts (t : LocalTime) (s : State) (i : Fin 6) : Bool :=
  let r := s.config.roster[i]
  r.crew != 0 && decide (r.start ≤ t.minute) && match s.watch.lastOpened[i] with
    | none => true
    | some d => decide (d < t.day)

/-- Slot a comes before slot b: earlier start minute, or equal and lower number (R144). -/
def slotBefore (roster : Vector RosterSlot 6) (a b : Fin 6) : Bool :=
  decide (roster[a].start < roster[b].start) || (roster[a].start == roster[b].start && decide (a < b))

/-- Place a slot in start order. -/
def insertSlot (roster : Vector RosterSlot 6) (i : Fin 6) : List (Fin 6) → List (Fin 6)
  | [] => [i]
  | j :: js => if slotBefore roster i j then i :: j :: js else j :: insertSlot roster i js

/-- The six slots in start order. -/
def slotOrder (roster : Vector RosterSlot 6) : List (Fin 6) := (List.finRange 6).foldl (fun l i => insertSlot roster i l) []

/-- One slot in its turn at a minute event: if it starts, its last opened day is set and it is taken (R144). -/
def State.trySlot (t : LocalTime) (i : Fin 6) (s : State) : State :=
  if s.slotStarts t i then
    ({ s with watch := { s.watch with lastOpened := s.watch.lastOpened.set i (some t.day) } }).takeSlot i t.day
  else s

/-- The Watch Controller takes a minute event (R144). -/
def State.takeMinute (t : LocalTime) (s : State) : State :=
  if s.time.timeSet then (slotOrder s.config.roster).foldl (fun a i => a.trySlot t i) s else s

/-- A minute event with the local time as read now: it becomes the last presented local time, and the Watch Controller takes it (R34). -/
def State.presentMinute (s : State) : State :=
  if s.up then
    let t := s.localTime
    ({ s with time := { s.time with lastPresented := some t } }).takeMinute t
  else s

/-- Handle the pending slot, if one is held, when a handover has ended (R146, R154). Its day is the day it started (log 22). -/
def State.handlePending (s : State) : State :=
  match s.watch.pendingSlot with
  | none => s
  | some i =>
    let s1 := { s with watch := { s.watch with pendingSlot := none } }
    let day := (s.watch.lastOpened[i]).getD 0
    if s.config.roster[i].crew = 0 then s1.slotOutcome i day .dropped else s1.takeSlot i day

/-! ### Shift boundaries (R152) -/

/-- Figure by figure difference of per-mode counts. -/
def PerMode.minus (p q : PerMode) : PerMode :=
  ⟨p.generate - q.generate, p.pump - q.pump, p.condense - q.condense, p.spin - q.spin⟩

/-- Each live figure less the baseline figure (R152, R157). -/
def UnitCounts.minus (c b : UnitCounts) : UnitCounts :=
  { run := c.run.minus b.run, starts := c.starts.minus b.starts, changes := c.changes - b.changes, trips := c.trips - b.trips,
    conflict := c.conflict - b.conflict, unobserved := c.unobserved - b.unobserved, closings := c.closings - b.closings }

/-- A shift boundary with the stamp of the moment and the crew on watch before it (R152). -/
def State.boundary (stamp : Stamp) (crew : Fin 16) (s : State) : State :=
  let w := s.watch
  ({ s with watch := { w with
      previous := some
        { number := w.shift, crew := crew, start := w.shiftStart, stop := stamp,
          deltas := Vector.ofFn fun u : Fin 8 => s.tally.units[u].minus w.baseline[u] }
      baseline := s.tally.units
      shift := satSucc Config.countTop w.shift
      shiftStart := stamp } }).trigger

/-! ### Deadlines (R155) -/

/-- A deadline is reached when the elapsed counter is at or above it. -/
def reached (elapsed : Nat) (d : Option Nat) : Bool := d.any fun x => decide (x ≤ elapsed)

/-- The warning deadline's expiry (R155). -/
def State.warningExpiry (s : State) : State :=
  if reached s.time.elapsed s.watch.warningDeadline then
    ({ s with watch := { s.watch with warningDeadline := none } }).raise .handoverWarn
  else s

/-- The window deadline's expiry (R155). -/
def State.windowExpiry (s : State) : State :=
  if reached s.time.elapsed s.watch.windowDeadline then
    { s with watch := { s.watch with windowDeadline := none, overdue := true } }
  else s

/-- The Watch Controller's part of a tick: the warning expiry before the window expiry (R155). -/
def State.watchTick (s : State) : State := s.warningExpiry.windowExpiry

/-- The shift context of a handover's end: no handover in flight (R151 action 4, R153). -/
def Watch.closeHandover (crew : Fin 16) (w : Watch) : Watch :=
  { w with
    state := .onWatch, crew := crew, incoming := 0, origin := none, window := none, openedAt := none, warningDeadline := none,
    windowDeadline := none, overdue := false }

end Sys2Proof.Machine
end

