-- ==== Sys2Proof/Machine/Trips.lean ====
section
/-! DEFINITION. The Trip Table's operations (04): live items, creation, recurrence, release, the pending list's order, promotion,
unresolved items and carries. -/

namespace Sys2Proof.Machine

/-- A record is live while ACTIVE, ACKED or CLEARED (R56). -/
def TripRecord.isLive (r : TripRecord) : Bool := r.state != .resolved

/-- A record is unresolved in ACTIVE or CLEARED (R72). -/
def TripRecord.isUnresolved (r : TripRecord) : Bool := r.state == .active || r.state == .cleared

/-- The record of a slot satisfies a test. -/
def slotHas (p : TripRecord → Bool) (o : Option TripRecord) : Bool := o.any p

/-- The slot of a line's live record. -/
def TripTable.liveSlot (t : TripTable) (line : Fin 32) : Option (Fin 48) :=
  (List.finRange 48).find? fun i => slotHas (fun r => r.line == line && r.isLive) t.slots[i]

/-- A line's pending entry. -/
def TripTable.pendingOf (t : TripTable) (line : Fin 32) : Option PendingEntry := t.pendingList.find? fun e => e.line == line

/-- The kind of a line's live item, if it has one (R56). -/
def TripTable.liveKind (t : TripTable) (line : Fin 32) : Option TripKind :=
  match t.liveSlot line with
  | some i => t.slots[i].map (·.kind)
  | none => (t.pendingOf line).map (·.kind)

/-- The lowest free slot (R58). -/
def TripTable.freeSlot (t : TripTable) : Option (Fin 48) := (List.finRange 48).find? fun i => t.slots[i].isNone

/-- Occupied slots, 0..48 (R74). -/
def TripTable.occupied (t : TripTable) : Nat := t.slots.toList.countP Option.isSome

/-- The pending count (R72). -/
def TripTable.pendingCount (t : TripTable) : Nat := t.pendingList.length

/-- The unresolved count (R72). -/
def TripTable.unresolved (t : TripTable) : Nat := t.slots.toList.countP (slotHas TripRecord.isUnresolved) + t.pendingCount

/-! ### The order of the pending list (R65) -/

/-- How many generations a stamp lies behind the current one, modulo 256. -/
def behind (now : BitVec 8) (t : Stamp) : Nat := (now - t.generation).toNat

/-- Entry `a` comes before entry `b`: earlier first stamp, or equal first stamps and a lower line. -/
def entryBefore (now : BitVec 8) (a b : PendingEntry) : Bool :=
  if behind now a.first ≠ behind now b.first then decide (behind now b.first < behind now a.first)
  else if a.first.seconds ≠ b.first.seconds then decide (a.first.seconds < b.first.seconds)
  else if a.first.millis ≠ b.first.millis then decide (a.first.millis < b.first.millis)
  else decide (a.line < b.line)

/-- Place an entry after every entry that comes before it. -/
def insertEntry (now : BitVec 8) (e : PendingEntry) : List PendingEntry → List PendingEntry
  | [] => [e]
  | x :: xs => if (x :: xs).any (fun y => entryBefore now y e) then x :: insertEntry now e xs else e :: x :: xs

/-! ### Assertions (R58 to R62) -/

/-- The kind of an item after an assertion of a kind (R61). -/
def settleKind (item event : TripKind) : TripKind :=
  match item, event with
  | .test, .test => .test
  | _, _ => .real

/-- The record an assertion makes (R58), or that a promotion makes before its own fields (R71). -/
def newRecord (serial : Word16) (l : LineConfig) (a : Assertion) : TripRecord :=
  { serial := serial, line := a.line, unit := l.unit, group := l.group, kind := a.kind, first := a.stamp, last := a.stamp,
    recurrences := 0, mode := a.mode, cause := none, ack := none, release := none, carried := 0, foundAtStart := a.foundAtStart }

/-- The entry an assertion makes while all slots are occupied (R59). -/
def newEntry (a : Assertion) : PendingEntry :=
  { line := a.line, kind := a.kind, first := a.stamp, last := a.stamp, recurrences := 0, mode := a.mode, release := none,
    carried := 0, foundAtStart := a.foundAtStart }

/-- A recurrence amends a live record (R60, R61). -/
def TripRecord.amend (a : Assertion) (r : TripRecord) : TripRecord :=
  { r with
    recurrences := satSucc 255 r.recurrences
    last := a.stamp
    release := none
    ack := none
    kind := settleKind r.kind a.kind
    foundAtStart := r.foundAtStart || a.foundAtStart }

/-- A recurrence amends a pending entry (R62, R61). -/
def PendingEntry.amend (a : Assertion) (e : PendingEntry) : PendingEntry :=
  { e with
    recurrences := satSucc 255 e.recurrences
    last := a.stamp
    release := none
    kind := settleKind e.kind a.kind
    foundAtStart := e.foundAtStart || a.foundAtStart }

/-- What the table makes of a qualified assertion: amend the live item, fill the lowest free slot, or enter the pending list. -/
def TripTable.assertion (lines : Vector LineConfig 32) (now : BitVec 8) (a : Assertion) (t : TripTable) : TripTable :=
  match t.liveSlot a.line with
  | some i => { t with slots := t.slots.set i (t.slots[i].map (TripRecord.amend a)) }
  | none =>
    if t.pendingList.any (fun e => e.line == a.line) then
      { t with pendingList := t.pendingList.map fun e => if e.line == a.line then e.amend a else e }
    else
      match t.freeSlot with
      | some i => { t with slots := t.slots.set i (some (newRecord t.serial lines[a.line] a)), serial := t.serial + 1 }
      | none => { t with pendingList := insertEntry now (newEntry a) t.pendingList }

/-- The Trip Table takes a qualified assertion and raises TRIP_NEW (R58 to R62). -/
def State.takeAssertion (a : Assertion) (s : State) : State :=
  ({ s with trips := s.trips.assertion s.config.lines s.time.generation a }).raise .tripNew

/-! ### Releases (R63, R64) -/

/-- What the table makes of a qualified release; a line without a live item leaves it as it is. -/
def TripTable.releaseLine (line : Fin 32) (stamp : Stamp) (t : TripTable) : TripTable :=
  match t.liveSlot line with
  | some i => { t with slots := t.slots.set i (t.slots[i].map fun r => { r with release := some stamp }) }
  | none => { t with pendingList := t.pendingList.map fun e => if e.line == line then { e with release := some stamp } else e }

/-- The Trip Table takes a qualified release (R63, R64). No condition is raised. -/
def State.takeRelease (line : Fin 32) (stamp : Stamp) (s : State) : State := { s with trips := s.trips.releaseLine line stamp }

/-! ### Retirement and promotion (R70, R71) -/

/-- The record a pending entry is promoted to (R71). -/
def promote (serial : Word16) (l : LineConfig) (e : PendingEntry) : TripRecord :=
  { serial := serial, line := e.line, unit := l.unit, group := l.group, kind := e.kind, first := e.first, last := e.last,
    recurrences := e.recurrences, mode := e.mode, cause := none, ack := none, release := e.release, carried := e.carried,
    foundAtStart := e.foundAtStart }

/-- Free a slot, and fill it at once from the head of the pending list (R70, R71). -/
def TripTable.retire (lines : Vector LineConfig 32) (i : Fin 48) (t : TripTable) : TripTable :=
  match t.pendingList with
  | [] => { t with slots := t.slots.set i none }
  | e :: rest =>
    { slots := t.slots.set i (some (promote t.serial lines[e.line] e)), pendingList := rest, serial := t.serial + 1 }

/-! ### Carries (R73) -/

/-- Add 1 to the carried count of each unresolved item, holding at 15 (R73). -/
def TripTable.markCarries (t : TripTable) : TripTable :=
  { t with
    slots := Vector.ofFn fun i : Fin 48 =>
      t.slots[i].map fun r => if r.isUnresolved then { r with carried := satSucc 15 r.carried } else r
    pendingList := t.pendingList.map fun e => { e with carried := satSucc 15 e.carried } }

end Sys2Proof.Machine
end

