-- ==== Sys2Proof/Machine/Scanner.lean ====
section
/-! DEFINITION. The Trip Line Scanner (03): qualification and back-dating of one line, handing events on, and test injections. -/

namespace Sys2Proof.Machine

/-- The unit a unit position names; position 0 is station common (03 section 3.1). -/
def unitAt (position : Fin 9) : Option (Fin 8) :=
  if h : 0 < position.val then some ⟨position.val - 1, by omega⟩ else none

/-- The unit mode of a line's unit as the Tracker holds it, NONE for station common (R39, R86). -/
def State.lineMode (s : State) (line : Fin 32) : TripMode :=
  match unitAt s.config.lines[line].unit with
  | some u => .unit s.units[u].mode
  | none => .stationCommon

/-- A line with no change under way. -/
def LineState.settledAt (phase : LinePhase) (l : LineState) : LineState :=
  { l with phase := phase, run := 0, held := none, heldMode := none, firstRun := false }

/-- An asserted sample (R40, R42). `first` says the sample is the line's first after a start (R39). -/
def assertedSample (cfg : LineConfig) (stamp : Stamp) (mode : TripMode) (first : Bool) (l : LineState) :
    LineState × Option LineEvent :=
  match l.phase with
  | .released =>
    if cfg.assertCount ≤ 1 then (l.settledAt .asserted, some (.assertion stamp mode first))
    else ({ l with phase := .asserting, run := 1, held := some stamp, heldMode := some mode, firstRun := first }, none)
  | .asserting =>
    if cfg.assertCount ≤ l.run + 1 then
      (l.settledAt .asserted, some (.assertion (l.held.getD stamp) (l.heldMode.getD mode) l.firstRun))
    else ({ l with run := l.run + 1 }, none)
  | .asserted => (l, none)
  | .releasing => (l.settledAt .asserted, none)

/-- A released sample (R41, R42). -/
def releasedSample (cfg : LineConfig) (stamp : Stamp) (first : Bool) (l : LineState) : LineState × Option LineEvent :=
  match l.phase with
  | .released => (l, none)
  | .asserting => (l.settledAt .released, none)
  | .asserted =>
    if cfg.releaseCount ≤ 1 then (l.settledAt .released, some (.release stamp))
    else ({ l with phase := .releasing, run := 1, held := some stamp, heldMode := none, firstRun := first }, none)
  | .releasing =>
    if cfg.releaseCount ≤ l.run + 1 then (l.settledAt .released, some (.release (l.held.getD stamp)))
    else ({ l with run := l.run + 1 }, none)

/-- One sample of one enabled line: the line after, and the event it qualifies (R39 to R42). -/
def sampleLine (cfg : LineConfig) (stamp : Stamp) (mode : TripMode) (asserted : Bool) (l : LineState) :
    LineState × Option LineEvent :=
  let looked := { l with startLook := false }
  if asserted then assertedSample cfg stamp mode l.startLook looked else releasedSample cfg stamp l.startLook looked

/-- Hand a trip report on for a unit's line (R44). -/
def State.reportTrip (line : Fin 32) (mode : TripMode) (s : State) : State :=
  match unitAt s.config.lines[line].unit, mode with
  | some u, .unit m => s.takeTripReport u m
  | _, _ => s

/-- Hand a qualified event of the physical line on (R43, R44, R49). A test injection ends at a real assertion, with no TEST release, and the assertion then carries found at start no (R49, log 20). -/
def State.handOn (line : Fin 32) (e : LineEvent) (s : State) : State :=
  match e with
  | .assertion stamp mode found =>
    let l := s.lines[line]
    let s1 := { s with lines := s.lines.set line { l with test := none } }
    (s1.takeAssertion ⟨line, .real, stamp, mode, found && l.test.isNone⟩).reportTrip line mode
  | .release stamp => s.takeRelease line stamp

/-- Sample one line in its turn (R39). A disabled line is not sampled. -/
def State.sampleOne (stamp : Stamp) (levels : Vector Bool 32) (line : Fin 32) (s : State) : State :=
  let cfg := s.config.lines[line]
  if cfg.enabled then
    let r := sampleLine cfg stamp (s.lineMode line) levels[line] s.lines[line]
    let s1 := { s with lines := s.lines.set line r.1 }
    match r.2 with
    | some e => s1.handOn line e
    | none => s1
  else s

/-- The order in which the lines of one sample are taken: those the world names first, then the others by number (R43, R58, log 11). -/
def sampleOrder (first : List (Fin 32)) : List (Fin 32) :=
  let named := first.eraseDups
  named ++ (List.finRange 32).filter fun i => !named.contains i

/-- One sample of the 32 lines, with equal stamps (R39). -/
def State.sampleLines (levels : Vector Bool 32) (first : List (Fin 32)) (s : State) : State :=
  let stamp := s.stamp
  (sampleOrder first).foldl (fun t i => t.sampleOne stamp levels i) s

/-- End the test injection of a line: a TEST release dated with a stamp taken now (R47, R48, R55). -/
def State.endTest (line : Fin 32) (s : State) : State :=
  ({ s with lines := s.lines.set line { s.lines[line] with test := none } }).takeRelease line s.stamp

/-- End the test injections a condition picks. -/
def State.endTests (due : TestInjection → Bool) (s : State) : State :=
  (List.finRange 32).foldl (fun t i => if t.lines[i].test.any due then t.endTest i else t) s

/-- At a second tick the Scanner ends every test injection whose end second has been reached or passed (R47). -/
def State.scannerTick (s : State) : State := s.endTests fun j => decide (j.endSecond ≤ s.time.elapsed)

/-- Take a line up at a warm start or the release of the reset line (R54). -/
def LineState.takeUp (enabled : Bool) (l : LineState) : LineState :=
  match l.phase with
  | .released | .asserting => { l.settledAt .released with startLook := enabled || l.startLook }
  | .asserted | .releasing => { l.settledAt .asserted with startLook := enabled || l.startLook }

/-- A line at a cold start (R52). R52 gives start look yes for each enabled line; a disabled line gets no (log 34). -/
def LineState.cold (enabled : Bool) : LineState := ⟨.released, 0, none, none, enabled, false, none⟩

end Sys2Proof.Machine
end

