-- ==== Sys2Proof/Machine/Tracker.lean ====
section
/-! DEFINITION. The Unit Mode Tracker (05 sections 5.1 and 5.2): qualification of inputs, unit modes, settling and reports. -/

namespace Sys2Proof.Machine

/-- A qualified level equals a reading. -/
def Level.isReading (l : Level) (on : Bool) : Bool :=
  match l with
  | .off => !on | .on => on | .unknown => false

/-- The level of a reading. -/
def levelOf (on : Bool) : Level := if on then .on else .off

/-- One sample of one input (R79, R80). -/
def Input.sample (count : Nat) (on : Bool) (i : Input) : Input :=
  if i.level.isReading on then { i with run := none, count := 0 }
  else
    let n := if i.run = some on then i.count + 1 else 1
    if count ≤ n then ⟨levelOf on, none, 0⟩ else { i with run := some on, count := n }

/-- The unit mode that the four qualified mode inputs give (R81). -/
def decideMode (g p c s : Level) : UnitMode :=
  match g == .on, p == .on, c == .on, s == .on with
  | false, false, false, false => .stopped
  | true, false, false, false => .generate
  | false, true, false, false => .pump
  | false, false, true, false => .condense
  | false, false, false, true => .spin
  | _, _, _, _ => .conflict

/-- The mode decided for a unit from its inputs. -/
def UnitTrack.decided (u : UnitTrack) : UnitMode := decideMode u.generate.level u.pump.level u.condense.level u.spin.level

/-- All five inputs have a qualified level other than UNKNOWN (R85). -/
def UnitTrack.allKnown (u : UnitTrack) : Bool :=
  u.generate.level != .unknown && u.pump.level != .unknown && u.condense.level != .unknown && u.spin.level != .unknown
    && u.breaker.level != .unknown

/-- The report of a change of unit mode (R82). -/
def modeReport (before after : UnitMode) : List Report :=
  match after.running with
  | none => []
  | some m =>
    if before = .stopped then [.start m]
    else if before.running.isSome && decide (before ≠ after) then [.change m]
    else []

/-- Apply one sample to a unit's five inputs (R78, R79). -/
def UnitTrack.applyLines (count : Nat) (l : UnitLines) (u : UnitTrack) : UnitTrack :=
  { u with
    generate := u.generate.sample count l.generate
    pump := u.pump.sample count l.pump
    condense := u.condense.sample count l.condense
    spin := u.spin.sample count l.spin
    breaker := u.breaker.sample count l.breaker }

/-- A unit after one sample, and its reports: settling without a report (R85), or mode and breaker decided and reported (R81 to R83). -/
def UnitTrack.sample (count : Nat) (l : UnitLines) (u : UnitTrack) : UnitTrack × List Report :=
  let v := u.applyLines count l
  let closed := v.breaker.level == .on
  if u.settled then
    ({ v with mode := v.decided, breakerClosed := closed },
      modeReport u.mode v.decided ++ if closed && !u.breakerClosed then [.closing] else [])
  else if v.allKnown then ({ v with mode := v.decided, breakerClosed := closed, settled := true }, [])
  else (v, [])

/-- Take one unit in turn at a sample (R78). -/
def State.sampleUnit (lines : Vector UnitLines 8) (u : Fin 8) (s : State) : State :=
  let r := s.units[u].sample s.config.modeCount lines[u]
  r.2.foldl (fun t rep => t.takeReport u rep) { s with units := s.units.set u r.1 }

/-- One sample of the 40 inputs (R78). -/
def State.sampleUnits (lines : Vector UnitLines 8) (s : State) : State :=
  (List.finRange 8).foldl (fun t u => t.sampleUnit lines u) s

/-- A unit at a warm start or the release of the reset line: inputs afresh, unsettled, mode and breaker as kept (R96). -/
def UnitTrack.takeUp (u : UnitTrack) : UnitTrack := ⟨.start, .start, .start, .start, .start, u.mode, u.breakerClosed, false⟩

end Sys2Proof.Machine
end

