-- ==== Sys2Proof/Machine/Ops.lean ====
section
/-! DEFINITION. Operations that several commands share across blocks: steps of station time, the end of a handover, the second tick, the
counted boundary, source switches and REF failure (01, 02, R154). -/

namespace Sys2Proof.Machine

/-! ### Steps of station time (R30, R33) -/

/-- The new time of a step, held in range (R30 action 1). -/
def clampStation (ms : Int) : Int := max 0 (min Config.stationTopMs ms)

/-- A step's effect on the Time Base (R30 actions 1 to 5). -/
def TimeBase.step (slewStep : Nat) (offset : Int) (t : TimeBase) : TimeBase :=
  { t with
    boundaryTime := clampStation (t.reading slewStep + offset) - min (t.msSince : Int) 999
    slewRemainder := 0
    pendingStep := none
    readFloor := none
    generation := t.generation + 1
    timeSet := true }

/-- Apply a step: STEP_APPLIED is raised and a minute event is presented (R30). -/
def State.applyStep (offset : Int) (s : State) : State :=
  (({ s with time := s.time.step s.config.slewStep offset } : State).raise .stepApplied).presentMinute

/-- The Time Base takes the signal that a handover has ended (R33). -/
def State.handoverSignal (s : State) : State :=
  match s.time.pendingStep with
  | none => s
  | some offset => s.applyStep offset

/-- The end of a handover: the Time Base is signalled, then the pending slot is handled (R154). -/
def State.endHandover (s : State) : State := s.handoverSignal.handlePending

/-- A pending step found with no handover in progress at a counted boundary is applied there, and the pending slot is handled when the Watch Controller takes the step's minute event (R37, R154, log 10). -/
def State.strandedStep (s : State) : State :=
  if s.time.pendingStep.isSome && !s.watch.handover then s.endHandover else s

/-! ### The counted boundary (R2, R25, R34) -/

/-- The second tick: Trip Line Scanner, Tally Engine, Watch Controller, Store Controller (R2 action 6). -/
def State.tick (s : State) : State := s.scannerTick.tallyTick.watchTick.storeTick

/-- Present a minute event at a counted boundary when the local minute or day differs from the last presented, or none was (R34). -/
def State.presentIfMoved (s : State) : State :=
  if s.time.lastPresented = some s.localTime then s else s.presentMinute

/-- Complete the switch in flight (R12). -/
def State.completeSwitch (s : State) : State :=
  match s.time.target with
  | none => s
  | some target =>
    ({ s with time := { s.time with
        source := target.source, target := none, rcHeld := false,
        holdover := if target = .ref ∨ s.time.source = .ref then 0 else s.time.holdover } } : State).raise .sourceSwitched

/-- A switch to XTAL completes on a counted boundary at which the crystal is RUNNING, the boundary having been counted first (R11, R12). -/
def State.completeOnBoundary (s : State) : State :=
  if s.time.target = some .xtal ∧ s.time.crystalRunning = true then s.completeSwitch else s

/-- The actions of a counted boundary at a position (R2): the Time Base counts, and the blocks that are up take the tick and the minute event. -/
def State.countBoundary (position : Nat) (aligned : Bool) (s : State) : State :=
  let s1 := { s with time := s.time.count s.config.slewStep position aligned }
  if s1.up then s1.tick.strandedStep.presentIfMoved else s1

/-! ### The reference pulse (R3 to R6, R11, R13) -/

/-- The part's tolerance in microseconds. -/
def LiveConfig.toleranceUs (c : LiveConfig) : Nat := c.refTolerance * Config.usPerTolerance

/-- A pulse at a moment falls within ±tolerance of a whole second, one or more, after the anchor (R3). -/
def inWindow (tolerance anchor moment : Nat) : Bool :=
  let d := moment - anchor
  let r := d % Config.usPerSecond
  decide (Config.usPerSecond ≤ d + tolerance) && (decide (r ≤ tolerance) || decide (Config.usPerSecond ≤ r + tolerance))

/-- The expected boundary while REF is current: the first whole second after the anchor that lies past the boundary position (R6). -/
def expectedBoundary (anchor boundaryPos : Nat) : Nat :=
  anchor + Config.usPerSecond * ((boundaryPos - anchor) / Config.usPerSecond + 1)

/-- A REF failure (R5). -/
def State.refFailure (s : State) : State :=
  let t := { s.time with refQualified := false, goodRun := 0, badRun := 0, anchor := none }
  if s.time.source = .ref then
    ({ s with time := { t with
        source := if s.time.crystalRunning then .xtal else .rc
        target := none, rcHeld := false, holdover := 0 } }).raise .sourceFail
  else { s with time := t }

/-- Complete the switch to REF on a good pulse now, with the alignment of R11. -/
def State.completeToRef (s : State) : State :=
  let s1 :=
    if Config.halfSecondUs ≤ s.time.clock - s.time.boundaryPos then s.countBoundary s.time.clock true else s
  s1.completeSwitch

/-- A good pulse (R3): qualification, the boundary discipline while REF is current, a switch in flight, auto-return. -/
def State.goodPulse (s : State) : State :=
  let good := satSucc 255 s.time.goodRun
  let qualifies := !s.time.refQualified && decide (s.config.refQualify ≤ good)
  let s1 := { s with time := { s.time with
    anchor := some s.time.clock, goodRun := good, badRun := 0, refQualified := s.time.refQualified || qualifies } }
  if s.time.source = .ref then (s1.countBoundary s.time.clock true).completeOnBoundary
  else if s1.time.refQualified = true ∧ s1.time.target = some .ref then s1.completeToRef
  else if qualifies && s.config.autoReturn then
    ({ s1 with time := { s1.time with target := some .ref } }).completeToRef
  else s1

/-- A bad pulse (R3, R5): the bad run grows, and at the limit K it is a REF failure. -/
def State.badPulse (s : State) : State :=
  let bad := satSucc 255 s.time.badRun
  let s1 := { s with time := { s.time with badRun := bad, goodRun := 0 } }
  if s.config.refBadLimit ≤ bad then s1.refFailure else s1

/-- A reference pulse now (R3). Every pulse restarts the absence limit. -/
def State.pulse (s : State) : State :=
  let s1 := { s with time := { s.time with lastPulse := s.time.clock } }
  match s.time.anchor with
  | none => { s1 with time := { s1.time with anchor := some s.time.clock, goodRun := 0, badRun := 0 } }
  | some a => if inWindow s.config.toleranceUs a s.time.clock then s1.goodPulse else s1.badPulse

/-! ### SET_TIME (R27 to R32) -/

/-- Round signed milliseconds to the nearest whole second, a half second away from zero (R27). -/
def roundSecond (ms : Int) : Int :=
  if 0 ≤ ms then (ms + 500) / 1000 * 1000 else -((-ms + 500) / 1000 * 1000)

/-- The offset of a SET_TIME as measured (R27). -/
def State.measuredOffset (targetMs : Int) (s : State) : Int :=
  let raw := targetMs - s.time.reading s.config.slewStep
  if s.time.source = .ref then roundSecond raw else raw

/-- A correction taken as a slew (R29): the length of the second in progress changes, so its reading is kept (R25). -/
def State.takeSlew (offset : Int) (s : State) : State :=
  { s with time := { s.time.keepReading s.config.slewStep with slewRemainder := offset, pendingStep := none } }

/-- A step held back by a handover (R31). -/
def State.holdStep (offset : Int) (s : State) : State :=
  { s with time := { s.time.keepReading s.config.slewStep with slewRemainder := 0, pendingStep := some offset } }

end Sys2Proof.Machine
end

