-- ==== Sys2Proof/Machine/Exchange.lean ====
section
/-! DEFINITION. The Station Port's intake and replies (09 section 9.3): reply slots, the port's own checks, placing replies, the status
byte and the frames. -/

namespace Sys2Proof.Machine

/-- What the port hands to an owning block with a request: requester, its level, and the crew code (R164). -/
structure Caller where
  requester : Fin 4
  level : Fin 4
  crew : Fin 16
deriving DecidableEq, Repr

/-- The outcome and reply body of a request, or none where the reply is placed when a store write ends (R165). -/
abbrev Answer := Option (ReplyCode × List Byte)

/-- What an owning block makes of a request. -/
abbrev Act := Caller → State → State × Answer

/-- Answer with a state unchanged (R167). -/
def answer (code : ReplyCode) (body : List Byte) (s : State) : State × Answer := (s, some (code, body))

/-- Refuse with an empty body (log 13). -/
def refuse (code : ReplyCode) (s : State) : State × Answer := answer code [] s

/-- The reply slot a request reserves: the first that is free (R164). -/
def State.freeReply (s : State) : Option (Fin 2) := (List.finRange 2).find? fun i => s.port.slots[i] == .free

/-- Place a reply in a slot, with the next placing order (R165). -/
def State.place (i : Fin 2) (r : Reply) (s : State) : State :=
  { s with port := { s.port with slots := s.port.slots.set i (.waiting s.port.nextOrder r), nextOrder := s.port.nextOrder + 1 } }

/-- Fill a slot with an answer, or leave it reserved until a store write ends (R165). -/
def State.fill (i : Fin 2) (head : ReplyHead) (a : Answer) (s : State) : State :=
  match a with
  | some (code, body) => s.place i ⟨head, code, body⟩
  | none => { s with port := { s.port with slots := s.port.slots.set i (.reserved head) } }

/-- What the port makes of a frame that passed its checks: the kind's required level with the owner's act, or the outcome of the check that failed (R164). -/
inductive Intake where
  | badKind
  | request (level : Nat) (act : Act)
  | badLength (level : Nat)

/-- A request is taken: it reserves a free slot, the port makes its checks, and the owning block takes it (R164). With no slot free the frame is ignored whole (R163). -/
def State.takeRequest (requester : Fin 4) (crew : Fin 16) (tag : Byte) (kind : Nat) (intake : Intake) (s : State) : State :=
  match s.freeReply with
  | none => s
  | some i =>
    let head : ReplyHead := ⟨requester, tag, kind⟩
    let level := s.port.levels[requester]
    match intake with
    | .badKind => s.fill i head (some (.badKind, []))
    | .badLength required =>
      s.fill i head (some (if required < level.val then .privilege else .badField, []))
    | .request required act =>
      if required < level.val then s.fill i head (some (.privilege, []))
      else
        let r := act ⟨requester, level, crew⟩ s
        r.1.fill i head r.2

/-- A request command: the frame with these fields has been taken in whole (log 4). The port takes none while the part is off, starting or in reset (R161). -/
def State.request (h : Header) (kind level : Nat) (act : Act) (s : State) : State :=
  let s1 := s.pass h.dt
  if s1.up then s1.takeRequest h.requester h.crew h.tag kind (.request level act) else s1

/-- Place the reply of the request whose configuration write has ended, in the slot it reserved (R165, R175). Without one the reply was dropped (R174). -/
def State.placeReserved (code : ReplyCode) (s : State) : State :=
  match (List.finRange 2).findSome? fun i => match s.port.slots[i] with
      | .reserved head => some (i, head)
      | _ => none with
  | some (i, head) => s.place i ⟨head, code, []⟩
  | none => s

/-! ### Status byte and reply frames (R161, R162) -/

/-- A slot holds a placed reply. -/
def ReplySlot.isWaiting : ReplySlot → Bool
  | .waiting _ _ => true
  | .free => false
  | .reserved _ => false

/-- Replies waiting, 0..2 (R161). -/
def State.repliesWaiting (s : State) : Nat := s.port.slots.toList.countP ReplySlot.isWaiting

/-- The port status byte (R161, R162). -/
def State.statusByte (s : State) : Byte :=
  BitVec.ofNat 8 (160 + (if s.attention then 8 else 0) + (if s.freeReply.isSome then 4 else 0) + s.repliesWaiting)

/-- The reply frame (R162). -/
def Reply.frame (r : Reply) : List Byte :=
  let inner := u8 r.body.length ++ u8 (16 * r.head.requester.val) ++ [r.head.tag] ++ u8 r.head.kind ++ u8 r.code.code ++ r.body
  [0x3C#8] ++ inner ++ u16 (crc16 inner).toNat

/-- The oldest waiting reply and its slot (R166). -/
def State.oldestWaiting (s : State) : Option (Fin 2 × Reply) :=
  match s.port.slots[(0 : Fin 2)], s.port.slots[(1 : Fin 2)] with
  | .waiting a r, .waiting b q => if a ≤ b then some (0, r) else some (1, q)
  | .waiting _ r, _ => some (0, r)
  | _, .waiting _ q => some (1, q)
  | _, _ => none

/-- The first `n` bytes of a run, filled with 0x00 (R161, R166). -/
def fillTo (n : Nat) (bs : List Byte) : List Byte := (bs ++ List.replicate n 0#8).take n

/-- The bytes shifted out in a transfer. -/
def State.shiftOut (bs : List Byte) (s : State) : State := { s with port := { s.port with dataOut := bs } }

/-- A transfer while the port takes none: 0x00 is shifted out while main power is present (R179); nothing is driven while it is off (log 27). -/
def State.idleTransfer (n : Nat) (s : State) : State :=
  if s.pins.mainPower then s.shiftOut (List.replicate n 0#8) else s

/-- A COLLECT of a number of bytes after the marker (R166). -/
def State.collectReply (clocked : Nat) (s : State) : State :=
  match s.oldestWaiting with
  | none => s.shiftOut (s.statusByte :: List.replicate clocked 0#8)
  | some (i, r) =>
    let out := s.shiftOut (s.statusByte :: fillTo clocked r.frame)
    if r.frame.length ≤ clocked then { out with port := { out.port with slots := out.port.slots.set i .free } } else out

end Sys2Proof.Machine
end

