-- ==== Sys2Proof/Machine/EventsPlant.lean ====
section
/-! DEFINITION. Plant and array events: line samples, the power-fail warning, the ends of writes (03, 05, 06 section 6.8, 07).
The blocks take them while main power is present and the part is out of reset. -/

namespace Sys2Proof.Machine

/-- TRIP_LINE_SAMPLE (R39): the levels of the 32 lines, and the lines the world takes first where several qualify at one sample (R43, R58, log 11). -/
def execTripLineSample (dt : Nat) (levels : Vector Bool 32) (first : List (Fin 32)) (s : State) : Host.Outcome State Fault Refusal :=
  let s1 := s.pass dt
  .next (if s1.up then s1.sampleLines levels first else s1)

/-- MODE_LINE_SAMPLE (R78): the readings of the 40 inputs. -/
def execModeLineSample (dt : Nat) (lines : Vector UnitLines 8) (s : State) : Host.Outcome State Fault Refusal :=
  let s1 := s.pass dt
  .next (if s1.up then s1.sampleUnits lines else s1)

/-- The level of the warning line. -/
def State.setWarning (b : Bool) (s : State) : State := { s with pins := { s.pins with warningLine := b } }

/-- The Tally Engine and the Store Controller take the warning (R116, R132). -/
def State.beginFreeze (s : State) : State := ({ s with tally := { s.tally with freeze := true } } : State).takeWarning

/-- POWER_FAIL_WARNING: the warning line is asserted (R116, R132). Off or in reset, only the line's level changes, and the start reads it (R118, R179). -/
def execPowerFailWarning (dt : Nat) (s : State) : Host.Outcome State Fault Refusal :=
  let s1 := (s.pass dt).setWarning true
  .next (if s1.up && !s1.tally.freeze then s1.beginFreeze else s1)

/-- WARNING_RELEASED: the side table is credited, POWER_FREEZE is released, the walk state moves on (R117, R133). -/
def execWarningReleased (dt : Nat) (s : State) : Host.Outcome State Fault Refusal :=
  let s1 := (s.pass dt).setWarning false
  .next (if s1.up && s1.tally.freeze then s1.credit.releaseWalk else s1)

/-- IMAGE_WRITE_END: an image write and its verify end (R129, R130). -/
def execImageWriteEnd (dt : Nat) (verify : ImageVerify) (s : State) : Host.Outcome State Fault Refusal :=
  let s1 := s.pass dt
  .next (if s1.up then s1.imageEnd verify else s1)

/-- A configuration write has ended: its reply is placed as OK or STORE_ERROR, and the port goes on (R135, R175). -/
def State.configWriteEnd (verify : ConfigVerify) (s : State) : State :=
  match s.configEnd verify with
  | (s1, some matched) => (s1.placeReserved (if matched then .ok else .storeError)).afterConfig
  | (s1, none) => s1

/-- CONFIG_WRITE_END (R135). -/
def execConfigWriteEnd (dt : Nat) (verify : ConfigVerify) (s : State) : Host.Outcome State Fault Refusal :=
  let s1 := s.pass dt
  .next (if s1.up then s1.configWriteEnd verify else s1)

end Sys2Proof.Machine
end

