-- ==== Sys2Proof/Machine/EventsTime.lean ====
section
/-! DEFINITION. The Time Base's events: pulses, boundaries, the crystal, and the expiries a tick carries (01, R47, R126, R155).
An event whose condition does not hold is not taken: the state stands but for the time passed (log 2). -/

namespace Sys2Proof.Machine

/-- REF_PULSE: the leading edge of a reference pulse (R3). The REF input is not observed under backup supply (R20). -/
def execRefPulse (dt : Nat) (s : State) : Host.Outcome State Fault Refusal :=
  let s1 := s.pass dt
  .next (if s1.timeUp then s1.pulse else s1)

/-- ABSENCE_LIMIT_EXPIRY: 1,500 ms after the last pulse while an anchor is present (R5). -/
def execAbsenceLimitExpiry (s : State) : Host.Outcome State Fault Refusal :=
  .next (if s.timeUp && s.time.anchor.isSome then (s.reach (s.time.lastPulse + Config.absenceLimitUs)).refFailure else s)

/-- The window of the expected boundary closes with no good pulse: the flywheel boundary (R6). -/
def State.flywheel (anchor : Nat) (s : State) : State :=
  let expected := expectedBoundary anchor s.time.boundaryPos
  ((s.reach (expected + s.config.toleranceUs)).countBoundary expected false).completeOnBoundary

/-- FLYWHEEL_BOUNDARY, while REF is current (R6). -/
def execFlywheelBoundary (s : State) : Host.Outcome State Fault Refusal :=
  .next (match s.time.anchor with
    | some a => if s.timeUp && decide (s.time.source = .ref) then s.flywheel a else s
    | none => s)

/-- The moment of the next boundary on XTAL or RC: 1,000 ms after the boundary position (R1). -/
def TimeBase.nextBoundary (t : TimeBase) : Nat := t.boundaryPos + Config.usPerSecond

/-- SECOND_BOUNDARY, while XTAL or RC is current (R1, R2). Under REF the boundaries are REF_PULSE and FLYWHEEL_BOUNDARY (R6). -/
def execSecondBoundary (s : State) : Host.Outcome State Fault Refusal :=
  .next (if s.timeUp && decide (s.time.source ≠ .ref) then
      ((s.reach s.time.nextBoundary).countBoundary s.time.nextBoundary false).completeOnBoundary
    else s)

/-- TEST_EXPIRY: the Scanner's part of a tick as a command of its own (R47, log 6). -/
def execTestExpiry (s : State) : Host.Outcome State Fault Refusal := .next (if s.up then s.scannerTick else s)

/-- PERIODIC_TRIGGER: the Store Controller's part of the tick that brings the periodic count to 3,600, as a command of its own (R126, log 6). -/
def execPeriodicTrigger (s : State) : Host.Outcome State Fault Refusal :=
  .next (if s.up && decide (Config.periodicTicks ≤ s.store.periodic + 1) then s.storeTick else s)

/-- WARNING_DEADLINE_EXPIRY (R155, log 6). -/
def execWarningDeadlineExpiry (s : State) : Host.Outcome State Fault Refusal := .next (if s.up then s.warningExpiry else s)

/-- WINDOW_DEADLINE_EXPIRY (R155, log 6). -/
def execWindowDeadlineExpiry (s : State) : Host.Outcome State Fault Refusal := .next (if s.up then s.windowExpiry else s)

/-- A crystal ready event (R7, R8). Under backup supply it changes only the crystal state (log 28). -/
def State.crystalReady (s : State) : State :=
  let s1 := { s with time := { s.time with crystalRunning := true } }
  if s.timeUp && decide (s.time.source = .rc) then
    if s.time.target = some .xtal then s1.completeSwitch
    else if s.time.rcHeld then s1
    else ({ s1 with time := { s1.time with source := .xtal } } : State).raise .sourceSwitched
  else s1

/-- CRYSTAL_READY: a start-up of the crystal ends (R7, R8). -/
def execCrystalReady (dt : Nat) (s : State) : Host.Outcome State Fault Refusal :=
  let s1 := s.pass dt
  .next (if s1.time.crystalRunning then s1 else s1.crystalReady)

/-- A crystal stop (R7); under backup supply the Time Base stops counting (R20 action 5). The source then stays XTAL until the warm start puts RC in its place, which is the model's choice between R7 and R20 (log 31). -/
def State.crystalStop (s : State) : State :=
  let s1 := { s with time := { s.time with crystalRunning := false } }
  if s.timeUp then
    if s.time.source = .xtal then ({ s1 with time := { s1.time with source := .rc, rcHeld := false } } : State).raise .sourceFail
    else s1
  else { s1 with time := { s1.time with backupLost := true } }

/-- CRYSTAL_STOP: the oscillation monitor detects that the crystal has stopped (R7). -/
def execCrystalStop (dt : Nat) (s : State) : Host.Outcome State Fault Refusal := .next ((s.pass dt).crystalStop)

/-- BACKUP_BOUNDARY: a crystal boundary counted under backup supply, with no tick and no minute event (R20 action 4). -/
def execBackupBoundary (s : State) : Host.Outcome State Fault Refusal :=
  .next (if s.onBackup && s.time.crystalRunning && !s.time.backupLost then
      let s1 := s.reach s.time.nextBoundary
      { s1 with time := s1.time.count s.config.slewStep s.time.nextBoundary false }
    else s)

end Sys2Proof.Machine
end

