-- ==== Sys2Proof/Machine/RequestsTally.lean ====
section
/-! DEFINITION. The Tally Engine's requests: READ_UNIT, OPEN_ACCOUNT, BIND, UNBIND, PRESET, RETIRE_ACCOUNT, SERVICE_DONE, READ_ACCOUNT
(05 section 5.5, 06). -/

namespace Sys2Proof.Machine

/-! ### Finding accounts -/

/-- The account an image's slot holds. -/
def AccountSlot.account : AccountSlot → Option Account
  | .free _ => none
  | .held a _ => some a

/-- The slot of the account of a class bound to a unit (R93, R103). -/
def Tally.boundSlot (t : Tally) (u : Fin 8) (c : AccountClass) : Option (Fin 24) :=
  (List.finRange 24).find? fun i =>
    (t.accounts[i].account.bind (·.live)).any fun l => l.bound == some u && l.cls == c

/-- The slot of the LIVE account that holds a tag (R99). -/
def Tally.tagSlot (t : Tally) (tag : List Byte) : Option (Fin 24) :=
  (List.finRange 24).find? fun i => (t.accounts[i].account.bind (·.live)).any fun l => l.tag == tag

/-- A LIVE account in another slot holds a tag (R114). -/
def Tally.tagElsewhere (t : Tally) (i : Fin 24) (tag : List Byte) : Bool :=
  (List.finRange 24).any fun j => j != i && (t.accounts[j].account.bind (·.live)).any fun l => l.tag == tag

/-- The lowest free account slot (R101). -/
def Tally.freeSlot (t : Tally) : Option (Fin 24) := (List.finRange 24).find? fun i => t.accounts[i].account.isNone

/-- A tag is 1..16 characters, each with a code in 32..126 (R99). -/
def tagValid (tag : List Byte) : Bool :=
  decide (1 ≤ tag.length) && decide (tag.length ≤ 16) && tag.all fun b => decide (32 ≤ b.toNat) && decide (b.toNat ≤ 126)

/-- Per-mode figures within 0..4,294,967,295. -/
def PerMode.inRange (p : PerMode) : Bool :=
  decide (p.generate ≤ Config.countTop) && decide (p.pump ≤ Config.countTop) && decide (p.condense ≤ Config.countTop)
    && decide (p.spin ≤ Config.countTop)

/-- A carried group of figures within its ranges (R100, R114). -/
def Figures.inRange (f : Figures) : Bool :=
  f.run.inRange && f.starts.inRange && decide (f.changes ≤ Config.countTop) && decide (f.trips ≤ Config.countTop)
    && decide (f.closings ≤ Config.countTop) && decide (f.equivalent ≤ Config.elapsedTop)

/-- A service interval within 1..65,535. -/
def intervalValid (n : Nat) : Bool := decide (1 ≤ n) && decide (n ≤ 65535)

/-- A warning margin within 0..65,535. -/
def marginValid (n : Nat) : Bool := decide (n ≤ 65535)

/-- The account a slot and a serial name, with its dirty mark, or the first check of R98 that fails. -/
def State.namedAccount (slot serial : Nat) (s : State) : Except ReplyCode (Fin 24 × Account × Bool) :=
  if h : slot < 24 then
    let i : Fin 24 := ⟨slot, h⟩
    match s.tally.accounts[i] with
    | .free _ => .error .notFound
    | .held a d => if a.serial.toNat = serial then .ok (i, a, d) else .error .stale
  else .error .badField

/-- Put an account slot. -/
def State.setAccount (i : Fin 24) (a : AccountSlot) (s : State) : State :=
  { s with tally := { s.tally with accounts := s.tally.accounts.set i a } }

/-! ### READ_UNIT -/

/-- The bytes of the image state of an image: OK is 0 and FAILED 1 (R139). -/
def State.imageState (i : Fin 32) (s : State) : List Byte := flag s.store.failed[i]

/-- The image of a unit position. -/
def unitImage (u : Fin 8) : Fin 32 := ⟨u.val, by omega⟩
/-- The image of an account slot. -/
def accountImage (i : Fin 24) : Fin 32 := ⟨i.val + 8, by omega⟩

/-- A unit's entry of the freeze side table while POWER_FREEZE holds, or its absence (R93, R122, R157). -/
def State.sideBytes (u : Option (Fin 8)) (s : State) : List Byte :=
  opt SideEntry.bytes (if s.tally.freeze then u.map fun v => s.tally.side[v] else none)

/-- The reply body of READ_UNIT (R93). -/
def State.unitBody (u : Fin 8) (s : State) : List Byte :=
  let t := s.units[u]
  let slotOf := fun c => opt (fun i : Fin 24 => u8 i.val) (s.tally.boundSlot u c)
  s.tally.units[u].bytes ++ flag s.tally.dirty[u] ++ u8 t.mode.code ++ flag t.breakerClosed ++ flag t.settled
    ++ t.generate.bytes ++ t.pump.bytes ++ t.condense.bytes ++ t.spin.bytes ++ t.breaker.bytes
    ++ s.sideBytes (some u) ++ slotOf .generator ++ slotOf .turbine ++ slotOf .transformer ++ slotOf .breaker
    ++ s.imageState (unitImage u)

/-- The unit position 1..8 of a request as an index. -/
def unitPosition (position : Nat) : Option (Fin 8) :=
  if h : 1 ≤ position ∧ position ≤ 8 then some ⟨position - 1, by omega⟩ else none

/-- READ_UNIT at the Tally Engine (R93). -/
def readUnitAct (position : Nat) : Act := fun _ s =>
  match unitPosition position with
  | none => refuse .badField s
  | some u => answer .ok (s.unitBody u) s

/-- READ_UNIT, level 3 (R93). -/
def execReadUnit (h : Header) (position : Nat) (s : State) : Host.Outcome State Fault Refusal :=
  .next (s.request h 11 3 (readUnitAct position))

/-! ### OPEN_ACCOUNT -/

/-- The figures of an account opened without initial figures (R101). -/
def Figures.zero : Figures := ⟨.zero, .zero, 0, 0, 0, 0⟩

/-- Equivalent seconds plus 3,600 times the interval, held at 2^40−1 (R101, R113, R115). -/
def dueAfter (equivalent interval : Nat) : Nat := min Config.elapsedTop (equivalent + Config.secondsPerHour * interval)

/-- The account an OPEN_ACCOUNT makes before its service state is decided (R101). -/
def openedAccount (serial : Word16) (tag : List Byte) (c : AccountClass) (interval margin : Nat) (f : Figures) : Account :=
  { serial := serial, figures := f, fraction := 0,
    live := some { tag := tag, cls := c, bound := none, interval := interval, margin := margin,
                   nextDue := dueAfter f.equivalent interval, service := .normal } }

/-- Fill a free slot with a new account, dirty, and raise what its service state raises (R101). -/
def State.openAccount (i : Fin 24) (a : Account) (s : State) : State :=
  let r := a.evaluate
  ({ s with tally := { s.tally with accounts := s.tally.accounts.set i (.held r.1 true), serial := s.tally.serial + 1 } }
    : State).raiseWord r.2

/-- OPEN_ACCOUNT at the Tally Engine (R100, R101). -/
def openAccountAct (tag : List Byte) (cls interval margin : Nat) (initial : Option Figures) : Act := fun _ s =>
  match AccountClass.ofCode cls with
  | none => refuse .badField s
  | some c =>
    if !(tagValid tag && intervalValid interval && marginValid margin && initial.all Figures.inRange) then refuse .badField s
    else if (s.tally.tagSlot tag).isSome then refuse .present s
    else match s.tally.freeSlot with
      | none => refuse .full s
      | some i =>
        let a := openedAccount s.tally.serial tag c interval margin (initial.getD .zero)
        answer .ok (u8 i.val ++ u16 s.tally.serial.toNat ++ a.evaluate.1.bytes i.val true) (s.openAccount i a)

/-- OPEN_ACCOUNT, level 1 (R100). -/
def execOpenAccount (h : Header) (tag : List Byte) (cls interval margin : Nat) (initial : Option Figures) (s : State) :
    Host.Outcome State Fault Refusal :=
  .next (s.request h 12 1 (openAccountAct tag cls interval margin initial))

/-! ### BIND and UNBIND -/

/-- An account with a binding. -/
def Account.bindTo (u : Option (Fin 8)) (a : Account) : Account :=
  { a with live := a.live.map fun l => { l with bound := u } }

/-- Write an account back with its dirty mark set, and answer OK with the account after the change. -/
def answerAccount (i : Fin 24) (a : Account) (s : State) : State × Answer :=
  answer .ok (a.bytes i.val true) (s.setAccount i (.held a true))

/-- BIND at the Tally Engine, by the first case that applies (R103). -/
def bindAct (slot serial position : Nat) : Act := fun _ s =>
  match s.namedAccount slot serial with
  | .error code => refuse code s
  | .ok (i, a, _) =>
    match unitPosition position with
    | none => refuse .badField s
    | some u =>
      match a.live with
      | none => refuse .state s
      | some l =>
        if l.bound.isSome then refuse .state s
        else if s.tally.freeze then refuse .busy s
        else if (s.tally.boundSlot u l.cls).isSome then refuse .classTaken s
        else if !s.units[u].passes l.cls then refuse .unitRunning s
        else answerAccount i (a.bindTo (some u)) s

/-- BIND, level 1 (R103). -/
def execBind (h : Header) (slot serial position : Nat) (s : State) : Host.Outcome State Fault Refusal :=
  .next (s.request h 13 1 (bindAct slot serial position))

/-- UNBIND at the Tally Engine, by the first case that applies (R104). R104 names no field for the reply at OK: it carries the account after the change, as BIND's does (log 13). -/
def unbindAct (slot serial : Nat) : Act := fun _ s =>
  match s.namedAccount slot serial with
  | .error code => refuse code s
  | .ok (i, a, _) =>
    match a.live with
    | none => refuse .state s
    | some l =>
      match l.bound with
      | none => refuse .state s
      | some u =>
        if s.tally.freeze then refuse .busy s
        else if !s.units[u].passes l.cls then refuse .unitRunning s
        else answerAccount i (a.bindTo none) s

/-- UNBIND, level 1 (R104). -/
def execUnbind (h : Header) (slot serial : Nat) (s : State) : Host.Outcome State Fault Refusal :=
  .next (s.request h 14 1 (unbindAct slot serial))

/-! ### PRESET -/

/-- The fields a PRESET carries lie in their ranges (R114). -/
def presetInRange (f : Figures) (o : PresetOptions) : Bool :=
  f.inRange && o.tag.all tagValid && o.cls.all (fun c => (AccountClass.ofCode c).isSome) && o.interval.all intervalValid
    && o.margin.all marginValid && o.nextDue.all (fun n => decide (n ≤ Config.elapsedTop))

/-- The service fields a PRESET leaves: those carried replace those held, and a LOST account takes all of them (R115). -/
def presetLive (f : Figures) (o : PresetOptions) (held : Option LiveFields) : Option LiveFields :=
  match held with
  | some l => some
      { l with
        tag := o.tag.getD l.tag
        cls := (o.cls.bind AccountClass.ofCode).getD l.cls
        interval := o.interval.getD l.interval
        margin := o.margin.getD l.margin
        nextDue := o.nextDue.getD l.nextDue }
  | none =>
    match o.tag, o.cls.bind AccountClass.ofCode, o.interval, o.margin with
    | some tag, some c, some interval, some margin => some
        { tag := tag, cls := c, bound := none, interval := interval, margin := margin,
          nextDue := o.nextDue.getD (dueAfter f.equivalent interval), service := .normal }
    | _, _, _, _ => none

/-- Write an account back with its dirty mark set, raising the service conditions, and answer OK with it. -/
def answerEvaluated (i : Fin 24) (a : Account) (s : State) : State × Answer :=
  let r := a.evaluate
  answer .ok (r.1.bytes i.val true) ((s.setAccount i (.held r.1 true)).raiseWord r.2)

/-- PRESET at the Tally Engine, by the first case that applies (R114, R115). -/
def presetAct (slot serial : Nat) (f : Figures) (o : PresetOptions) : Act := fun _ s =>
  match s.namedAccount slot serial with
  | .error code => refuse code s
  | .ok (i, a, _) =>
    if !presetInRange f o then refuse .badField s
    else match presetLive f o a.live with
      | none => refuse .badField s
      | some l =>
        if o.tag.any (s.tally.tagElsewhere i) then refuse .present s
        else if (a.live.any fun m => m.bound.isSome && m.cls != l.cls) then refuse .state s
        else if s.tally.freeze then refuse .busy s
        else if (a.live.bind (·.bound)).any (fun u => !s.units[u].passes l.cls) then refuse .unitRunning s
        else answerEvaluated i { a with figures := f, fraction := 0, live := some l } s

/-- PRESET, level 0 (R114). -/
def execPreset (h : Header) (slot serial : Nat) (figures : Figures) (options : PresetOptions) (s : State) :
    Host.Outcome State Fault Refusal :=
  .next (s.request h 15 0 (presetAct slot serial figures options))

/-! ### RETIRE_ACCOUNT and SERVICE_DONE -/

/-- RETIRE_ACCOUNT at the Tally Engine (R102). -/
def retireAccountAct (slot serial : Nat) : Act := fun _ s =>
  match s.namedAccount slot serial with
  | .error code => refuse code s
  | .ok (i, a, d) =>
    if (a.live.bind (·.bound)).isSome then refuse .state s
    else answer .ok (a.bytes i.val d) (s.setAccount i (.free true))

/-- RETIRE_ACCOUNT, level 0 (R102). -/
def execRetireAccount (h : Header) (slot serial : Nat) (s : State) : Host.Outcome State Fault Refusal :=
  .next (s.request h 16 0 (retireAccountAct slot serial))

/-- SERVICE_DONE at the Tally Engine (R113). -/
def serviceDoneAct (slot serial : Nat) : Act := fun _ s =>
  match s.namedAccount slot serial with
  | .error code => refuse code s
  | .ok (i, a, _) =>
    match a.live with
    | none => refuse .state s
    | some l =>
      answerEvaluated i { a with live := some { l with nextDue := dueAfter a.figures.equivalent l.interval } } s

/-- SERVICE_DONE, level 1 (R113). -/
def execServiceDone (h : Header) (slot serial : Nat) (s : State) : Host.Outcome State Fault Refusal :=
  .next (s.request h 17 1 (serviceDoneAct slot serial))

/-! ### READ_ACCOUNT -/

/-- The reply body of READ_ACCOUNT (R122): record, equivalent hours, warning threshold, seconds remaining to next-due, image state, side entry. -/
def State.accountBody (i : Fin 24) (a : Account) (dirty : Bool) (s : State) : List Byte :=
  a.bytes i.val dirty ++ u32 (a.figures.equivalent / Config.secondsPerHour) ++ opt (fun l => u40 (LiveFields.threshold l)) a.live
    ++ opt (fun l : LiveFields => u40 (l.nextDue - a.figures.equivalent)) a.live ++ s.imageState (accountImage i)
    ++ s.sideBytes (a.live.bind (·.bound))

/-- Read the account of a slot. -/
def readAccountSlot (i : Fin 24) : Act := fun _ s =>
  match s.tally.accounts[i] with
  | .free _ => refuse .notFound s
  | .held a d => answer .ok (s.accountBody i a d) s

/-- READ_ACCOUNT at the Tally Engine (R122). -/
def readAccountAct (name : AccountName) : Act := fun c s =>
  match name with
  | .slot k => if h : k < 24 then readAccountSlot ⟨k, h⟩ c s else refuse .badField s
  | .tag t =>
    if tagValid t then
      match s.tally.tagSlot t with
      | none => refuse .notFound s
      | some i => readAccountSlot i c s
    else refuse .badField s

/-- READ_ACCOUNT, level 3 (R122). -/
def execReadAccount (h : Header) (name : AccountName) (s : State) : Host.Outcome State Fault Refusal :=
  .next (s.request h 18 3 (readAccountAct name))

end Sys2Proof.Machine
end

