-- ==== Sys2Proof/Machine/RequestsStore.lean ====
section
/-! DEFINITION. The Store Controller's requests: CHECKPOINT, READ_STORE, SET_ROSTER_SLOT, CONFIGURE, READ_CONFIG, CHECK_CONFIG
(07 sections 7.3 and 7.7, 08 section 8.1, 10 section 10.2). -/

namespace Sys2Proof.Machine

/-! ### CHECKPOINT and READ_STORE -/

/-- The reply body of an ACCEPTED CHECKPOINT (R131). A walk that found nothing marked and ended at once is shown at index 0 (log 33). -/
def State.walkBody (s : State) : List Byte :=
  u8 s.store.walk.code ++ u32 s.store.number ++ u8 s.store.index.val ++ flag s.store.again

/-- CHECKPOINT at the Store Controller (R131). -/
def checkpointAct : Act := fun _ s =>
  match s.store.walk with
  | .idle | .walking => let s1 := s.trigger; answer .accepted s1.walkBody s1
  | .final | .held => refuse .busy s

/-- CHECKPOINT, level 2 (R131). -/
def execCheckpoint (h : Header) (s : State) : Host.Outcome State Fault Refusal := .next (s.request h 19 2 checkpointAct)

/-- A walk is in flight in WALKING or FINAL (R128). -/
def Store.inFlight (t : Store) : Bool := t.walk == .walking || t.walk == .final

/-- The word of marks: bit i stands for image i (R140). -/
def Tally.markWord (t : Tally) : Nat := (List.finRange 32).foldl (fun n i => if t.marked i then n + 2 ^ i.val else n) 0

/-- The reply body of READ_STORE (R140). R140 does not say whether all states go before all numbers: image by image, each state followed by its number, is the model's choice (log 14, DESIGN CHOICE). -/
def State.storeBody (s : State) : List Byte :=
  let t := s.store
  u8 t.walk.code ++ opt (fun x : Nat × Fin 32 => u32 x.1 ++ u8 x.2.val) (if t.inFlight then some (t.number, t.index) else none)
    ++ flag t.again ++ u32 t.sequence ++ u16 t.periodic
    ++ opt (fun w : ImageWrite => u8 w.image.val ++ u8 (if w.second then 2 else 1)) t.write
    ++ u8 t.holder.code ++ flag t.configWaiting
    ++ (List.finRange 32).flatMap (fun i => flag t.failed[i] ++ opt u32 t.numbers[i])
    ++ u32 s.tally.markWord

/-- READ_STORE at the Store Controller (R140). -/
def readStoreAct : Act := fun _ s => answer .ok s.storeBody s

/-- READ_STORE, level 3 (R140). -/
def execReadStore (h : Header) (s : State) : Host.Outcome State Fault Refusal := .next (s.request h 20 3 readStoreAct)

/-! ### The configuration writer (10 section 10.2) -/

/-- The writer asks the arbiter for the port (R134, R175). -/
def State.askConfigWrite (s : State) : State :=
  ({ s with store := { s.store with configWrite := some .waiting } } : State).grantConfig

/-- SET_ROSTER_SLOT's fields lie in their ranges (R141). -/
def rosterValid (start crew window warning : Nat) : Bool :=
  decide (start ≤ 1439) && decide (crew ≤ 15) && decide (5 ≤ window) && decide (window ≤ 240) && decide (warning ≤ window)

/-- SET_ROSTER_SLOT at the Watch Controller and the configuration writer (R141, R175). -/
def setRosterSlotAct (slot start crew window warning : Nat) : Act := fun _ s =>
  if h : slot < 6 then
    if !rosterValid start crew window warning then refuse .badField s
    else if s.store.configWrite.isSome then refuse .busy s
    else
      let fields : RosterSlot := ⟨start, Fin.ofNat 16 crew, window, warning⟩
      (({ s with config := { s.config with roster := s.config.roster.set slot fields } } : State).askConfigWrite, none)
  else refuse .badField s

/-- SET_ROSTER_SLOT, level 1 (R141). -/
def execSetRosterSlot (h : Header) (slot start crew window warning : Nat) (s : State) : Host.Outcome State Fault Refusal :=
  .next (s.request h 21 1 (setRosterSlotAct slot start crew window warning))

/-- The change would leave no requester at level 0 (R175). -/
def leavesNoEngineer (c : LiveConfig) (code index : Nat) (value : Int) : Bool :=
  code == 1 && !(itemSet c code index value).levels.toList.contains 0

/-- The Scanner refuses a change of a line item while the line is not RELEASED or has a live item (R38). -/
def State.scannerRefuses (code index : Nat) (value : Int) (s : State) : Bool :=
  if h : index < 32 then
    let i : Fin 32 := ⟨index, h⟩
    let engaged := s.lines[i].phase != .released || (s.trips.liveKind i).isSome
    ((code == 2 && value == 0) || code == 3 || code == 4) && engaged
  else false

/-- The Scanner's part of a change of the enabled item: sampling stops with no run, or begins from RELEASED without a start look (R38, log 23). -/
def LineState.enable (on : Bool) (was : Bool) (l : LineState) : LineState :=
  if on then (if was then l else { l.settledAt .released with startLook := false })
  else { l with run := 0, held := none, heldMode := none, firstRun := false }

/-- The Scanner's line states when a line item takes effect (R38). -/
def State.enableLine (code index : Nat) (value : Int) (s : State) : State :=
  if h : index < 32 then
    if code = 2 then
      let i : Fin 32 := ⟨index, h⟩
      { s with lines := s.lines.set i (s.lines[i].enable (value == 1) s.config.lines[i].enabled) }
    else s
  else s

/-- Put an item in force with the effect its owning block's rule gives (R19, R36, R38, R80, R106, R175). A new slew step changes the length of the second in progress, so its reading is kept; a new local offset presents a minute event; the live requester table takes a new level. -/
def State.putItem (code index : Nat) (value : Int) (s : State) : State :=
  let s1 := s.enableLine code index value
  let kept := if code = 20 then { s1 with time := s1.time.keepReading s1.config.slewStep } else s1
  let config := itemSet s.config code index value
  let s2 := { kept with config := config, port := { kept.port with levels := if code = 1 then config.levels else kept.port.levels } }
  if code = 21 then s2.presentMinute else s2

/-- The checks CONFIGURE and READ_CONFIG share: item code and index (R175, R177). -/
def itemNamed (code index : Nat) : Bool := decide (index < itemIndices code)

/-- CONFIGURE at the configuration writer, by the first case that applies (R175). -/
def configureAct (code index : Nat) (value : Int) : Act := fun _ s =>
  if !itemNamed code index then refuse .badField s
  else if !itemInRange code value then refuse .badField s
  else if leavesNoEngineer s.config code index value then refuse .badField s
  else if s.scannerRefuses code index value then refuse .busy s
  else if s.store.configWrite.isSome then refuse .busy s
  else ((s.putItem code index value).askConfigWrite, none)

/-- CONFIGURE, level 0, selector 0 of row 32 (R175). -/
def execConfigure (h : Header) (code index : Nat) (value : Int) (s : State) : Host.Outcome State Fault Refusal :=
  .next (s.request h 32 0 (configureAct code index value))

/-- READ_CONFIG at the configuration writer (R177): live value, factory default, fault flag, whether a write is waiting or in progress. -/
def readConfigAct (code index : Nat) : Act := fun _ s =>
  if !itemNamed code index then refuse .badField s
  else answer .ok (beInt 4 (itemGet s.config code index) ++ beInt 4 (itemGet .factory code index) ++ flag s.store.configFault
    ++ flag s.store.configWrite.isSome) s

/-- READ_CONFIG, level 3, selector 1 of row 32 (R177). -/
def execReadConfig (h : Header) (code index : Nat) (s : State) : Host.Outcome State Fault Refusal :=
  .next (s.request h 32 3 (readConfigAct code index))

/-- The configuration image's agreement with the live configuration, by the check codes (R177). -/
def State.configAgrees (s : State) : Bool := s.store.configImage.code == s.config.code

/-- Both comparisons of the configuration image match (R177, R181). -/
def State.configMatches (s : State) : Bool := s.store.configImage.good && s.configAgrees

/-- The fault flag becomes yes where a comparison differs, and stands otherwise (R176, R177, R181). -/
def State.checkConfig (s : State) : State :=
  if s.configMatches then s else { s with store := { s.store with configFault := true } }

/-- CHECK_CONFIG at the configuration writer (R177). The result of a comparison is 1 where it matches (log 14). -/
def checkConfigAct : Act := fun _ s =>
  if s.store.configWrite.isSome then refuse .busy s
  else answer .ok (u16 s.store.configImage.code.toNat ++ u16 s.store.configImage.items.code.toNat ++ u16 s.config.code.toNat
    ++ flag s.store.configImage.good ++ flag s.configAgrees) s.checkConfig

/-- CHECK_CONFIG, level 0, selector 2 of row 32 (R177). -/
def execCheckConfig (h : Header) (s : State) : Host.Outcome State Fault Refusal := .next (s.request h 32 0 checkConfigAct)

end Sys2Proof.Machine
end

