-- ==== Sys2Proof/Machine/Starts.lean ====
section
/-! DEFINITION. Loss of main power, the three start kinds and the reset line (R20 to R23, 10 section 10.3). -/

namespace Sys2Proof.Machine

/-! ### Stopping (R20, R136, R174) -/

/-- The port stops: its replies, placed or reserved, are dropped with the slots (R174). -/
def State.stopPort (s : State) : State := { s with port := { s.port with slots := Vector.replicate 2 .free } }

/-- The blocks other than the Time Base stop: main power is lost or the reset line is asserted (R136, R174, R182). -/
def State.stopBlocks (image : Image) (config : ConfigImage) (s : State) : State := (s.stopStore image config).stopPort

/-- The Time Base at the loss of main power (R20). -/
def TimeBase.powerLost (t : TimeBase) : TimeBase :=
  let cleared := { t with
    outageMark := some t.elapsed, target := none, rcHeld := false, refQualified := false, anchor := none, goodRun := 0, badRun := 0 }
  if t.crystalRunning then
    { cleared with source := .xtal, holdover := if t.source = .ref then 0 else t.holdover }
  else { cleared with backupLost := true }

/-- The supplies when main power goes: with no backup supply either, the retained-valid marker becomes invalid, and a start that waited is dropped (R179). -/
def Pins.loseMain (p : Pins) : Pins :=
  { p with mainPower := false, retainedValid := p.retainedValid && p.backupSupply, startWaiting := none }

/-- The supplies when the backup supply goes: the marker becomes invalid with main power off, and stands with main power present (R179). -/
def Pins.loseBackup (p : Pins) : Pins := { p with backupSupply := false, retainedValid := p.retainedValid && p.mainPower }

/-- MAIN_POWER_LOST (R20, R75, R94, R118, R136, R158, R174, R179). While a start waits for the release of the reset line the part already stands as under backup supply, so only the supplies and the waiting start change (R179, log 18). -/
def execMainPowerLost (dt : Nat) (image : Image) (config : ConfigImage) (s : State) : Host.Outcome State Fault Refusal :=
  let s1 := s.pass dt
  .next (if s1.timeUp then
      let s2 := s1.stopBlocks image config
      { s2 with time := s2.time.powerLost, pins := s2.pins.loseMain }
    else if s1.pins.mainPower then { s1 with pins := s1.pins.loseMain }
    else s1)

/-- BACKUP_SUPPLY_LOST (R179): with neither supply the retained-valid marker becomes invalid; with main power present the marker stands and the loss is kept (log 17). -/
def execBackupSupplyLost (dt : Nat) (s : State) : Host.Outcome State Fault Refusal :=
  let s1 := s.pass dt
  .next { s1 with pins := s1.pins.loseBackup }

/-! ### Parts of a start -/

/-- The Station Port at a start: slots free, no condition masked, latched events clear (R174). STARTED and what the start's own rules raise follow. -/
def State.startPort (k : StartKind) (s : State) : State :=
  { s with port :=
    { slots := Vector.replicate 2 .free, nextOrder := 1, latched := 0, mask := 0, lastStart := k, levels := s.config.levels,
      dataOut := [] } }

/-- The pins when a start begins: main power present, reset line released, no start waiting (R179). -/
def Pins.starting (p : Pins) : Pins := { p with mainPower := true, resetLine := false, startWaiting := none }

/-! ### Cold start (R180) -/

/-- Step 1: the configuration from a good image, or the factory defaults (R180). -/
def State.coldConfig (s : State) : State :=
  if s.store.configImage.good then
    { s with config := s.store.configImage.items, store := { s.store with configFault := false } }
  else { s with config := .factory, store := { s.store with configFault := true } }

/-- Step 2: the Time Base (R21, R37). The interval clock runs on and the boundary position is this moment. -/
def TimeBase.cold (start : Target) (t : TimeBase) : TimeBase :=
  { clock := t.clock, source := .rc, target := some start, rcHeld := false, refQualified := false, anchor := none, lastPulse := 0,
    goodRun := 0, badRun := 0, crystalRunning := false, boundaryPos := t.clock, boundaryTime := 0, slewRemainder := 0,
    pendingStep := none, readFloor := none, lastPresented := none, generation := 0, timeSet := false, elapsed := 0, holdover := 0,
    outageMark := none, backupLost := false }

/-- Steps 2 and 3: the Time Base, the Scanner's lines (R52), an empty Trip Table (R76). -/
def State.coldTime (s : State) : State :=
  { s with
    time := s.time.cold s.config.startSource
    lines := Vector.ofFn fun i : Fin 32 => LineState.cold s.config.lines[i].enabled
    trips := { slots := Vector.replicate 48 none, pendingList := [], serial := 0 } }

/-- A unit tally from its image, and its dirty mark (R137). -/
def restoredUnit (t : Store) (u : Fin 8) : UnitCounts × Bool :=
  let i := unitImage u
  if t.foundGood i then
    match t.images[i].content with
    | .unit c => (c, false)
    | .empty => (.zero, true)
    | .account _ => (.zero, true)
  else (.zero, true)

/-- A LOST account with a serial (R119). -/
def lostAccount (serial : Word16) : Account := { serial := serial, figures := .zero, fraction := 0, live := none }

/-- An account slot from its image, before serials are given to the lost (R137): none is a slot whose image is bad. -/
def restoredSlot (t : Store) (k : Fin 24) : Option AccountSlot :=
  let i := accountImage k
  if t.foundGood i then
    match t.images[i].content with
    | .account a => some (.held a false)
    | .empty => some (.free false)
    | .unit _ => some (.free false)
  else none

/-- One more than the greatest serial among the accounts restored from good images, or 0 (R120 step 1). -/
def restoredSerial (t : Store) : Word16 :=
  let serials := (List.finRange 24).filterMap fun k => ((restoredSlot t k).bind (·.account)).map (·.serial.toNat)
  match serials with
  | [] => 0
  | x :: xs => BitVec.ofNat 16 (xs.foldl max x + 1)

/-- Hold a slot LOST with the next serial (R98, R119). -/
def Tally.lose (k : Fin 24) (t : Tally) : Tally :=
  { t with accounts := t.accounts.set k (.held (lostAccount t.serial) true), serial := t.serial + 1 }

/-- The walk sequence number of an account slot's image. -/
def Store.slotNumber (t : Store) (k : Fin 24) : Nat := t.images[accountImage k].number

/-- Slot j outranks slot k: its image has the higher walk sequence number, or an equal one and j is the lower slot (R120 steps 3 and 4). -/
def Store.outranks (t : Store) (j k : Fin 24) : Bool :=
  decide (t.slotNumber k < t.slotNumber j) || (t.slotNumber k == t.slotNumber j && decide (j < k))

/-- The live fields of an account slot. -/
def AccountSlot.liveFields (a : AccountSlot) : Option LiveFields := a.account.bind (·.live)

/-- An outranking LIVE account elsewhere shares a property with the LIVE account of slot k. -/
def Tally.outranked (t : Tally) (store : Store) (same : LiveFields → LiveFields → Bool) (k : Fin 24) : Bool :=
  (List.finRange 24).any fun j =>
    store.outranks j k && t.accounts[k].liveFields.any fun l => t.accounts[j].liveFields.any fun m => same l m

/-- Equal tags (R120 step 3). -/
def sameTag (l m : LiveFields) : Bool := l.tag == m.tag

/-- One class bound to one unit position (R120 step 4). -/
def sameBinding (l m : LiveFields) : Bool := l.cls == m.cls && l.bound.isSome && l.bound == m.bound

/-- Make an account unbound, with its dirty mark set (R120 step 4). -/
def AccountSlot.unbound : AccountSlot → AccountSlot
  | .free r => .free r
  | .held a _ => .held (a.bindTo none) true

/-- The account table restored from its images and settled (R120): serial counter, lost slots, duplicate tags, double bindings. Accounts lost for duplicate tags take their serials in slot order, as R120 gives it for lost slots alone (log 32). The flag says an account was held LOST. -/
def settledAccounts (store : Store) (t : Tally) : Tally × Bool :=
  let start := { t with
    accounts := Vector.ofFn fun k : Fin 24 => (restoredSlot store k).getD (.free false)
    serial := restoredSerial store }
  let bad := (List.finRange 24).filter fun k => (restoredSlot store k).isNone
  let lost := bad.foldl (fun a k => a.lose k) start
  let doubles := (List.finRange 24).filter fun k => lost.outranked store sameTag k
  let unique := doubles.foldl (fun a k => a.lose k) lost
  let freed := Vector.ofFn fun k : Fin 24 =>
    if unique.outranked store sameBinding k then unique.accounts[k].unbound else unique.accounts[k]
  ({ unique with accounts := freed }, !bad.isEmpty || !doubles.isEmpty)

/-- Step 4: the tallies restored, the side table cleared, POWER_FREEZE released, the Mode Tracker afresh (R95, R118, R120, R137). The flag says RECORD_LOST is raised. -/
def State.coldTallies (s : State) : State × Bool :=
  let units := Vector.ofFn fun u : Fin 8 => restoredUnit s.store u
  let blank : Tally :=
    { units := Vector.ofFn fun u : Fin 8 => units[u].1, dirty := Vector.ofFn fun u : Fin 8 => units[u].2,
      accounts := s.tally.accounts, serial := 0, side := Vector.replicate 8 .zero, freeze := false }
  let settled := settledAccounts s.store blank
  let lostUnit := (List.finRange 8).any fun u => !s.store.foundGood (unitImage u)
  ({ s with tally := settled.1, store := s.store.checked, units := Vector.replicate 8 .cold }, lostUnit || settled.2)

/-- Step 5: the Watch Controller, each baseline from the tallies restored (R159). -/
def State.coldWatch (s : State) : State :=
  { s with watch :=
    { state := .noWatch, crew := 0, incoming := 0, origin := none, window := none, openedAt := none, warningDeadline := none,
      windowDeadline := none, overdue := false, pendingSlot := none, missed := 0, lastOutcome := none, shift := 0,
      shiftStart := s.stamp, lastOpened := Vector.replicate 6 none, baseline := s.tally.units, previous := none } }

/-- The freeze begins where the warning line is found asserted at the end of a start (R116, R118). -/
def State.foundWarning (s : State) : State :=
  if s.pins.warningLine then { s with tally := { s.tally with freeze := true } } else s

/-- A cold start (R180). -/
def State.coldStart (s : State) : State :=
  let begun := ({ s with pins := s.pins.starting } : State).coldConfig.coldTime
  let restored := begun.coldTallies
  let watched := restored.1.coldWatch.startPort .cold
  let raised := (watched.raise .started).raiseWord (if restored.2 then Event.recordLost.bit else 0#32)
  ({ raised with pins := { raised.pins with retainedValid := true } } : State).foundWarning.startTrigger

/-! ### Warm start (R181) and the reset line (R182) -/

/-- The outage gap (R22). -/
def TimeBase.gap (t : TimeBase) : Nat := (t.outageMark.map fun m => t.elapsed - m).getD 0

/-- Step 2: the Time Base at a warm start (R22, R37). With the backup count lost, station time runs on from the boundary time as kept (R22), which is up to 999 ms before the value it had reached (R20 action 5), and the generation stands: against R17 this is the model's choice (log 35). -/
def TimeBase.warm (start : Target) (t : TimeBase) : TimeBase :=
  let common := { t with
    refQualified := false, anchor := none, goodRun := 0, badRun := 0, target := none, rcHeld := false, outageMark := none,
    lastPresented := none }
  if t.backupLost then
    { common with
      source := .rc, crystalRunning := false, boundaryPos := t.clock, timeSet := false, backupLost := false, target := some start,
      slewRemainder := 0, pendingStep := none, readFloor := none }
  else
    { common with source := .xtal, target := if start = .ref then some .ref else none }

/-- Step 3: the lines are taken up and kept test injections end with TEST releases (R54, R55, R77). -/
def State.takeUpLines (s : State) : State :=
  ({ s with lines := Vector.ofFn fun i : Fin 32 => s.lines[i].takeUp s.config.lines[i].enabled } : State).endTests fun _ => true

/-- Step 4, first part: the Mode Tracker afresh, and the outage gap in the unobserved seconds of units kept in a running mode or CONFLICT (R91, R96). -/
def State.takeUpUnits (gap : Nat) (s : State) : State :=
  { s with
    units := Vector.ofFn fun u : Fin 8 => s.units[u].takeUp
    tally := s.tally.changeUnits fun u c =>
      if s.units[u].mode = .stopped then c else { c with unobserved := satAdd Config.countTop c.unobserved gap } }

/-- Step 5: the tally images are checked by their check codes, and the record of a bad one is marked (R138). -/
def State.checkImages (s : State) : State :=
  let tally := (List.finRange 32).foldl (fun t i => if s.store.foundGood i then t else t.setMark true i) s.tally
  { s with tally := tally, store := s.store.checked }

/-- Step 6: deadlines reached are taken as expiries, and a stranded pending slot is handled (R160). -/
def State.takeUpWatch (s : State) : State :=
  let expired := s.watchTick
  if !expired.watch.handover && expired.time.pendingStep.isNone then expired.handlePending else expired

/-- Steps 3 to 8 of a start that takes retained state up: `gap` is the outage gap, and `keep` says that the side table stands (R118, R181, R182). -/
def State.resume (gap : Nat) (keep : Bool) (s : State) : State :=
  let units := s.takeUpLines.takeUpUnits gap
  let credited := if keep then units else units.credit
  ((credited.checkImages.takeUpWatch.raise .started).foundWarning).startTrigger

/-- A warm start (R181). -/
def State.warmStart (s : State) : State :=
  let checked := ({ s with pins := s.pins.starting } : State).checkConfig.startPort .warm
  ({ checked with time := s.time.warm s.config.startSource } : State).resume s.time.gap false

/-- The start taken at the release of the reset line: the Time Base stands, the gap is zero, and the side table stands while the warning is asserted (R23, R118, R182). -/
def State.resetStart (s : State) : State :=
  let checked := ({ s with pins := s.pins.starting } : State).checkConfig.startPort .resetLine
  ({ checked with time := { s.time with lastPresented := none } } : State).resume 0 s.pins.warningLine

/-! ### The commands -/

/-- The supplies when main power rises: the backup supply counts as there until its loss is commanded (log 17). -/
def Pins.rise (p : Pins) : Pins := { p with mainPower := true, backupSupply := true }

/-- Main power rises: the start is taken, or waits for the release of the reset line (R179). -/
def State.powerUp (k : StartKind) (start : State → State) (s : State) : State :=
  let s1 := { s with pins := s.pins.rise }
  if s.pins.resetLine then { s1 with pins := { s1.pins with startWaiting := some k } } else start s1

/-- COLD_START: main power rises with the marker invalid (R179, R180). -/
def execColdStart (dt : Nat) (s : State) : Host.Outcome State Fault Refusal :=
  let s1 := s.pass dt
  .next (if !s1.pins.mainPower && !s1.pins.retainedValid then s1.powerUp .cold State.coldStart else s1)

/-- WARM_START: main power rises with the marker valid (R179, R181). -/
def execWarmStart (dt : Nat) (s : State) : Host.Outcome State Fault Refusal :=
  let s1 := s.pass dt
  .next (if !s1.pins.mainPower && s1.pins.retainedValid then s1.powerUp .warm State.warmStart else s1)

/-- RESET_LINE_ASSERTED (R182): the blocks other than the Time Base stop. With main power off it has no effect but the line's level (R179). -/
def execResetLineAsserted (dt : Nat) (image : Image) (config : ConfigImage) (s : State) : Host.Outcome State Fault Refusal :=
  let s1 := s.pass dt
  let held := if s1.up then s1.stopBlocks image config else s1
  .next { held with pins := { held.pins with resetLine := true } }

/-- The start a release of the reset line brings: the one that waited, a reset-line start, or none with main power off (R179, R182). -/
def State.lineReleased (s : State) : State :=
  match s.pins.startWaiting with
  | some .cold => s.coldStart
  | some .warm => s.warmStart
  | some .resetLine => s.resetStart
  | none => if s.pins.mainPower then s.resetStart else { s with pins := { s.pins with resetLine := false } }

/-- RESET_LINE_RELEASED (R182). -/
def execResetLineReleased (dt : Nat) (s : State) : Host.Outcome State Fault Refusal :=
  let s1 := s.pass dt
  .next (if s1.pins.resetLine then s1.lineReleased else s1)

end Sys2Proof.Machine
end

