-- ==== Sys2Proof/Machine/RequestsPort.lean ====
section
/-! DEFINITION. The Station Port's own requests: FIND, READ_CONDITIONS, CLEAR_CONDITIONS, SET_MASK (09 sections 9.6 and 9.7). -/

namespace Sys2Proof.Machine

/-! ### FIND (R168, R169) -/

/-- The collections of FIND (09 section 9.6). -/
inductive Collection where
  | trips | pending | accounts
deriving DecidableEq, Repr

/-- The collection a code names: TRIPS 0, PENDING 1, ACCOUNTS 2. -/
def Collection.ofCode : Nat → Option Collection
  | 0 => some .trips | 1 => some .pending | 2 => some .accounts | _ => none

/-- How many indices a collection has. -/
def Collection.size : Collection → Nat
  | .trips => 48 | .pending => 32 | .accounts => 24

/-- The greatest maximum a FIND of a collection may ask for (R168). -/
def Collection.most : Collection → Nat
  | .trips => 4 | .pending => 7 | .accounts => 2

/-- A filter applies to a collection with a value in its range (R168). -/
def filterApplies (c : Collection) (code value : Nat) : Bool :=
  match code, c with
  | 1, .trips | 1, .pending => decide (value ≤ 8)
  | 1, .accounts => decide (1 ≤ value) && decide (value ≤ 8)
  | 2, .trips | 3, .trips => decide (value ≤ 3)
  | 2, .accounts | 3, .accounts => decide (value ≤ 1)
  | 4, .trips | 4, .pending => decide (value ≤ 1)
  | 5, .accounts => decide (value ≤ 3)
  | 6, .accounts => decide (value ≤ 1)
  | 7, .accounts => decide (value ≤ 2)
  | 8, .trips | 8, .pending => decide (value ≤ 15)
  | _, _ => false

/-- Read an option list: filter items of a code byte and a value byte, ended by an end item of code 0 with nothing after it (R168). -/
def readOptions (c : Collection) : List Byte → Option (List (Nat × Nat))
  | [] => none
  | [b] => if b = 0 then some [] else none
  | b :: v :: rest =>
    if b ≠ 0 ∧ filterApplies c b.toNat v.toNat then (readOptions c rest).map fun l => (b.toNat, v.toNat) :: l else none

/-- A record passes a filter item over TRIPS. -/
def TripRecord.passes (r : TripRecord) (item : Nat × Nat) : Bool :=
  match item.1 with
  | 1 => r.unit.val == item.2
  | 2 => r.state.code == item.2
  | 3 => r.state.code != item.2
  | 4 => r.kind.code == item.2
  | 8 => decide (item.2 ≤ r.carried)
  | _ => false

/-- An entry passes a filter item over PENDING; its unit is the configured unit of its line. -/
def PendingEntry.passes (lines : Vector LineConfig 32) (e : PendingEntry) (item : Nat × Nat) : Bool :=
  match item.1 with
  | 1 => lines[e.line].unit.val == item.2
  | 4 => e.kind.code == item.2
  | 8 => decide (item.2 ≤ e.carried)
  | _ => false

/-- An account passes a filter item over ACCOUNTS. -/
def Account.passes (a : Account) (item : Nat × Nat) : Bool :=
  match item.1 with
  | 1 => (a.live.bind (·.bound)).any fun u => u.val + 1 == item.2
  | 2 => a.stateCode == item.2
  | 3 => a.stateCode != item.2
  | 5 => a.live.any fun l => l.cls.code == item.2
  | 6 => (if (a.live.bind (·.bound)).isSome then 1 else 0) == item.2
  | 7 => a.live.any fun l => l.service.code == item.2
  | _ => false

/-- The bytes of the record at an index of a collection, where there is one that passes every filter item (R169). -/
def State.matchAt (c : Collection) (items : List (Nat × Nat)) (i : Nat) (s : State) : Option (List Byte) :=
  match c with
  | .trips =>
    match s.trips.slots[i]? with
    | some (some r) => if items.all r.passes then some (r.bytes i) else none
    | _ => none
  | .pending =>
    match s.trips.pendingList[i]? with
    | some e => if items.all (e.passes s.config.lines) then some e.bytes else none
    | none => none
  | .accounts =>
    match s.tally.accounts[i]? with
    | some (.held a d) => if items.all a.passes then some (a.bytes i d) else none
    | _ => none

/-- Walk the indices until the results reach the maximum: the results with their indices, and the next index, absent when the far bound was visited (R169). -/
def walkFind (f : Nat → Option (List Byte)) : Nat → List Nat → List (List Byte) × Option Nat
  | _, [] => ([], none)
  | 0, i :: _ => ([], some i)
  | k + 1, i :: rest =>
    match f i with
    | none => walkFind f (k + 1) rest
    | some b => let r := walkFind f k rest; ((b ++ u8 i) :: r.1, r.2)

/-- The indices visited: from the start up to the end, or from the end down to the start; an end below the start is taken as the start (R168, R169). -/
def findIndices (start stop direction : Nat) : List Nat :=
  let up := (List.range (max start stop + 1 - start)).map (· + start)
  if direction = 0 then up else up.reverse

/-- FIND at the Station Port (R168, R169): direction UP 0, DOWN 1. -/
def findAct (collection start stop direction maximum : Nat) (options : List Byte) : Act := fun _ s =>
  match Collection.ofCode collection with
  | none => refuse .badField s
  | some c =>
    if 1 < direction ∨ c.size ≤ start ∨ c.size ≤ stop ∨ maximum = 0 ∨ c.most < maximum then refuse .badField s
    else match readOptions c options with
      | none => refuse .badField s
      | some items =>
        let r := walkFind (fun i => s.matchAt c items i) maximum (findIndices start stop direction)
        answer .ok (u8 r.1.length ++ r.1.flatten ++ opt u8 r.2) s

/-- FIND, level 3 (R168). -/
def execFind (h : Header) (collection start stop direction max : Nat) (options : List Byte) (s : State) :
    Host.Outcome State Fault Refusal :=
  .next (s.request h 28 3 (findAct collection start stop direction max options))

/-! ### Conditions -/

/-- A condition word in a reply. -/
def wordBytes (w : Word32) : List Byte := u32 w.toNat

/-- READ_CONDITIONS at the Station Port (R173). -/
def readConditionsAct : Act := fun _ s =>
  answer .ok (wordBytes s.conditions ++ wordBytes s.port.mask ++ flag s.attention ++ u8 s.port.lastStart.code ++ u40 s.time.elapsed) s

/-- READ_CONDITIONS, level 3 (R173). -/
def execReadConditions (h : Header) (s : State) : Host.Outcome State Fault Refusal := .next (s.request h 29 3 readConditionsAct)

/-- Bits 12..15 and 24..31 of a condition word are zero (R162, R171, R172). -/
def wordValid (w : Word32) : Bool := w &&& 0xFF00F000#32 == 0#32

/-- CLEAR_CONDITIONS at the Station Port (R171). -/
def clearConditionsAct (word : Word32) : Act := fun _ s =>
  if wordValid word then
    let s1 := { s with port := { s.port with latched := s.port.latched &&& ~~~word } }
    answer .ok (wordBytes s1.conditions) s1
  else refuse .badField s

/-- CLEAR_CONDITIONS, level 2 (R171). -/
def execClearConditions (h : Header) (word : Word32) (s : State) : Host.Outcome State Fault Refusal :=
  .next (s.request h 30 2 (clearConditionsAct word))

/-- SET_MASK at the Station Port (R172). -/
def setMaskAct (word : Word32) : Act := fun _ s =>
  if wordValid word then
    let s1 := { s with port := { s.port with mask := word } }
    answer .ok (wordBytes s1.port.mask ++ wordBytes s1.conditions) s1
  else refuse .badField s

/-- SET_MASK, level 2 (R172). -/
def execSetMask (h : Header) (word : Word32) (s : State) : Host.Outcome State Fault Refusal :=
  .next (s.request h 31 2 (setMaskAct word))

end Sys2Proof.Machine
end

