-- ==== Sys2Proof/Machine/RequestsTime.lean ====
section
/-! DEFINITION. The Time Base's requests: SELECT_SOURCE, SET_TIME, READ_TIME (01 sections 1.5 and 1.9, 02 section 2.3). -/

namespace Sys2Proof.Machine

/-- The source status every reply to SELECT_SOURCE carries (R9). -/
def State.sourceStatus (s : State) : List Byte :=
  u8 s.time.source.code ++ opt (fun t => u8 t.code) s.time.target ++ flag s.time.qualifying ++ flag s.time.refQualified

/-- Begin a switch to a target, replacing one in flight (R9). -/
def State.beginSwitch (t : Target) (s : State) : State := { s with time := { s.time with target := some t } }

/-- RC becomes current by request (R9). -/
def State.selectRc (s : State) : State :=
  ({ s with time := { s.time with
      source := .rc, target := none, rcHeld := true,
      holdover := if s.time.source = .ref then 0 else s.time.holdover } } : State).raise .sourceSwitched

/-- SELECT_SOURCE at the Time Base (R9). -/
def selectSourceAct (source : Nat) : Act := fun _ s =>
  match Source.ofCode source with
  | none => answer .badField s.sourceStatus s
  | some q =>
    if q = s.time.source then
      let s1 := { s with time := { s.time with target := none } }
      answer .redundant s1.sourceStatus s1
    else
      match q with
      | .rc => let s1 := s.selectRc; answer .ok s1.sourceStatus s1
      | .ref => let s1 := s.beginSwitch .ref; answer .accepted s1.sourceStatus s1
      | .xtal => let s1 := s.beginSwitch .xtal; answer .accepted s1.sourceStatus s1

/-- SELECT_SOURCE, level 1 (R9). -/
def execSelectSource (h : Header) (source : Nat) (s : State) : Host.Outcome State Fault Refusal :=
  .next (s.request h 1 1 (selectSourceAct source))

/-- The reply body of a SET_TIME: offset, kind of correction, stamp after it (R28). SLEW is 0, STEP 1, DEFERRED 2. -/
def State.correctionReply (offset : Int) (kind : Nat) (s : State) : List Byte := beInt 6 offset ++ u8 kind ++ s.stamp.bytes

/-- SET_TIME at the Time Base (R27 to R32). -/
def setTimeAct (seconds millis : Nat) : Act := fun _ s =>
  if Config.stationTopS < seconds ∨ 999 < millis then refuse .badField s
  else
    let offset := s.measuredOffset ((seconds : Int) * 1000 + millis)
    if s.time.timeSet = true ∧ offset.natAbs ≤ s.config.slewThreshold then
      let s1 := s.takeSlew offset
      answer .ok (s1.correctionReply offset 0) s1
    else if s.watch.handover then
      let s1 := s.holdStep offset
      answer .deferred (s1.correctionReply offset 2) s1
    else
      let s1 := s.applyStep offset
      answer .ok (s1.correctionReply offset 1) s1

/-- SET_TIME, level 1 (R27). -/
def execSetTime (h : Header) (seconds millis : Nat) (s : State) : Host.Outcome State Fault Refusal :=
  .next (s.request h 2 1 (setTimeAct seconds millis))

/-- A local time in a reply: minute, then day. -/
def LocalTime.bytes (t : LocalTime) : List Byte := u16 t.minute ++ beInt 4 t.day

/-- The reply body of READ_TIME (R18, R35). R18 names local minute and day before the correction state and R35 names them after it; the model sends them in the order of R35, the correction state first (log 14). -/
def State.timeBody (s : State) : List Byte :=
  let t := s.time
  s.stamp.bytes ++ u40 t.elapsed ++ u8 t.source.code ++ opt (fun x => u8 x.code) t.target ++ flag t.qualifying ++ flag t.rcHeld
    ++ flag t.refQualified ++ u8 t.goodRun ++ u8 t.badRun ++ flag t.crystalRunning ++ u32 t.holdover ++ flag t.backupLost
    ++ beInt 4 t.slewRemainder ++ opt (beInt 6) t.pendingStep
    ++ beInt 2 s.config.localOffset ++ s.localTime.bytes ++ opt LocalTime.bytes t.lastPresented

/-- READ_TIME at the Time Base (R18, R35). -/
def readTimeAct : Act := fun _ s => answer .ok s.timeBody s

/-- READ_TIME, level 3 (R18). -/
def execReadTime (h : Header) (s : State) : Host.Outcome State Fault Refusal := .next (s.request h 3 3 readTimeAct)

end Sys2Proof.Machine
end

