-- ==== Sys2Proof/Machine/RequestsTrip.lean ====
section
/-! DEFINITION. The requests of the Trip Line Scanner and the Trip Table: TEST_TRIP, CANCEL_TEST, READ_LINE, ACKNOWLEDGE, ASSIGN_CAUSE,
RETIRE_TRIP, READ_TRIP (03 sections 3.5 and 3.6, 04 sections 4.5 to 4.8). -/

namespace Sys2Proof.Machine

/-! ### Scanner -/

/-- Make a test injection on a line: injection stamp, end second, TEST assertion (R46). -/
def State.inject (line : Fin 32) (duration : Nat) (s : State) : State :=
  let stamp := s.stamp
  let test : TestInjection := ⟨stamp, min Config.elapsedTop (s.time.elapsed + duration)⟩
  ({ s with lines := s.lines.set line { s.lines[line] with test := some test } }).takeAssertion
    ⟨line, .test, stamp, s.lineMode line, false⟩

/-- TEST_TRIP at the Scanner, by the first case that applies (R45). -/
def testTripAct (line duration : Nat) : Act := fun _ s =>
  if h : line < 32 then
    let i : Fin 32 := ⟨line, h⟩
    let l := s.lines[i]
    if duration < 1 ∨ 600 < duration then refuse .badField s
    else if !s.config.lines[i].enabled then refuse .state s
    else if l.test.isSome then refuse .busy s
    else if l.phase ≠ .released then refuse .busy s
    else if s.trips.liveKind i = some .real then refuse .busy s
    else
      let s1 := s.inject i duration
      answer .ok (s.stamp.bytes ++ u40 (min Config.elapsedTop (s.time.elapsed + duration))) s1
  else refuse .badField s

/-- TEST_TRIP, level 1 (R45). -/
def execTestTrip (h : Header) (line duration : Nat) (s : State) : Host.Outcome State Fault Refusal :=
  .next (s.request h 4 1 (testTripAct line duration))

/-- CANCEL_TEST at the Scanner (R48). -/
def cancelTestAct (line : Nat) : Act := fun _ s =>
  if h : line < 32 then
    let i : Fin 32 := ⟨line, h⟩
    if s.lines[i].test.isSome then answer .ok s.stamp.bytes (s.endTest i) else refuse .state s
  else refuse .badField s

/-- CANCEL_TEST, level 1 (R48). -/
def execCancelTest (h : Header) (line : Nat) (s : State) : Host.Outcome State Fault Refusal :=
  .next (s.request h 5 1 (cancelTestAct line))

/-- The reply body of READ_LINE (R51). The seconds remaining to the end are 0 where the end second has been reached; they are at most the 600 s of R45, so two bytes hold them (R162, log 14). Whether there is a live item, and its kind, are one optional field (log 14). -/
def State.lineBody (i : Fin 32) (s : State) : List Byte :=
  let c := s.config.lines[i]
  let l := s.lines[i]
  let kind := s.trips.liveKind i
  flag c.enabled ++ u8 c.unit.val ++ u8 c.group.val ++ u8 c.assertCount ++ u8 c.releaseCount ++ u8 l.phase.code ++ u8 l.run
    ++ opt Stamp.bytes l.held ++ opt (fun m => u8 m.code) l.heldMode ++ flag l.startLook
    ++ opt (fun j : TestInjection => j.stamp.bytes ++ u40 j.endSecond ++ u16 (j.endSecond - s.time.elapsed)) l.test
    ++ opt (fun k => u8 k.code) kind

/-- READ_LINE at the Scanner (R51). -/
def readLineAct (line : Nat) : Act := fun _ s =>
  if h : line < 32 then answer .ok (s.lineBody ⟨line, h⟩) s else refuse .badField s

/-- READ_LINE, level 3 (R51). -/
def execReadLine (h : Header) (line : Nat) (s : State) : Host.Outcome State Fault Refusal :=
  .next (s.request h 6 3 (readLineAct line))

/-! ### Trip Table -/

/-- The record a slot and a serial name, or the first of BAD_FIELD, NOT_FOUND, STALE with the record's bytes where the slot is occupied (R67, R69, R70). -/
def State.namedTrip (slot serial : Nat) (s : State) : Except (ReplyCode × List Byte) (Fin 48 × TripRecord) :=
  if h : slot < 48 then
    let i : Fin 48 := ⟨slot, h⟩
    match s.trips.slots[i] with
    | none => .error (.notFound, [])
    | some r => if r.serial.toNat = serial then .ok (i, r) else .error (.stale, r.bytes slot)
  else .error (.badField, [])

/-- Put a record back in its slot. -/
def State.setTrip (i : Fin 48) (r : TripRecord) (s : State) : State :=
  { s with trips := { s.trips with slots := s.trips.slots.set i (some r) } }

/-- ACKNOWLEDGE at the Trip Table, by the first case that applies (R67, R68). A refusal carries the record where the slot is occupied. -/
def acknowledgeAct (slot serial : Nat) : Act := fun c s =>
  match s.namedTrip slot serial with
  | .error (code, body) => answer code body s
  | .ok (i, r) =>
    if !s.watch.authority c.crew then answer .noAuthority (r.bytes i.val) s
    else if r.ack.isSome then answer .state (r.bytes i.val) s
    else
      let r1 := { r with ack := some ⟨c.crew, s.stamp⟩ }
      answer .ok (r1.bytes i.val) (s.setTrip i r1)

/-- ACKNOWLEDGE, level 2, crew-bound (R67). -/
def execAcknowledge (h : Header) (slot serial : Nat) (s : State) : Host.Outcome State Fault Refusal :=
  .next (s.request h 7 2 (acknowledgeAct slot serial))

/-- ASSIGN_CAUSE at the Trip Table (R69). A cause code of 0 clears the record's. -/
def assignCauseAct (slot serial cause : Nat) : Act := fun _ s =>
  if 999 < cause then refuse .badField s
  else match s.namedTrip slot serial with
    | .error (code, _) => refuse code s
    | .ok (i, r) =>
      let r1 := { r with cause := if cause = 0 then none else some cause }
      answer .ok (r1.bytes i.val) (s.setTrip i r1)

/-- ASSIGN_CAUSE, level 2 (R69). -/
def execAssignCause (h : Header) (slot serial cause : Nat) (s : State) : Host.Outcome State Fault Refusal :=
  .next (s.request h 8 2 (assignCauseAct slot serial cause))

/-- A record may be retired in RESOLVED, or in CLEARED when its kind is TEST (R70). -/
def TripRecord.retirable (r : TripRecord) : Bool := r.state == .resolved || (r.state == .cleared && r.kind == .test)

/-- Slot, serial and line of the record promoted into a freed slot, if one was (R70): one group under one presence byte (log 14). -/
def promotedBytes (i : Fin 48) (t : TripTable) : List Byte :=
  opt (fun e : PendingEntry => u8 i.val ++ u16 t.serial.toNat ++ u8 e.line.val) t.pendingList.head?

/-- RETIRE_TRIP at the Trip Table (R70, R71). -/
def retireTripAct (slot serial : Nat) : Act := fun _ s =>
  match s.namedTrip slot serial with
  | .error (code, _) => refuse code s
  | .ok (i, r) =>
    if r.retirable then
      answer .ok (r.bytes i.val ++ promotedBytes i s.trips) { s with trips := s.trips.retire s.config.lines i }
    else refuse .state s

/-- RETIRE_TRIP, level 2 (R70). -/
def execRetireTrip (h : Header) (slot serial : Nat) (s : State) : Host.Outcome State Fault Refusal :=
  .next (s.request h 9 2 (retireTripAct slot serial))

/-- The reply body of READ_TRIP: the record, whether it is live, and the table's figures (R74). -/
def State.tripBody (i : Fin 48) (r : TripRecord) (s : State) : List Byte :=
  r.bytes i.val ++ flag r.isLive ++ u8 s.trips.occupied ++ u8 s.trips.pendingCount ++ u8 s.trips.unresolved
    ++ u16 s.trips.serial.toNat

/-- READ_TRIP at the Trip Table (R74). -/
def readTripAct (slot : Nat) : Act := fun _ s =>
  if h : slot < 48 then
    match s.trips.slots[slot] with
    | none => refuse .notFound s
    | some r => answer .ok (s.tripBody ⟨slot, h⟩ r) s
  else refuse .badField s

/-- READ_TRIP, level 3 (R74). -/
def execReadTrip (h : Header) (slot : Nat) (s : State) : Host.Outcome State Fault Refusal :=
  .next (s.request h 10 3 (readTripAct slot))

end Sys2Proof.Machine
end

