-- ==== Sys2Proof/Machine/RequestsWatch.lean ====
section
/-! DEFINITION. The Watch Controller's requests: START_HANDOVER, SIGN_ON, RELEASE, ABORT_HANDOVER, READ_WATCH, READ_SHIFT_TALLY (08). -/

namespace Sys2Proof.Machine

/-- The last slot outcome in a reply. -/
def SlotOutcome.bytes (o : SlotOutcome) : List Byte := u8 o.slot.val ++ beInt 4 o.day ++ u8 o.result.code

/-- The shift context in a reply, fields in the order of 08 section 8.2. -/
def Watch.bytes (w : Watch) : List Byte :=
  u8 w.state.code ++ u8 w.crew.val ++ u8 w.incoming.val ++ opt (fun o => u8 o.code) w.origin ++ opt u8 w.window
    ++ opt u40 w.openedAt ++ opt u40 w.warningDeadline ++ opt u40 w.windowDeadline ++ flag w.overdue
    ++ opt (fun i : Fin 6 => u8 i.val) w.pendingSlot ++ u8 w.missed ++ opt SlotOutcome.bytes w.lastOutcome ++ u32 w.shift
    ++ w.shiftStart.bytes

/-- Answer with the shift context after the request. -/
def answerContext (code : ReplyCode) (s : State) : State × Answer := answer code s.watch.bytes s

/-- START_HANDOVER at the Watch Controller (R148). -/
def startHandoverAct : Act := fun c s =>
  if c.crew = 0 then answerContext .badField s
  else match s.watch.state with
    | .noWatch => answerContext .state s
    | .opened | .signed => answerContext .busy s
    | .onWatch =>
      if c.crew = s.watch.crew then answerContext .redundant s
      else answerContext .ok (s.openHandover .unscheduled c.crew s.config.defaultWindow 0)

/-- START_HANDOVER, level 1, crew-bound (R148). -/
def execStartHandover (h : Header) (s : State) : Host.Outcome State Fault Refusal := .next (s.request h 22 1 startHandoverAct)

/-- The watch is taken from NO_WATCH: a shift boundary closes the shift that ran with no crew (R149). -/
def State.takeWatch (crew : Fin 16) (s : State) : State :=
  ({ s with watch := { s.watch with crew := crew, state := .onWatch } } : State).boundary s.stamp 0

/-- SIGN_ON at the Watch Controller, by the first case that applies (R149). -/
def signOnAct : Act := fun c s =>
  if c.crew = 0 then answerContext .badField s
  else match s.watch.state with
    | .noWatch => answerContext .ok (s.takeWatch c.crew)
    | .opened =>
      if c.crew = s.watch.incoming then answerContext .ok { s with watch := { s.watch with state := .signed } }
      else if c.crew ≠ s.watch.crew ∧ c.level.val ≤ 1 then
        answerContext .ok { s with watch := { s.watch with state := .signed, incoming := c.crew } }
      else answerContext .wrongCrew s
    | .onWatch | .signed => answerContext .state s

/-- SIGN_ON, level 2, crew-bound (R149). -/
def execSignOn (h : Header) (s : State) : Host.Outcome State Fault Refusal := .next (s.request h 23 2 signOnAct)

/-- A completion (R151): stamp and shift boundary, the incoming crew takes the watch, the handover's end. -/
def State.complete (s : State) : State :=
  let s1 := s.boundary s.stamp s.watch.crew
  ({ s1 with watch := s1.watch.closeHandover s.watch.incoming } : State).endHandover

/-- The previous-shift header in a reply: shift number, crew, start stamp, end stamp (R150, R157). -/
def PreviousShift.header (p : PreviousShift) : List Byte := u32 p.number ++ u8 p.crew.val ++ p.start.bytes ++ p.stop.bytes

/-- The counts a RELEASE answers with, and whether carries were marked (R150). -/
def State.releaseCounts (marked : Bool) (s : State) : List Byte :=
  u8 s.trips.unresolved ++ u8 s.trips.pendingCount ++ flag marked

/-- A RELEASE that completes (R150): carries are marked, the handover completes, and the reply adds the new shift and the header. A completion always leaves a previous shift, so its header goes out with no presence byte, as in READ_SHIFT_TALLY PREVIOUS (R157, R162, log 14). -/
def completeRelease (marked : Bool) (s : State) : State × Answer :=
  let ready := if marked then { s with trips := s.trips.markCarries } else s
  let s1 := ready.complete
  answer .ok (s.releaseCounts marked ++ u32 s1.watch.shift ++ (s1.watch.previous.map PreviousShift.header).getD []) s1

/-- RELEASE at the Watch Controller, by the first case that applies (R150). -/
def releaseAct (carry : Bool) : Act := fun c s =>
  match s.watch.state with
  | .noWatch | .onWatch => refuse .state s
  | .opened => if c.crew ≠ s.watch.crew then refuse .noAuthority s else refuse .incomingAbsent s
  | .signed =>
    if c.crew ≠ s.watch.crew then refuse .noAuthority s
    else if s.trips.unresolved = 0 then completeRelease false s
    else if carry then completeRelease true s
    else answer .unresolved (s.releaseCounts false) s

/-- RELEASE, level 2, crew-bound (R150). -/
def execRelease (h : Header) (carry : Bool) (s : State) : Host.Outcome State Fault Refusal :=
  .next (s.request h 24 2 (releaseAct carry))

/-- An abort returns the watch to the outgoing crew without a boundary (R153). -/
def State.abort (s : State) : State := ({ s with watch := s.watch.closeHandover s.watch.crew } : State).endHandover

/-- ABORT_HANDOVER at the Watch Controller (R153). -/
def abortHandoverAct : Act := fun _ s => if s.watch.handover then answerContext .ok s.abort else refuse .state s

/-- ABORT_HANDOVER, level 1 (R153). -/
def execAbortHandover (h : Header) (s : State) : Host.Outcome State Fault Refusal := .next (s.request h 25 1 abortHandoverAct)

/-- Accounts in DUE (R156). -/
def Tally.dueCount (t : Tally) : Nat :=
  t.accounts.toList.countP fun a => (a.account.bind (·.live)).any fun l => l.service == .due

/-- Settled units in CONFLICT (R156). -/
def State.conflictCount (s : State) : Nat := s.units.toList.countP fun u => u.settled && u.mode == .conflict

/-- The roster slots with their last opened days in a reply (R156). -/
def State.rosterBytes (s : State) : List Byte :=
  (List.finRange 6).flatMap fun i => s.config.roster[i].bytes ++ opt (beInt 4) s.watch.lastOpened[i]

/-- The reply body of READ_WATCH (R156). The seconds remaining to a deadline are at most the longest window, 240 minutes, so two bytes hold them (R147, R162, log 14). -/
def State.watchBody (s : State) : List Byte :=
  let remaining := opt fun d : Nat => u16 (d - s.time.elapsed)
  s.watch.bytes ++ u40 s.time.elapsed ++ remaining s.watch.warningDeadline ++ remaining s.watch.windowDeadline ++ s.rosterBytes
    ++ flag s.time.pendingStep.isSome ++ u8 s.trips.unresolved ++ u8 s.trips.pendingCount ++ u8 s.tally.dueCount
    ++ u8 s.conflictCount

/-- READ_WATCH at the Watch Controller (R156). -/
def readWatchAct : Act := fun _ s => answer .ok s.watchBody s

/-- READ_WATCH, level 3 (R156). -/
def execReadWatch (h : Header) (s : State) : Host.Outcome State Fault Refusal := .next (s.request h 26 3 readWatchAct)

/-- The reply body of READ_SHIFT_TALLY CURRENT (R157). -/
def State.currentShiftBody (u : Fin 8) (s : State) : List Byte :=
  (s.tally.units[u].minus s.watch.baseline[u]).bytes ++ u32 s.watch.shift ++ u8 s.watch.crew.val ++ s.watch.shiftStart.bytes
    ++ s.sideBytes (some u)

/-- READ_SHIFT_TALLY at the Watch Controller (R157): selector CURRENT 0, PREVIOUS 1. -/
def readShiftTallyAct (position selector : Nat) : Act := fun _ s =>
  match unitPosition position, selector with
  | some u, 0 => answer .ok (s.currentShiftBody u) s
  | some u, 1 =>
    match s.watch.previous with
    | none => refuse .absent s
    | some p => answer .ok (p.deltas[u].bytes ++ p.header) s
  | _, _ => refuse .badField s

/-- READ_SHIFT_TALLY, level 3 (R157). -/
def execReadShiftTally (h : Header) (position selector : Nat) (s : State) : Host.Outcome State Fault Refusal :=
  .next (s.request h 27 3 (readShiftTallyAct position selector))

end Sys2Proof.Machine
end

