-- ==== Sys2Proof/Machine/Operands.lean ====
section
/-! DEFINITION. Reading the operands of a request from the bytes of its frame (R162, R164): the fields of each kind's body in the order its
rule names them, and the kinds with their required levels (09 section 9.4). -/

namespace Sys2Proof.Machine

/-- A reader of a run of bytes: what it read and the bytes left, or none where they run out or are malformed. -/
abbrev Reader (α : Type) := List Byte → Option (α × List Byte)

/-- A figure of `k` bytes. -/
def readNat (k : Nat) : Reader Nat := fun bs => if bs.length < k then none else some (beNat (bs.take k), bs.drop k)

/-- A signed figure of `k` bytes. -/
def readInt (k : Nat) : Reader Int := fun bs => if bs.length < k then none else some (beToInt (bs.take k), bs.drop k)

/-- One reader after another. -/
def Reader.andThen {α β : Type} (p : Reader α) (f : α → Reader β) : Reader β := fun bs => (p bs).bind fun r => f r.1 r.2

/-- What was read, made into something else. -/
def Reader.yielding {α β : Type} (p : Reader α) (f : α → β) : Reader β := fun bs => (p bs).map fun r => (f r.1, r.2)

/-- An optional field: presence byte 0 or 1 (R162). -/
def readOpt {α : Type} (p : Reader α) : Reader (Option α) :=
  (readNat 1).andThen fun b =>
    match b with
    | 0 => fun bs => some (none, bs)
    | 1 => p.yielding some
    | _ => fun _ => none

/-- A tag: a length byte and its characters (R162). -/
def readTag : Reader (List Byte) :=
  (readNat 1).andThen fun n bs => if bs.length < n then none else some (bs.take n, bs.drop n)

/-- Four 4-byte figures, one for each running mode. -/
def readPerMode : Reader PerMode :=
  (readNat 4).andThen fun g => (readNat 4).andThen fun p => (readNat 4).andThen fun c => (readNat 4).yielding fun s => ⟨g, p, c, s⟩

/-- The group of figures of OPEN_ACCOUNT and PRESET (R100, R114). -/
def readFigures : Reader Figures :=
  readPerMode.andThen fun run => readPerMode.andThen fun starts => (readNat 4).andThen fun changes =>
    (readNat 4).andThen fun trips => (readNat 4).andThen fun closings => (readNat 5).yielding fun eq =>
      ⟨run, starts, changes, trips, closings, eq⟩

/-- The optional fields of a PRESET (R114). -/
def readPresetOptions : Reader PresetOptions :=
  (readOpt readTag).andThen fun tag => (readOpt (readNat 1)).andThen fun cls => (readOpt (readNat 2)).andThen fun interval =>
    (readOpt (readNat 2)).andThen fun margin => (readOpt (readNat 5)).yielding fun due => ⟨tag, cls, interval, margin, due⟩

/-- A body read whole: nothing may be left over (R164). -/
def whole {α : Type} (p : Reader α) (body : List Byte) : Option α :=
  match p body with
  | some (a, []) => some a
  | _ => none

/-- A body with no fields. -/
def readNone (body : List Byte) : Option Unit := if body = [] then some () else none

/-- The request a body spells under a required level, or a body of the wrong length (R164). -/
def intakeOf {α : Type} (level : Nat) (fields : Option α) (act : α → Act) : Intake :=
  match fields with
  | some a => .request level (act a)
  | none => .badLength level

/-- One figure of `k` bytes, the whole body. -/
def one (k : Nat) (body : List Byte) : Option Nat := whole (readNat k) body

/-- Two figures, the whole body. -/
def two (j k : Nat) (body : List Byte) : Option (Nat × Nat) :=
  whole ((readNat j).andThen fun a => (readNat k).yielding fun b => (a, b)) body

/-- Three figures, the whole body. -/
def three (i j k : Nat) (body : List Byte) : Option (Nat × Nat × Nat) :=
  whole ((readNat i).andThen fun a => (readNat j).andThen fun b => (readNat k).yielding fun c => (a, b, c)) body

/-- A yes or no: 0 or 1. -/
def oneFlag (body : List Byte) : Option Bool :=
  match one 1 body with
  | some 0 => some false
  | some 1 => some true
  | _ => none

/-- A condition word, the whole body. -/
def oneWord (body : List Byte) : Option Word32 := (one 4 body).map (BitVec.ofNat 32)

/-- The body of OPEN_ACCOUNT (R100). -/
def readOpen (body : List Byte) : Option (List Byte × Nat × Nat × Nat × Option Figures) :=
  whole (readTag.andThen fun tag => (readNat 1).andThen fun c => (readNat 2).andThen fun i => (readNat 2).andThen fun m =>
    (readOpt readFigures).yielding fun f => (tag, c, i, m, f)) body

/-- The body of PRESET (R114). -/
def readPreset (body : List Byte) : Option (Nat × Nat × Figures × PresetOptions) :=
  whole ((readNat 1).andThen fun slot => (readNat 2).andThen fun serial => readFigures.andThen fun f =>
    readPresetOptions.yielding fun o => (slot, serial, f, o)) body

/-- The body of READ_ACCOUNT: 0 and a slot, or 1 and a tag (R162). -/
def readName (body : List Byte) : Option AccountName :=
  whole ((readNat 1).andThen fun b =>
    match b with
    | 0 => (readNat 1).yielding AccountName.slot
    | 1 => readTag.yielding AccountName.tag
    | _ => fun _ => none) body

/-- The body of SET_ROSTER_SLOT (R141). -/
def readRoster (body : List Byte) : Option (Nat × Nat × Nat × Nat × Nat) :=
  whole ((readNat 1).andThen fun slot => (readNat 2).andThen fun start => (readNat 1).andThen fun crew =>
    (readNat 1).andThen fun window => (readNat 1).yielding fun warning => (slot, start, crew, window, warning)) body

/-- The body of FIND: five one-byte fields and the option list, which FIND itself reads (R168). -/
def readFind (body : List Byte) : Option (Nat × Nat × Nat × Nat × Nat × List Byte) :=
  match body with
  | c :: a :: b :: d :: m :: rest => some (c.toNat, a.toNat, b.toNat, d.toNat, m.toNat, rest)
  | _ => none

/-- Row 32: the selector byte chooses the configuration request and its level (09 section 9.4). A body without a selector lacks a field (log 15). -/
def configIntake (body : List Byte) : Intake :=
  match body with
  | [] => .badLength 3
  | b :: rest =>
    match b.toNat with
    | 0 => intakeOf 0
        (whole ((readNat 1).andThen fun c => (readNat 1).andThen fun i => (readInt 4).yielding fun v => (c, i, v)) rest)
        fun x => configureAct x.1 x.2.1 x.2.2
    | 1 => intakeOf 3 (two 1 1 rest) fun x => readConfigAct x.1 x.2
    | 2 => intakeOf 0 (readNone rest) fun _ => checkConfigAct
    | _ => .badKind

/-- The request that a kind code and a body spell, with the kind's required level (09 section 9.4, R164). -/
def intakeFor (kind : Nat) (body : List Byte) : Intake :=
  match kind with
  | 1 => intakeOf 1 (one 1 body) selectSourceAct
  | 2 => intakeOf 1 (two 4 2 body) fun x => setTimeAct x.1 x.2
  | 3 => intakeOf 3 (readNone body) fun _ => readTimeAct
  | 4 => intakeOf 1 (two 1 2 body) fun x => testTripAct x.1 x.2
  | 5 => intakeOf 1 (one 1 body) cancelTestAct
  | 6 => intakeOf 3 (one 1 body) readLineAct
  | 7 => intakeOf 2 (two 1 2 body) fun x => acknowledgeAct x.1 x.2
  | 8 => intakeOf 2 (three 1 2 2 body) fun x => assignCauseAct x.1 x.2.1 x.2.2
  | 9 => intakeOf 2 (two 1 2 body) fun x => retireTripAct x.1 x.2
  | 10 => intakeOf 3 (one 1 body) readTripAct
  | 11 => intakeOf 3 (one 1 body) readUnitAct
  | 12 => intakeOf 1 (readOpen body) fun x => openAccountAct x.1 x.2.1 x.2.2.1 x.2.2.2.1 x.2.2.2.2
  | 13 => intakeOf 1 (three 1 2 1 body) fun x => bindAct x.1 x.2.1 x.2.2
  | 14 => intakeOf 1 (two 1 2 body) fun x => unbindAct x.1 x.2
  | 15 => intakeOf 0 (readPreset body) fun x => presetAct x.1 x.2.1 x.2.2.1 x.2.2.2
  | 16 => intakeOf 0 (two 1 2 body) fun x => retireAccountAct x.1 x.2
  | 17 => intakeOf 1 (two 1 2 body) fun x => serviceDoneAct x.1 x.2
  | 18 => intakeOf 3 (readName body) readAccountAct
  | 19 => intakeOf 2 (readNone body) fun _ => checkpointAct
  | 20 => intakeOf 3 (readNone body) fun _ => readStoreAct
  | 21 => intakeOf 1 (readRoster body) fun x => setRosterSlotAct x.1 x.2.1 x.2.2.1 x.2.2.2.1 x.2.2.2.2
  | 22 => intakeOf 1 (readNone body) fun _ => startHandoverAct
  | 23 => intakeOf 2 (readNone body) fun _ => signOnAct
  | 24 => intakeOf 2 (oneFlag body) releaseAct
  | 25 => intakeOf 1 (readNone body) fun _ => abortHandoverAct
  | 26 => intakeOf 3 (readNone body) fun _ => readWatchAct
  | 27 => intakeOf 3 (two 1 1 body) fun x => readShiftTallyAct x.1 x.2
  | 28 => intakeOf 3 (readFind body) fun x => findAct x.1 x.2.1 x.2.2.1 x.2.2.2.1 x.2.2.2.2.1 x.2.2.2.2.2
  | 29 => intakeOf 3 (readNone body) fun _ => readConditionsAct
  | 30 => intakeOf 2 (oneWord body) clearConditionsAct
  | 31 => intakeOf 2 (oneWord body) setMaskAct
  | 32 => configIntake body
  | _ => .badKind

/-- The fields of a request frame (R162). -/
structure Frame where
  requester : Fin 4
  crew : Fin 16
  tag : Byte
  kind : Nat
  body : List Byte
deriving DecidableEq, Repr

/-- Read a request frame from its bytes after the marker; none where R163 discards it. -/
def readFrame (bytes : List Byte) : Option Frame :=
  match bytes with
  | len :: who :: kind :: tag :: rest =>
    let n := len.toNat
    if 240 < n ∨ bytes.length < n + 6 ∨ 64 ≤ who.toNat then none
    else if crc16 (bytes.take (n + 4)) ≠ BitVec.ofNat 16 (beNat ((bytes.drop (n + 4)).take 2)) then none
    else some
      { requester := Fin.ofNat 4 (who.toNat / 16), crew := Fin.ofNat 16 who.toNat, tag := tag, kind := kind.toNat,
        body := rest.take n }
  | _ => none

end Sys2Proof.Machine
end

