-- ==== Sys2Proof/Machine/Transfers.lean ====
section
/-! DEFINITION. The transfers of the Station Port: SEND, COLLECT, STATUS_POLL (09 sections 9.1 and 9.3). -/

namespace Sys2Proof.Machine

/-- A SEND whose bytes after the marker are given (R163): ignored whole with no slot free, discarded with FRAME_ERROR, or taken as a request. -/
def State.takeFrame (bytes : List Byte) (s : State) : State :=
  match s.freeReply with
  | none => s
  | some _ =>
    match readFrame bytes with
    | none => s.raise .frameError
    | some f => s.takeRequest f.requester f.crew f.tag f.kind (intakeFor f.kind f.body)

/-- SEND (R161, R163): the status byte and fill bytes are shifted out. -/
def execSend (dt : Nat) (bytes : List Byte) (s : State) : Host.Outcome State Fault Refusal :=
  let s1 := s.pass dt
  .next (if s1.up then (s1.shiftOut (s1.statusByte :: List.replicate bytes.length 0#8)).takeFrame bytes
         else s1.idleTransfer (bytes.length + 1))

/-- COLLECT (R166). -/
def execCollect (dt clocked : Nat) (s : State) : Host.Outcome State Fault Refusal :=
  let s1 := s.pass dt
  .next (if s1.up then s1.collectReply clocked else s1.idleTransfer (clocked + 1))

/-- STATUS_POLL (R161): the status byte and fill bytes are shifted out, and no state of the part changes. -/
def execStatusPoll (dt : Nat) (_code : Byte) (clocked : Nat) (s : State) : Host.Outcome State Fault Refusal :=
  let s1 := s.pass dt
  .next (if s1.up then s1.shiftOut (s1.statusByte :: List.replicate clocked 0#8) else s1.idleTransfer (clocked + 1))

end Sys2Proof.Machine
end

