-- ==== Sys2Proof/Machine/Dispatch.lean ====
section
/-! DEFINITION. One arm for each command: a direct call of its meaning. -/

namespace Sys2Proof.Machine

def exec (i : Instr) (s : State) : Host.Outcome State Fault Refusal :=
  match i with
  | .selectSource h source => Sys2Proof.Machine.execSelectSource h source s
  | .setTime h seconds millis => Sys2Proof.Machine.execSetTime h seconds millis s
  | .readTime h => Sys2Proof.Machine.execReadTime h s
  | .testTrip h line duration => Sys2Proof.Machine.execTestTrip h line duration s
  | .cancelTest h line => Sys2Proof.Machine.execCancelTest h line s
  | .readLine h line => Sys2Proof.Machine.execReadLine h line s
  | .acknowledge h slot serial => Sys2Proof.Machine.execAcknowledge h slot serial s
  | .assignCause h slot serial cause => Sys2Proof.Machine.execAssignCause h slot serial cause s
  | .retireTrip h slot serial => Sys2Proof.Machine.execRetireTrip h slot serial s
  | .readTrip h slot => Sys2Proof.Machine.execReadTrip h slot s
  | .readUnit h position => Sys2Proof.Machine.execReadUnit h position s
  | .openAccount h tag cls interval margin initial => Sys2Proof.Machine.execOpenAccount h tag cls interval margin initial s
  | .bind h slot serial position => Sys2Proof.Machine.execBind h slot serial position s
  | .unbind h slot serial => Sys2Proof.Machine.execUnbind h slot serial s
  | .preset h slot serial figures options => Sys2Proof.Machine.execPreset h slot serial figures options s
  | .retireAccount h slot serial => Sys2Proof.Machine.execRetireAccount h slot serial s
  | .serviceDone h slot serial => Sys2Proof.Machine.execServiceDone h slot serial s
  | .readAccount h name => Sys2Proof.Machine.execReadAccount h name s
  | .checkpoint h => Sys2Proof.Machine.execCheckpoint h s
  | .readStore h => Sys2Proof.Machine.execReadStore h s
  | .setRosterSlot h slot start crew window warning => Sys2Proof.Machine.execSetRosterSlot h slot start crew window warning s
  | .startHandover h => Sys2Proof.Machine.execStartHandover h s
  | .signOn h => Sys2Proof.Machine.execSignOn h s
  | .release h carry => Sys2Proof.Machine.execRelease h carry s
  | .abortHandover h => Sys2Proof.Machine.execAbortHandover h s
  | .readWatch h => Sys2Proof.Machine.execReadWatch h s
  | .readShiftTally h position selector => Sys2Proof.Machine.execReadShiftTally h position selector s
  | .find h collection start stop direction max options => Sys2Proof.Machine.execFind h collection start stop direction max options s
  | .readConditions h => Sys2Proof.Machine.execReadConditions h s
  | .clearConditions h word => Sys2Proof.Machine.execClearConditions h word s
  | .setMask h word => Sys2Proof.Machine.execSetMask h word s
  | .configure h code index value => Sys2Proof.Machine.execConfigure h code index value s
  | .readConfig h code index => Sys2Proof.Machine.execReadConfig h code index s
  | .checkConfig h => Sys2Proof.Machine.execCheckConfig h s
  | .send dt bytes => Sys2Proof.Machine.execSend dt bytes s
  | .collect dt clocked => Sys2Proof.Machine.execCollect dt clocked s
  | .statusPoll dt code clocked => Sys2Proof.Machine.execStatusPoll dt code clocked s
  | .refPulse dt => Sys2Proof.Machine.execRefPulse dt s
  | .absenceLimitExpiry => Sys2Proof.Machine.execAbsenceLimitExpiry s
  | .flywheelBoundary => Sys2Proof.Machine.execFlywheelBoundary s
  | .secondBoundary => Sys2Proof.Machine.execSecondBoundary s
  | .testExpiry => Sys2Proof.Machine.execTestExpiry s
  | .periodicTrigger => Sys2Proof.Machine.execPeriodicTrigger s
  | .warningDeadlineExpiry => Sys2Proof.Machine.execWarningDeadlineExpiry s
  | .windowDeadlineExpiry => Sys2Proof.Machine.execWindowDeadlineExpiry s
  | .crystalReady dt => Sys2Proof.Machine.execCrystalReady dt s
  | .crystalStop dt => Sys2Proof.Machine.execCrystalStop dt s
  | .tripLineSample dt levels first => Sys2Proof.Machine.execTripLineSample dt levels first s
  | .modeLineSample dt lines => Sys2Proof.Machine.execModeLineSample dt lines s
  | .powerFailWarning dt => Sys2Proof.Machine.execPowerFailWarning dt s
  | .warningReleased dt => Sys2Proof.Machine.execWarningReleased dt s
  | .imageWriteEnd dt verify => Sys2Proof.Machine.execImageWriteEnd dt verify s
  | .configWriteEnd dt verify => Sys2Proof.Machine.execConfigWriteEnd dt verify s
  | .mainPowerLost dt image config => Sys2Proof.Machine.execMainPowerLost dt image config s
  | .backupBoundary => Sys2Proof.Machine.execBackupBoundary s
  | .backupSupplyLost dt => Sys2Proof.Machine.execBackupSupplyLost dt s
  | .coldStart dt => Sys2Proof.Machine.execColdStart dt s
  | .warmStart dt => Sys2Proof.Machine.execWarmStart dt s
  | .resetLineAsserted dt image config => Sys2Proof.Machine.execResetLineAsserted dt image config s
  | .resetLineReleased dt => Sys2Proof.Machine.execResetLineReleased dt s

end Sys2Proof.Machine
end

