-- ==== Sys2Proof/Safety.lean ====
section
/-! DEFINITION. The laws of the ST-48 that every step keeps, block by block: what "safe" means for this part, since no step of it stops.
Each law is a statement about one state; the certificates state that every step keeps it and that it holds at reset. -/

namespace Sys2Proof.Safety

open Sys2Proof.Machine

/-! ### Watch Controller (R142) -/

/-- No handover is in flight: its fields are absent. -/
def NoHandover (w : Watch) : Prop :=
  w.incoming = 0 ∧ w.origin = none ∧ w.window = none ∧ w.openedAt = none ∧ w.warningDeadline = none ∧ w.windowDeadline = none
    ∧ w.overdue = false

/-- A handover is in flight: what opened it, its window and its opening second are held, and a crew is incoming. -/
def HandoverInFlight (w : Watch) : Prop :=
  w.crew ≠ 0 ∧ w.incoming ≠ 0 ∧ w.origin.isSome = true ∧ w.window.isSome = true ∧ w.openedAt.isSome = true

/-- The table of R142: crew on watch, incoming crew and handover in flight in each watch state. -/
def WatchLaw (w : Watch) : Prop :=
  (w.state = .noWatch → w.crew = 0 ∧ NoHandover w)
  ∧ (w.state = .onWatch → w.crew ≠ 0 ∧ NoHandover w)
  ∧ (w.state = .opened → HandoverInFlight w ∧ w.incoming ≠ w.crew)
  ∧ (w.state = .signed → HandoverInFlight w)

/-! ### Trip Table (R56, R66) -/

/-- At most one live item, a trip record or a pending entry, exists for any one trip line (R56), and the pending list holds entries only while all 48 trip record slots are occupied (R66). -/
def TripLaw (t : TripTable) : Prop :=
  (∀ (i j : Fin 48) (r q : TripRecord), t.slots[i] = some r → t.slots[j] = some q → r.isLive = true → q.isLive = true →
      r.line = q.line → i = j)
  ∧ (∀ (i : Fin 48) (r : TripRecord) (e : PendingEntry), t.slots[i] = some r → r.isLive = true → e ∈ t.pendingList → r.line ≠ e.line)
  ∧ (t.pendingList.map PendingEntry.line).Nodup
  ∧ (t.pendingList ≠ [] → ∀ i : Fin 48, t.slots[i].isSome = true)

/-! ### Tally Engine (R99, R103) -/

/-- No two LIVE accounts hold equal tags (R99), and a unit position never has two bound accounts of one class (R103). -/
def AccountLaw (t : Tally) : Prop :=
  ∀ (i j : Fin 24) (l m : LiveFields), t.accounts[i].liveFields = some l → t.accounts[j].liveFields = some m →
    (l.tag = m.tag → i = j) ∧ (l.bound.isSome = true → l.bound = m.bound → l.cls = m.cls → i = j)

/-! ### Trip Line Scanner (03 section 3.2) -/

/-- What a line holds in each line state (03 section 3.2): run count, held stamp, and held mode, NONE for a line of station common and a unit mode for a unit's. -/
def LineLaw (cfg : LineConfig) (l : LineState) : Prop :=
  (l.phase = .released ∨ l.phase = .asserted → l.run = 0 ∧ l.held = none ∧ l.heldMode = none)
  ∧ (l.phase = .asserting → 1 ≤ l.run ∧ l.held.isSome = true ∧ ∃ m, l.heldMode = some m ∧ (m = .stationCommon ↔ cfg.unit = 0))
  ∧ (l.phase = .releasing → 1 ≤ l.run ∧ l.held.isSome = true ∧ l.heldMode = none)

/-! ### Store Controller and Station Port (R134, R162, R165) -/

/-- The store port is held by one write at a time (R134), and an image write belongs to a walk in flight (R127, R128). -/
def StoreLaw (t : Store) : Prop :=
  (t.write.isSome = true → (t.walk = .walking ∨ t.walk = .final))
  ∧ (t.write.isSome = true → ∀ (second : Bool) (image : ConfigImage), t.configWrite ≠ some (.writing second image))

/-- HELD stands only while the warning holds (R128, R133); a final walk is due only while a write holds the port, in IDLE or WALKING (R132). -/
def WalkLaw (s : State) : Prop :=
  (s.store.walk = .held → s.tally.freeze = true)
  ∧ (s.store.finalDue = true → s.store.holder ≠ .none ∧ (s.store.walk = .idle ∨ s.store.walk = .walking))

/-- The port's words keep the zero bits of R162; a reserved slot waits for the one configuration write (R165, R175); placing orders are distinct and in the past (R165). -/
def PortLaw (p : Port) (t : Store) : Prop :=
  p.latched &&& 0xFFFFF000#32 = 0#32
  ∧ p.mask &&& 0xFF00F000#32 = 0#32
  ∧ (∀ (i : Fin 2) (head : ReplyHead), p.slots[i] = .reserved head → t.configWrite.isSome = true)
  ∧ (∀ (i j : Fin 2) (a b : ReplyHead), p.slots[i] = .reserved a → p.slots[j] = .reserved b → i = j)
  ∧ (∀ (i : Fin 2) (n : Nat) (r : Reply), p.slots[i] = .waiting n r → n < p.nextOrder)
  ∧ (∀ (i j : Fin 2) (n : Nat) (r q : Reply), p.slots[i] = .waiting n r → p.slots[j] = .waiting n q → i = j)

/-! ### Time Base (01 section 1.1) -/

/-- Counts stay in the ranges of 01 section 1.1; no switch is in flight to the current source; while REF is current under main power an anchor is held (R6); the start that waits behind the reset line is a cold or a warm one (R179); the retained-valid marker is valid only while a supply is there (R179); the count is lost only under backup supply (R20). -/
def TimeLaw (s : State) : Prop :=
  s.time.elapsed ≤ Config.elapsedTop ∧ s.time.holdover ≤ Config.countTop ∧ s.time.goodRun ≤ 255 ∧ s.time.badRun ≤ 255
  ∧ s.time.boundaryTime ≤ Config.stationTopMs
  ∧ s.time.target.map Target.source ≠ some s.time.source
  ∧ (s.timeUp = true → s.time.source = .ref → s.time.anchor.isSome = true)
  ∧ s.pins.startWaiting ≠ some .resetLine
  ∧ (s.pins.retainedValid = true → s.pins.mainPower = true ∨ s.pins.backupSupply = true)
  ∧ (s.timeUp = true → s.time.backupLost = false)

/-! ### Requests (09 section 9.4) -/

/-- The header, the kind code and the required level of a request command, as the table of 09 section 9.4 gives them. -/
def requestRow : Instr → Option (Header × Nat × Nat)
  | .selectSource h _ => some (h, 1, 1)
  | .setTime h _ _ => some (h, 2, 1)
  | .readTime h => some (h, 3, 3)
  | .testTrip h _ _ => some (h, 4, 1)
  | .cancelTest h _ => some (h, 5, 1)
  | .readLine h _ => some (h, 6, 3)
  | .acknowledge h _ _ => some (h, 7, 2)
  | .assignCause h _ _ _ => some (h, 8, 2)
  | .retireTrip h _ _ => some (h, 9, 2)
  | .readTrip h _ => some (h, 10, 3)
  | .readUnit h _ => some (h, 11, 3)
  | .openAccount h _ _ _ _ _ => some (h, 12, 1)
  | .bind h _ _ _ => some (h, 13, 1)
  | .unbind h _ _ => some (h, 14, 1)
  | .preset h _ _ _ _ => some (h, 15, 0)
  | .retireAccount h _ _ => some (h, 16, 0)
  | .serviceDone h _ _ => some (h, 17, 1)
  | .readAccount h _ => some (h, 18, 3)
  | .checkpoint h => some (h, 19, 2)
  | .readStore h => some (h, 20, 3)
  | .setRosterSlot h _ _ _ _ _ => some (h, 21, 1)
  | .startHandover h => some (h, 22, 1)
  | .signOn h => some (h, 23, 2)
  | .release h _ => some (h, 24, 2)
  | .abortHandover h => some (h, 25, 1)
  | .readWatch h => some (h, 26, 3)
  | .readShiftTally h _ _ => some (h, 27, 3)
  | .find h _ _ _ _ _ _ => some (h, 28, 3)
  | .readConditions h => some (h, 29, 3)
  | .clearConditions h _ => some (h, 30, 2)
  | .setMask h _ => some (h, 31, 2)
  | .configure h _ _ _ => some (h, 32, 0)
  | .readConfig h _ _ => some (h, 32, 3)
  | .checkConfig h => some (h, 32, 0)
  | _ => none

end Sys2Proof.Safety
end

