-- ==== Sys2Proof/Certificates/Slice0/Obligations.lean ====
section
/-! DEFINITION. The statements for the provers. `Claim` holds the words the statements share. A statement whose clauses rest on a choice
of the model names its log entries; the passing of `dt` (log 1) is in all of them. -/

namespace Sys2Proof.Claim

open Sys2Proof.Machine

/-- A request is taken (R163, R164): the part is up, reply slot `i` is the first free one, and the requester's level reaches the required level. -/
def Taken (h : Header) (level : Nat) (i : Fin 2) (s : State) : Prop :=
  s.up = true ∧ s.freeReply = some i ∧ s.port.levels[h.requester].val ≤ level

/-- The reply to a request: requester, tag and kind are echoed (R165). -/
def reply (h : Header) (kind : Nat) (code : ReplyCode) (body : List Byte) : Reply := ⟨⟨h.requester, h.tag, kind⟩, code, body⟩

/-- The request command completes in state `u` with its reply placed in slot `i`. -/
abbrev Answers (c : Instr) (s : State) (h : Header) (kind : Nat) (i : Fin 2) (code : ReplyCode) (body : List Byte) (u : State) : Prop :=
  exec c s = .next (u.place i (reply h kind code body))

/-- The state with one latched event set (R170). -/
def withEvent (e : Event) (s : State) : State := { s with port := { s.port with latched := s.port.latched ||| e.bit } }

/-- Slot, serial and account that an account request names (R98). -/
def NamesAccount (slot serial : Nat) (k : Fin 24) (a : Account) (dirty : Bool) (s : State) : Prop :=
  slot = k.val ∧ serial = a.serial.toNat ∧ s.tally.accounts[k] = .held a dirty

/-- The state with one account slot put. -/
def withAccount (k : Fin 24) (a : AccountSlot) (s : State) : State :=
  { s with tally := { s.tally with accounts := s.tally.accounts.set k a } }

/-- Slot, serial and record that a trip request names (R57). -/
def NamesTrip (slot serial : Nat) (k : Fin 48) (r : TripRecord) (s : State) : Prop :=
  slot = k.val ∧ serial = r.serial.toNat ∧ s.trips.slots[k] = some r

/-- The state with one trip record put. -/
def withTrip (k : Fin 48) (r : TripRecord) (s : State) : State :=
  { s with trips := { s.trips with slots := s.trips.slots.set k (some r) } }

/-- One more, holding at a top. -/
def upTo (top n : Nat) : Nat := if n < top then n + 1 else n

/-- The qualified level, run and count of an input after a reading, as the table of R79 gives them. -/
def inputAfter (count : Nat) (on : Bool) (i : Input) : Input :=
  if i.level = (if on then Level.on else Level.off) then ⟨i.level, none, 0⟩
  else
    let n := if i.run = some on then i.count + 1 else 1
    if count ≤ n then ⟨if on then .on else .off, none, 0⟩ else ⟨i.level, some on, n⟩

/-- The unit mode of R81, from which of the four mode inputs are ON. -/
def modeOf (g p c s : Bool) : UnitMode :=
  match [g, p, c, s] with
  | [false, false, false, false] => .stopped
  | [true, false, false, false] => .generate
  | [false, true, false, false] => .pump
  | [false, false, true, false] => .condense
  | [false, false, false, true] => .spin
  | _ => .conflict

/-- A running mode. -/
def Running (m : UnitMode) : Prop := m ≠ .stopped ∧ m ≠ .conflict

/-- The account of a slot, its dirty mark apart. -/
def accountAt (s : State) (k : Fin 24) : Option Account :=
  match s.tally.accounts[k] with
  | .free _ => none
  | .held a _ => some a

/-- The dirty marks that accrual leaves (R87, R111): a mark set stands, and a change of the unit tally or the account sets its mark; an increase held at a top changes nothing and sets none. Free slots keep their retired marks. -/
def MarksChanges (x y : Tally) : Prop :=
  (∀ u : Fin 8, y.dirty[u] = (x.dirty[u] || decide (y.units[u] ≠ x.units[u])))
  ∧ ∀ k : Fin 24, match x.accounts[k], y.accounts[k] with
    | .held a d, .held b e => e = (d || decide (b ≠ a))
    | .free r, .free q => q = r
    | _, _ => False

/-- The bytes of a request frame after the start marker (R162). -/
def frameBytes (requester : Fin 4) (crew : Fin 16) (kind tag : Byte) (body : List Byte) : List Byte :=
  let inner := u8 body.length ++ u8 (16 * requester.val + crew.val) ++ [kind, tag] ++ body
  inner ++ u16 (crc16 inner).toNat

/-! ### Station time -/

/-- The slew amount the next boundary applies (R25 step 1): the slew step, or the remainder where its magnitude is smaller, with the remainder's sign; raised to lie 1 ms beyond the latest reading kept in the second (log 9). -/
def slewAmount (step : Nat) (t : TimeBase) : Int :=
  let plain : Int := if t.slewRemainder.natAbs < step then t.slewRemainder else if t.slewRemainder < 0 then -(step : Int) else step
  match t.readFloor with
  | none => plain
  | some floor => max plain (floor + 1 - 1000 - t.boundaryTime)

/-- Station time as read (R24): the boundary time and the whole milliseconds since the boundary position, held 1 ms short of the second's length and at the top of the range; never before the epoch (02 section 2.1). -/
def readingOf (step : Nat) (t : TimeBase) : Int :=
  max 0 (min 4294967295999 (t.boundaryTime + min (((t.clock - t.boundaryPos) / 1000 : Nat) : Int) (1000 + slewAmount step t - 1)))

/-- What counting a boundary at a position makes of a Time Base `a` (R2, R25), `aligned` where the boundary is counted at a good pulse: with no slew left the boundary time is then raised to the next whole second, held at the top (R26). A raised amount is subtracted from the remainder whole (log 36). -/
def Counted (step position : Nat) (aligned : Bool) (a b : TimeBase) : Prop :=
  let amount := slewAmount step a
  let rest := a.slewRemainder - amount
  let moved := min 4294967295999 (a.boundaryTime + 1000 + amount)
  b.boundaryPos = position ∧ b.elapsed = upTo Config.elapsedTop a.elapsed ∧ b.slewRemainder = rest ∧ b.readFloor = none
    ∧ (aligned = false ∨ rest ≠ 0 → b.boundaryTime = moved)
    ∧ (aligned = true → rest = 0 → moved ≤ b.boundaryTime ∧ b.boundaryTime < moved + 1000
        ∧ (b.boundaryTime % 1000 = 0 ∨ (b.boundaryTime = 4294967295999 ∧ 4294967295000 < moved)))

/-- No step waits for the next boundary: none is pending, a handover holds it back (R31), or the blocks are not there to take it (R37). -/
def NoStrandedStep (s : State) : Prop :=
  s.time.pendingStep = none ∨ s.watch.state = .opened ∨ s.watch.state = .signed ∨ s.up = false

/-- What a boundary counted while REF is current leaves of source, switch and holdover (R2 action 5, R11, R12): a switch to XTAL completes there while the crystal is RUNNING. -/
def AfterRefBoundary (a b : TimeBase) : Prop :=
  if a.target = some .xtal ∧ a.crystalRunning = true then
    b.source = .xtal ∧ b.target = none ∧ b.rcHeld = false ∧ b.holdover = 0
  else b.source = .ref ∧ b.target = a.target ∧ b.rcHeld = a.rcHeld ∧ b.holdover = a.holdover

/-- A pulse at a moment falls within the tolerance of a whole second, one or more, after the anchor (R3). -/
def GoodPulse (c : LiveConfig) (anchor now : Nat) : Prop :=
  anchor ≤ now ∧ ∃ k : Nat, 1 ≤ k ∧ anchor + 1000000 * k ≤ now + 100 * c.refTolerance
    ∧ now ≤ anchor + 1000000 * k + 100 * c.refTolerance

/-- A good pulse now is one on which REF is or becomes QUALIFIED (R4). -/
def QualifiedPulse (s : State) : Prop := s.time.refQualified = true ∨ s.config.refQualify ≤ upTo 255 s.time.goodRun

/-- A good pulse now completes a switch to REF, in flight (R11) or begun by auto-return on this pulse (R13). -/
def CompletingPulse (s : State) : Prop :=
  QualifiedPulse s ∧ (s.time.target = some .ref ∨ (s.time.refQualified = false ∧ s.config.autoReturn = true))

/-- A command that counts a boundary under main power: on XTAL or RC (R1), at the close of a window and at a good pulse while REF is current (R6), and at a completing pulse 500 ms or more after the boundary position (R11). -/
def CountsBoundary (c : Instr) (s : State) : Prop :=
  (c = .secondBoundary ∧ s.time.source ≠ .ref)
  ∨ (c = .flywheelBoundary ∧ s.time.source = .ref ∧ s.time.anchor.isSome = true)
  ∨ ∃ dt anchor : Nat, c = .refPulse dt ∧ s.time.anchor = some anchor ∧ GoodPulse s.config anchor (s.time.clock + dt)
      ∧ (s.time.source = .ref ∨ (CompletingPulse s ∧ 500000 ≤ s.time.clock + dt - s.time.boundaryPos))

/-! ### Trip lines -/

/-- What one sample qualifies on a line (R40, R41, R53): an assertion with stamp, mode and start look of its first asserted sample, a release with the stamp of its first released sample, or nothing. -/
def qualifiedBy (cfg : LineConfig) (on : Bool) (stamp : Stamp) (mode : TripMode) (l : LineState) : Option LineEvent :=
  if cfg.enabled = false then none
  else match on, l.phase with
    | true, .released => if cfg.assertCount ≤ 1 then some (.assertion stamp mode l.startLook) else none
    | true, .asserting =>
      if cfg.assertCount ≤ l.run + 1 then some (.assertion (l.held.getD stamp) (l.heldMode.getD mode) l.firstRun) else none
    | false, .asserted => if cfg.releaseCount ≤ 1 then some (.release stamp) else none
    | false, .releasing => if cfg.releaseCount ≤ l.run + 1 then some (.release (l.held.getD stamp)) else none
    | _, _ => none

/-- What a sample taken now qualifies on a line. -/
def qualified (s : State) (levels : Vector Bool 32) (i : Fin 32) : Option LineEvent :=
  qualifiedBy s.config.lines[i] levels[i] s.stamp (s.lineMode i) s.lines[i]

/-- What the Trip Table makes of what a line qualified (R41, R43): a REAL assertion, found at start only where no test injection stood (R49, R53, log 20), or a release. -/
def tableTakes (s : State) (i : Fin 32) (e : Option LineEvent) (t : TripTable) : TripTable :=
  match e with
  | none => t
  | some (.assertion stamp mode found) =>
    t.assertion s.config.lines s.time.generation ⟨i, .real, stamp, mode, found && s.lines[i].test.isNone⟩
  | some (.release stamp) => t.releaseLine i stamp

/-- The unit mode that a qualified assertion carries. -/
def carriedMode : Option LineEvent → Option TripMode
  | some (.assertion _ mode _) => some mode
  | _ => none

/-- A carried mode is a running mode (R110). -/
def CarriesRunning : TripMode → Bool
  | .unit m => m.running.isSome
  | .stationCommon => false

/-! ### Units and accounts -/

/-- The unit mode the four mode inputs give after a reading (R79, R81). -/
def modeAfter (n : Nat) (r : UnitLines) (b : UnitTrack) : UnitMode :=
  modeOf ((inputAfter n r.generate b.generate).level == .on) ((inputAfter n r.pump b.pump).level == .on)
    ((inputAfter n r.condense b.condense).level == .on) ((inputAfter n r.spin b.spin).level == .on)

/-- The running mode a unit starts in, from STOPPED (R82). -/
def startOf (before after : UnitMode) : Option RunMode := if before = .stopped then after.running else none

/-- The unit goes from one running mode to another (R82). -/
def changesMode (before after : UnitMode) : Bool := before.running.isSome && after.running.isSome && decide (before ≠ after)

/-- One figure for each running mode, that of the mode one higher where there is a mode. -/
def addOne (m : Option RunMode) (p : PerMode) : PerMode := (m.map fun x => p.add x 1).getD p

/-- A count one higher, held at its top, where something is counted (R87). -/
def countIf (b : Bool) (n : Nat) : Nat := if b then satAdd Config.countTop n 1 else n

/-- A sum over the four running modes of an item of a class times a figure. -/
def sumOver (v : Vector Nat 16) (c : AccountClass) (p : PerMode) : Nat :=
  perClassMode v c .generate * p.generate + perClassMode v c .pump * p.pump + perClassMode v c .condense * p.condense
    + perClassMode v c .spin * p.spin

/-! ### The walk -/

/-- The first marked image at or after an index (R128). -/
def FirstMarked (y : Tally) (n : Nat) (j : Fin 32) : Prop :=
  n ≤ j.val ∧ y.marked j = true ∧ ∀ k : Fin 32, n ≤ k.val → k < j → y.marked k = false

/-- No image at or after an index is marked. -/
def NoneMarked (y : Tally) (n : Nat) : Prop := ∀ k : Fin 32, n ≤ k.val → y.marked k = false

/-- A walk goes on from an index: it captures the first marked image with the port free, and waits at it otherwise (R127, R128, R134). `y` is the Tally Engine before. -/
def GoesOn (kind : WalkState) (n number : Nat) (y : Tally) (free : Bool) (t : State) : Prop :=
  ∀ j : Fin 32, FirstMarked y n j → t.store.walk = kind ∧ t.store.number = number ∧ t.store.index = j
    ∧ t.store.write = (if free then some ⟨j, false, number, y.contents j⟩ else none)
    ∧ t.tally = (if free then y.setMark false j else y)

/-- A walk has ended with nothing marked before it (R128). -/
def EndsIn (kind : WalkState) (y : Tally) (t : State) : Prop := t.store.walk = kind ∧ t.store.write = none ∧ t.tally = y

/-- A new walk with the next walk number, from image 0 (R126). -/
def NewWalk (kind ended : WalkState) (y : Tally) (free : Bool) (s t : State) : Prop :=
  t.store.number = s.store.sequence ∧ t.store.sequence = upTo Config.countTop s.store.sequence ∧ t.store.again = false
    ∧ GoesOn kind 0 s.store.sequence y free t ∧ (NoneMarked y 0 → EndsIn ended y t)

/-- What the Store Controller does when a write has ended and the port is returned: the final walk that is due begins in FINAL (R132), also where the warning has been released, and ends by it in HELD or IDLE (R128), or the walk goes on from an index and ends by the table of R128; `free` is the port as an ordinary walk finds it (R134). -/
def PortReturned (n : Nat) (y : Tally) (free : Bool) (s t : State) : Prop :=
  let rest := if s.tally.freeze then WalkState.held else .idle
  t.store.finalDue = false
  ∧ (s.store.finalDue = true → NewWalk .final rest y true s t)
  ∧ (s.store.finalDue = false → s.store.walk = .final →
      GoesOn .final n s.store.number y true t ∧ (NoneMarked y n → EndsIn rest y t))
  ∧ (s.store.finalDue = false → s.store.walk = .walking →
      GoesOn .walking n s.store.number y free t
      ∧ (NoneMarked y n → s.store.again = false → EndsIn .idle y t)
      ∧ (NoneMarked y n → s.store.again = true → NewWalk .walking .idle y free s t))


/-- A checkpoint trigger (R126): in IDLE a new walk begins, in WALKING the walk-again mark is set, and in FINAL and HELD it has no effect. -/
def Triggered (s t : State) : Prop :=
  (s.store.walk = .idle → Safety.StoreLaw s.store → NewWalk .walking .idle s.tally (decide (s.store.holder = .none)) s t)
  ∧ (s.store.walk = .walking → t.store = { s.store with again := true } ∧ t.tally = s.tally)
  ∧ (s.store.walk = .final ∨ s.store.walk = .held → t.store = s.store ∧ t.tally = s.tally)

/-! ### The end of a handover -/

/-- The Time Base after a step applied now and its minute event (R30, R34): `shown` is the local time presented. -/
def steppedTime (step : Nat) (off : Int) (shown : LocalTime) (a : TimeBase) : TimeBase :=
  { a with
    boundaryTime := max 0 (min 4294967295999 (a.reading step + off)) - min (a.msSince : Int) 999
    slewRemainder := 0, pendingStep := none, readFloor := none, generation := a.generation + 1, timeSet := true
    lastPresented := some shown }

/-- The watch after its pending slot, if it holds one, is handled (R146, R154): by the watch state it stands in, with the day on which the slot started (log 22); a slot emptied meanwhile is DROPPED. -/
def pendingHandled (cfg : LiveConfig) (elapsed : Nat) (w : Watch) : Watch :=
  match w.pendingSlot with
  | none => w
  | some k =>
    let r := cfg.roster[k]
    let outcome := fun x : SlotResult => some (⟨k, (w.lastOpened[k]).getD 0, x⟩ : SlotOutcome)
    let freed := { w with pendingSlot := none }
    if r.crew = 0 then { freed with lastOutcome := outcome .dropped }
    else match w.state with
      | .noWatch => { freed with lastOutcome := outcome .consumed }
      | .onWatch =>
        if r.crew = w.crew then { freed with lastOutcome := outcome .continued }
        else
          let deadline := min Config.elapsedTop (elapsed + 60 * r.window)
          { freed with
            state := .opened, incoming := r.crew, origin := some (.slot k), window := some r.window, openedAt := some elapsed
            windowDeadline := some deadline, warningDeadline := if r.warning = 0 then none else some (deadline - 60 * r.warning)
            overdue := false, lastOutcome := outcome .opened }
      | .opened | .signed => { w with lastOutcome := outcome .pending }

/-- HANDOVER_OPENED where handling the pending slot has opened a handover (R147). -/
def openingEvent (before after : Watch) : Word32 :=
  if before.state = .onWatch ∧ after.state = .opened then Event.handoverOpened.bit else 0#32

/-- The end of a handover whose shift context has been left as `closed` (R154): a held step is applied with STEP_APPLIED, its minute event is taken by the watch (R30, R33), and then the pending slot is handled in the watch state that leaves. -/
def HandoverEnds (closed : Watch) (z t : State) : Prop :=
  let begun : State := match z.time.pendingStep with
    | none => { z with watch := closed }
    | some off => (withEvent .stepApplied
        { z with watch := closed, time := steppedTime z.config.slewStep off t.localTime z.time }).takeMinute t.localTime
  t.time = begun.time ∧ t.watch = pendingHandled z.config z.time.elapsed begun.watch
    ∧ t.port.latched = begun.port.latched ||| openingEvent begun.watch t.watch

/-! ### Layouts of replies (R162) -/

/-- Figures go most significant byte first, yes and no as 1 and 0, and an optional field behind a presence byte (R162). -/
def FigureLayouts : Prop :=
  (∀ n : Nat, u8 n = [BitVec.ofNat 8 n] ∧ u16 n = [BitVec.ofNat 8 (n / 256), BitVec.ofNat 8 n]
    ∧ u32 n = u16 (n / 65536) ++ u16 n ∧ u40 n = u8 (n / 4294967296) ++ u32 n)
  ∧ (∀ (z : Int) (k : Nat), beInt k z = beBytes k (z % (256 ^ k : Int)).toNat ∧ (beInt k z).length = k)
  ∧ flag true = [1#8] ∧ flag false = [0#8]
  ∧ (∀ f : Nat → List Byte, opt f none = [0#8] ∧ ∀ n, opt f (some n) = 1#8 :: f n)

/-- Names go as their position in the list the spec gives for them (R162). -/
def NameCodes : Prop :=
  [Source.ref, .xtal, .rc].map Source.code = [0, 1, 2] ∧ [Target.ref, .xtal].map Target.code = [0, 1]
  ∧ [Grade.locked, .holdover, .free, .unset].map Grade.code = [0, 1, 2, 3]
  ∧ [UnitMode.stopped, .generate, .pump, .condense, .spin, .conflict].map UnitMode.code = [0, 1, 2, 3, 4, 5]
  ∧ (∀ m : UnitMode, (TripMode.unit m).code = m.code) ∧ TripMode.stationCommon.code = 6
  ∧ [AccountClass.generator, .turbine, .transformer, .breaker].map AccountClass.code = [0, 1, 2, 3]
  ∧ [Service.normal, .warn, .due].map Service.code = [0, 1, 2] ∧ [Level.off, .on, .unknown].map Level.code = [0, 1, 2]
  ∧ [TripKind.real, .test].map TripKind.code = [0, 1]
  ∧ [LinePhase.released, .asserting, .asserted, .releasing].map LinePhase.code = [0, 1, 2, 3]
  ∧ [RecordState.active, .acked, .cleared, .resolved].map RecordState.code = [0, 1, 2, 3]
  ∧ [WalkState.idle, .walking, .final, .held].map WalkState.code = [0, 1, 2, 3]
  ∧ [PortHolder.none, .walk, .config].map PortHolder.code = [0, 1, 2]
  ∧ [WatchState.noWatch, .onWatch, .opened, .signed].map WatchState.code = [0, 1, 2, 3]
  ∧ (∀ i : Fin 6, (Origin.slot i).code = i.val) ∧ Origin.unscheduled.code = 6
  ∧ [SlotResult.consumed, .continued, .opened, .pending, .dropped].map SlotResult.code = [0, 1, 2, 3, 4]
  ∧ [StartKind.cold, .warm, .resetLine].map StartKind.code = [0, 1, 2]
  ∧ [ReplyCode.ok, .redundant, .deferred, .accepted, .privilege, .noAuthority, .wrongCrew, .stale, .notFound, .absent, .badKind, .badField,
      .state, .busy, .full, .present, .classTaken, .unitRunning, .unresolved, .incomingAbsent, .storeError].map ReplyCode.code = List.range 21

/-- Records go with their fields in the order of the tables that define them (R162): stamps, unit tallies (05 section 5.3), side-table entries (R90), inputs (05 section 5.1), trip records (04 section 4.1), pending entries (R59, 04 section 4.4), accounts (06 section 6.1), the shift context (08 section 8.2) and the previous-shift header (R157). Which fields of a LOST account stand behind a presence byte is of log 14. -/
def RecordLayouts : Prop :=
  (∀ t : Stamp, t.bytes = u8 t.generation.toNat ++ u32 t.seconds ++ u16 t.millis ++ u8 t.grade.code)
  ∧ (∀ c : UnitCounts, c.bytes =
      u32 c.run.generate ++ u32 c.run.pump ++ u32 c.run.condense ++ u32 c.run.spin ++ u32 c.starts.generate ++ u32 c.starts.pump
        ++ u32 c.starts.condense ++ u32 c.starts.spin ++ u32 c.changes ++ u32 c.trips ++ u32 c.conflict ++ u32 c.unobserved
        ++ u32 c.closings)
  ∧ (∀ e : SideEntry, e.bytes =
      u32 e.run.generate ++ u32 e.run.pump ++ u32 e.run.condense ++ u32 e.run.spin ++ u32 e.conflict ++ u32 e.starts.generate
        ++ u32 e.starts.pump ++ u32 e.starts.condense ++ u32 e.starts.spin ++ u32 e.changes ++ u32 e.closings)
  ∧ (∀ i : Input, i.bytes = u8 i.level.code ++ opt flag i.run ++ u8 i.count)
  ∧ (∀ (k : Nat) (r : TripRecord), r.bytes k =
      u8 k ++ u16 r.serial.toNat ++ u8 r.line.val ++ u8 r.unit.val ++ u8 r.group.val ++ u8 r.kind.code
        ++ u8 ((if r.ack.isSome then 1 else 0) + if r.release.isSome then 2 else 0) ++ r.first.bytes ++ r.last.bytes ++ u8 r.recurrences
        ++ u8 r.mode.code ++ opt u16 r.cause ++ opt (fun a : Ack => u8 a.crew.val ++ a.stamp.bytes) r.ack ++ opt Stamp.bytes r.release
        ++ u8 r.carried ++ flag r.foundAtStart)
  ∧ (∀ e : PendingEntry, e.bytes =
      u8 e.line.val ++ u8 e.kind.code ++ e.first.bytes ++ e.last.bytes ++ u8 e.recurrences ++ u8 e.mode.code ++ flag e.release.isSome
        ++ opt Stamp.bytes e.release ++ u8 e.carried ++ flag e.foundAtStart)
  ∧ (∀ (k : Nat) (a : Account) (d : Bool), a.bytes k d =
      u8 k ++ u16 a.serial.toNat ++ u8 (if a.live.isSome then 0 else 1)
        ++ opt (fun l : LiveFields => u8 l.tag.length ++ l.tag) a.live ++ opt (fun l : LiveFields => u8 l.cls.code) a.live
        ++ opt (fun u : Fin 8 => u8 (u.val + 1)) (a.live.bind (·.bound))
        ++ u32 a.figures.run.generate ++ u32 a.figures.run.pump ++ u32 a.figures.run.condense ++ u32 a.figures.run.spin
        ++ u32 a.figures.starts.generate ++ u32 a.figures.starts.pump ++ u32 a.figures.starts.condense ++ u32 a.figures.starts.spin
        ++ u32 a.figures.changes ++ u32 a.figures.trips ++ u32 a.figures.closings ++ u40 a.figures.equivalent ++ u8 a.fraction
        ++ opt (fun l : LiveFields => u16 l.interval) a.live ++ opt (fun l : LiveFields => u16 l.margin) a.live
        ++ opt (fun l : LiveFields => u40 l.nextDue) a.live ++ opt (fun l : LiveFields => u8 l.service.code) a.live ++ flag d)
  ∧ (∀ w : Watch, w.bytes =
      u8 w.state.code ++ u8 w.crew.val ++ u8 w.incoming.val ++ opt (fun o : Origin => u8 o.code) w.origin ++ opt u8 w.window
        ++ opt u40 w.openedAt ++ opt u40 w.warningDeadline ++ opt u40 w.windowDeadline ++ flag w.overdue
        ++ opt (fun i : Fin 6 => u8 i.val) w.pendingSlot ++ u8 w.missed
        ++ opt (fun o : SlotOutcome => u8 o.slot.val ++ beInt 4 o.day ++ u8 o.result.code) w.lastOutcome ++ u32 w.shift ++ w.shiftStart.bytes)
  ∧ (∀ p : PreviousShift, p.header = u32 p.number ++ u8 p.crew.val ++ p.start.bytes ++ p.stop.bytes)

/-- The entry of the freeze side table that a reply shows while POWER_FREEZE holds (R93, R122, R157). -/
def sideShown (u : Option (Fin 8)) (s : State) : List Byte :=
  opt SideEntry.bytes (if s.tally.freeze then u.map fun v => s.tally.side[v] else none)

/-- The fields of READ_TIME (R18, R35), in the order of log 14. -/
def timeFields (s : State) : List Byte :=
  let t := s.time
  let local' := fun x : LocalTime => u16 x.minute ++ beInt 4 x.day
  s.stamp.bytes ++ u40 t.elapsed ++ u8 t.source.code ++ opt (fun x : Target => u8 x.code) t.target ++ flag t.target.isSome
    ++ flag t.rcHeld ++ flag t.refQualified ++ u8 t.goodRun ++ u8 t.badRun ++ flag t.crystalRunning ++ u32 t.holdover
    ++ flag t.backupLost ++ beInt 4 t.slewRemainder ++ opt (beInt 6) t.pendingStep ++ beInt 2 s.config.localOffset
    ++ local' s.localTime ++ opt local' t.lastPresented

/-- The fields of READ_LINE (R51). -/
def lineFields (i : Fin 32) (s : State) : List Byte :=
  let c := s.config.lines[i]
  let l := s.lines[i]
  flag c.enabled ++ u8 c.unit.val ++ u8 c.group.val ++ u8 c.assertCount ++ u8 c.releaseCount ++ u8 l.phase.code ++ u8 l.run
    ++ opt Stamp.bytes l.held ++ opt (fun m : TripMode => u8 m.code) l.heldMode ++ flag l.startLook
    ++ opt (fun j : TestInjection => j.stamp.bytes ++ u40 j.endSecond ++ u16 (j.endSecond - s.time.elapsed)) l.test
    ++ opt (fun k : TripKind => u8 k.code) (s.trips.liveKind i)

/-- The fields of READ_TRIP (R74): the record, whether it is live, and the table's figures. -/
def tripFields (k : Fin 48) (r : TripRecord) (s : State) : List Byte :=
  let unresolved := fun q : TripRecord => q.state == .active || q.state == .cleared
  r.bytes k.val ++ flag (!(r.release.isSome && r.ack.isSome)) ++ u8 (s.trips.slots.toList.countP (·.isSome))
    ++ u8 s.trips.pendingList.length ++ u8 (s.trips.slots.toList.countP (·.any unresolved) + s.trips.pendingList.length)
    ++ u16 s.trips.serial.toNat

/-- The fields of READ_UNIT (R93). -/
def unitFields (u : Fin 8) (s : State) : List Byte :=
  let t := s.units[u]
  let slotOf := fun c : AccountClass => opt (fun k : Fin 24 => u8 k.val) ((List.finRange 24).find? fun k =>
    ((accountAt s k).bind (·.live)).any fun l => l.bound == some u && l.cls == c)
  s.tally.units[u].bytes ++ flag s.tally.dirty[u] ++ u8 t.mode.code ++ flag t.breakerClosed ++ flag t.settled
    ++ t.generate.bytes ++ t.pump.bytes ++ t.condense.bytes ++ t.spin.bytes ++ t.breaker.bytes
    ++ sideShown (some u) s ++ slotOf .generator ++ slotOf .turbine ++ slotOf .transformer ++ slotOf .breaker
    ++ flag s.store.failed[unitImage u]

/-- The fields of READ_ACCOUNT (R122). -/
def accountFields (k : Fin 24) (a : Account) (d : Bool) (s : State) : List Byte :=
  a.bytes k.val d ++ u32 (a.figures.equivalent / 3600) ++ opt (fun l : LiveFields => u40 (l.nextDue - 3600 * l.margin)) a.live
    ++ opt (fun l : LiveFields => u40 (l.nextDue - a.figures.equivalent)) a.live ++ flag s.store.failed[accountImage k]
    ++ sideShown (a.live.bind (·.bound)) s

/-- The fields of READ_STORE (R140), image states and numbers image by image (log 14). -/
def storeFields (s : State) : List Byte :=
  let t := s.store
  let walks := t.walk == .walking || t.walk == .final
  u8 t.walk.code ++ opt (fun x : Nat × Fin 32 => u32 x.1 ++ u8 x.2.val) (if walks then some (t.number, t.index) else none)
    ++ flag t.again ++ u32 t.sequence ++ u16 t.periodic
    ++ opt (fun w : ImageWrite => u8 w.image.val ++ u8 (if w.second then 2 else 1)) t.write
    ++ u8 t.holder.code ++ flag (t.configWrite == some .waiting)
    ++ (List.finRange 32).flatMap (fun i => flag t.failed[i] ++ opt u32 t.numbers[i])
    ++ u32 ((List.finRange 32).foldl (fun n i => if s.tally.marked i then n + 2 ^ i.val else n) 0)

/-- The fields of READ_WATCH (R156). -/
def watchFields (s : State) : List Byte :=
  let w := s.watch
  let remaining := opt fun d : Nat => u16 (d - s.time.elapsed)
  let slot := fun i : Fin 6 =>
    let r := s.config.roster[i]
    u16 r.start ++ u8 r.crew.val ++ u8 r.window ++ u8 r.warning ++ opt (beInt 4) w.lastOpened[i]
  let unresolved := fun q : TripRecord => q.state == .active || q.state == .cleared
  let due := fun a : AccountSlot => (a.account.bind (·.live)).any fun l => l.service == .due
  w.bytes ++ u40 s.time.elapsed ++ remaining w.warningDeadline ++ remaining w.windowDeadline ++ (List.finRange 6).flatMap slot
    ++ flag s.time.pendingStep.isSome
    ++ u8 (s.trips.slots.toList.countP (·.any unresolved) + s.trips.pendingList.length) ++ u8 s.trips.pendingList.length
    ++ u8 (s.tally.accounts.toList.countP due) ++ u8 (s.units.toList.countP fun u => u.settled && u.mode == .conflict)

/-- The fields of READ_SHIFT_TALLY CURRENT (R157). -/
def currentFields (u : Fin 8) (s : State) : List Byte :=
  let c := s.tally.units[u]
  let b := s.watch.baseline[u]
  let less := fun p q : PerMode =>
    u32 (p.generate - q.generate) ++ u32 (p.pump - q.pump) ++ u32 (p.condense - q.condense) ++ u32 (p.spin - q.spin)
  less c.run b.run ++ less c.starts b.starts ++ u32 (c.changes - b.changes) ++ u32 (c.trips - b.trips) ++ u32 (c.conflict - b.conflict)
    ++ u32 (c.unobserved - b.unobserved) ++ u32 (c.closings - b.closings) ++ u32 s.watch.shift ++ u8 s.watch.crew.val
    ++ s.watch.shiftStart.bytes ++ sideShown (some u) s

/-! ### Request bodies -/

/-- A part of a request body: a figure of some bytes, a tag, or either behind a presence byte (R162). -/
inductive Part where
  | figure (bytes : Nat)
  | tag
  | optional (bytes : Nat)
  | optionalTag

/-- A body is spelled by its parts, with no byte left over. -/
def spells : List Part → List Byte → Bool
  | [], body => body.isEmpty
  | .figure k :: ps, body => decide (k ≤ body.length) && spells ps (body.drop k)
  | .tag :: ps, n :: body => decide (n.toNat ≤ body.length) && spells ps (body.drop n.toNat)
  | .optional k :: ps, b :: body =>
    (decide (b = 0) && spells ps body) || (decide (b = 1) && decide (k ≤ body.length) && spells ps (body.drop k))
  | .optionalTag :: ps, b :: body =>
    (decide (b = 0) && spells ps body)
      || (decide (b = 1) && match body with
        | [] => false
        | n :: rest => decide (n.toNat ≤ rest.length) && spells ps (rest.drop n.toNat))
  | _ :: _, [] => false

/-- The required level of each kind, and of each selector of row 32 (09 section 9.4); a body of row 32 with no selector is judged at level 3 (log 15). None: BAD_KIND. -/
def requiredLevel (kind : Nat) (body : List Byte) : Option Nat :=
  if kind = 32 then
    match body with
    | [] => some 3
    | b :: _ => if b = 1 then some 3 else if b = 0 ∨ b = 2 then some 0 else none
  else if kind ∈ [15, 16] then some 0
  else if kind ∈ [1, 2, 4, 5, 12, 13, 14, 17, 21, 22, 25] then some 1
  else if kind ∈ [7, 8, 9, 19, 23, 24, 30, 31] then some 2
  else if kind ∈ [3, 6, 10, 11, 18, 20, 26, 27, 28, 29] then some 3
  else none

/-- A body carries the fields of its kind and nothing more (R162, R164); a yes or no other than 0 and 1 does not (log 15). -/
def bodyFitsKind (kind : Nat) (body : List Byte) : Bool :=
  match kind with
  | 1 | 5 | 6 | 10 | 11 => decide (body.length = 1)
  | 2 | 21 => decide (body.length = 6)
  | 3 | 19 | 20 | 22 | 23 | 25 | 26 | 29 => decide (body.length = 0)
  | 4 | 7 | 9 | 14 | 16 | 17 => decide (body.length = 3)
  | 8 => decide (body.length = 5)
  | 13 | 30 | 31 => decide (body.length = 4)
  | 27 => decide (body.length = 2)
  | 12 => spells [.tag, .figure 5, .optional 49] body
  | 15 => spells [.figure 3, .figure 49, .optionalTag, .optional 1, .optional 2, .optional 2, .optional 5] body
  | 18 => match body with
    | [] => false
    | b :: name => (decide (b = 0) && decide (name.length = 1)) || (decide (b = 1) && spells [.tag] name)
  | 24 => decide (body = [0#8] ∨ body = [1#8])
  | 28 => decide (5 ≤ body.length)
  | 32 => match body with
    | [] => false
    | b :: fields => decide (fields.length = if b = 0 then 6 else if b = 1 then 2 else 0)
  | _ => false

/-! ### Configuration items (10 section 10.1) -/

/-- The items of codes 1 to 22 in order: lowest and highest value, and the factory default at each index (10 section 10.1, 06 section 6.4). -/
def itemTable : List (Int × Int × List Int) :=
  [(0, 3, [0, 1, 2, 3]), (0, 1, List.replicate 32 0), (0, 8, List.replicate 32 0), (0, 63, List.replicate 32 0),
   (1, 8, List.replicate 32 3), (1, 8, List.replicate 32 5), (1, 8, [4]),
   (0, 1023, [256, 280, 128, 160, 256, 320, 64, 192, 256, 256, 256, 64, 0, 0, 0, 0]),
   (0, 65535, [600, 900, 300, 300, 900, 1800, 300, 600, 0, 0, 0, 0, 0, 0, 0, 0]), (0, 65535, [300, 600, 0, 0]),
   (0, 65535, [1800, 3600, 600, 7200]), (0, 65535, [0, 0, 0, 3600]),
   (2, 16, [4]), (1, 8, [3]), (1, 20, [5]), (0, 1, [1]), (0, 1, [0]), (1, 86400, [3600]), (0, 60000, [2000]), (1, 10, [2]),
   (-720, 840, [0]), (5, 240, [30])]

/-- The field of the configuration that each item is (10 section 10.1); off, no and REF are 0, on, yes and XTAL 1 (R162). -/
def ItemFields (c : LiveConfig) : Prop :=
  (∀ q : Fin 4, itemGet c 1 q.val = c.levels[q].val)
  ∧ (∀ l : Fin 32, itemGet c 2 l.val = (if c.lines[l].enabled then 1 else 0) ∧ itemGet c 3 l.val = c.lines[l].unit.val
      ∧ itemGet c 4 l.val = c.lines[l].group.val ∧ itemGet c 5 l.val = c.lines[l].assertCount
      ∧ itemGet c 6 l.val = c.lines[l].releaseCount)
  ∧ (∀ k : Fin 16, itemGet c 8 k.val = c.runWeight[k] ∧ itemGet c 9 k.val = c.startEquivalent[k])
  ∧ (∀ k : Fin 4, itemGet c 10 k.val = c.changeEquivalent[k] ∧ itemGet c 11 k.val = c.tripEquivalent[k]
      ∧ itemGet c 12 k.val = c.closeEquivalent[k])
  ∧ itemGet c 7 0 = c.modeCount ∧ itemGet c 13 0 = c.refQualify ∧ itemGet c 14 0 = c.refBadLimit ∧ itemGet c 15 0 = c.refTolerance
  ∧ itemGet c 16 0 = (if c.autoReturn then 1 else 0) ∧ itemGet c 17 0 = c.startSource.code ∧ itemGet c 18 0 = c.holdoverLimit
  ∧ itemGet c 19 0 = c.slewThreshold ∧ itemGet c 20 0 = c.slewStep ∧ itemGet c 21 0 = c.localOffset ∧ itemGet c 22 0 = c.defaultWindow

/-- The items of 10 section 10.1: codes, indices, ranges, defaults and fields; a slew step is 1, 2, 5 or 10; and an item put at a value of its range reads so, while every other item and the roster stand. -/
def ItemLaws : Prop :=
  (∀ code : Nat, code = 0 ∨ 22 < code → itemIndices code = 0)
  ∧ (∀ (n : Nat) (lo hi : Int) (defaults : List Int), itemTable[n]? = some (lo, hi, defaults) →
      itemIndices (n + 1) = defaults.length ∧ (∀ (k : Nat) (v : Int), defaults[k]? = some v → itemGet .factory (n + 1) k = v)
      ∧ ∀ v : Int, itemInRange (n + 1) v = true ↔ lo ≤ v ∧ v ≤ hi ∧ (n + 1 = 20 → v ∈ [1, 2, 5, 10]))
  ∧ LiveConfig.factory.roster = Vector.replicate 6 ⟨0, 0, 30, 15⟩
  ∧ (∀ c : LiveConfig, ItemFields c)
  ∧ ∀ (c : LiveConfig) (code index : Nat) (v : Int), index < itemIndices code → itemInRange code v = true →
      itemGet (itemSet c code index v) code index = v ∧ (itemSet c code index v).roster = c.roster
      ∧ ∀ other k : Nat, k < itemIndices other → other ≠ code ∨ k ≠ index →
          itemGet (itemSet c code index v) other k = itemGet c other k

/-! ### FIND (R168) -/

/-- A filter code applies to a collection and its value is in the filter's range, by the table of R168. -/
def filterGood (c : Collection) (code value : Nat) : Prop :=
  match c with
  | .trips => (code = 1 ∧ value ≤ 8) ∨ ((code = 2 ∨ code = 3) ∧ value ≤ 3) ∨ (code = 4 ∧ value ≤ 1) ∨ (code = 8 ∧ value ≤ 15)
  | .pending => (code = 1 ∧ value ≤ 8) ∨ (code = 4 ∧ value ≤ 1) ∨ (code = 8 ∧ value ≤ 15)
  | .accounts => (code = 1 ∧ 1 ≤ value ∧ value ≤ 8) ∨ ((code = 2 ∨ code = 3 ∨ code = 6) ∧ value ≤ 1) ∨ (code = 5 ∧ value ≤ 3)
      ∨ (code = 7 ∧ value ≤ 2)

/-- The bytes of a run of filter items and the end item. -/
def optionBytes (items : List (Nat × Nat)) : List Byte :=
  (items.flatMap fun p => [BitVec.ofNat 8 p.1, BitVec.ofNat 8 p.2]) ++ [0#8]

/-- A trip record passes the filters of R168. -/
def tripPasses (r : TripRecord) (items : List (Nat × Nat)) : Prop :=
  ∀ p ∈ items, (p.1 = 1 → r.unit.val = p.2) ∧ (p.1 = 2 → r.state.code = p.2) ∧ (p.1 = 3 → r.state.code ≠ p.2)
    ∧ (p.1 = 4 → r.kind.code = p.2) ∧ (p.1 = 8 → p.2 ≤ r.carried)

/-- A pending entry passes the filters of R168; its unit is the configured unit of its line. -/
def entryPasses (lines : Vector LineConfig 32) (e : PendingEntry) (items : List (Nat × Nat)) : Prop :=
  ∀ p ∈ items, (p.1 = 1 → lines[e.line].unit.val = p.2) ∧ (p.1 = 4 → e.kind.code = p.2) ∧ (p.1 = 8 → p.2 ≤ e.carried)

/-- An account passes the filters of R168: LIVE is 0 and LOST 1, unbound 0 and bound 1. -/
def accountPasses (a : Account) (items : List (Nat × Nat)) : Prop :=
  ∀ p ∈ items, (p.1 = 1 → ∃ l u, a.live = some l ∧ l.bound = some u ∧ u.val + 1 = p.2)
    ∧ (p.1 = 2 → (a.live.isSome = true ↔ p.2 = 0)) ∧ (p.1 = 3 → (a.live.isSome = true ↔ p.2 = 1))
    ∧ (p.1 = 5 → ∃ l, a.live = some l ∧ l.cls.code = p.2)
    ∧ (p.1 = 6 → ((∃ l, a.live = some l ∧ l.bound.isSome = true) ↔ p.2 = 1))
    ∧ (p.1 = 7 → ∃ l, a.live = some l ∧ l.service.code = p.2)

/-! ### The restore at a cold start (R120, R137) -/

/-- The account restored from a slot's good image. -/
def restoredAt (st : Store) (k : Fin 24) : Option Account :=
  match st.foundGood (accountImage k), st.images[accountImage k].content with
  | true, .account a => some a
  | _, _ => none

/-- The live fields of the account restored to a slot. -/
def restoredLive (st : Store) (k : Fin 24) : Option LiveFields := (restoredAt st k).bind (·.live)

/-- The image of slot j is of a later walk than that of slot k, or of the same walk and in the lower slot (R120 steps 3 and 4). -/
def outlasts (st : Store) (j k : Fin 24) : Bool :=
  let number := fun i : Fin 24 => st.images[accountImage i].number
  decide (number k < number j) || (decide (number k = number j) && decide (j < k))

/-- The image of a slot is bad (R120 step 2). -/
def badSlot (st : Store) (k : Fin 24) : Bool := !st.foundGood (accountImage k)

/-- The account restored to a slot is LIVE, and one that outlasts it holds the same tag (R120 step 3). -/
def twinSlot (st : Store) (k : Fin 24) : Bool :=
  (List.finRange 24).any fun j => outlasts st j k && (restoredLive st k).any fun l => (restoredLive st j).any fun m => m.tag == l.tag

/-- The account restored to a slot is bound where one that outlasts it, itself kept, is bound with the same class (R120 step 4). -/
def doublyBound (st : Store) (k : Fin 24) : Bool :=
  (List.finRange 24).any fun j => outlasts st j k && !twinSlot st j && (restoredLive st k).any fun l =>
    l.bound.isSome && (restoredLive st j).any fun m => m.bound == l.bound && m.cls == l.cls

/-- One more than the greatest serial restored, or 0 (R120 step 1). -/
def firstSerial (st : Store) : Word16 :=
  match ((List.finRange 24).filterMap fun k => (restoredAt st k).map (·.serial.toNat)).max? with
  | none => 0
  | some n => BitVec.ofNat 16 (n + 1)

/-- How many slots below a bound are of a kind. -/
def countBelow (n : Nat) (p : Fin 24 → Bool) : Nat := (List.finRange 24).countP fun j => decide (j.val < n) && p j

/-- An account slot after the restore and before the first walk (R119, R120): bad slots take serials first, then the twins, each in slot order (log 32). -/
def settledSlot (st : Store) (k : Fin 24) : AccountSlot :=
  let lost := fun n : Nat => AccountSlot.held ⟨firstSerial st + BitVec.ofNat 16 n, ⟨.zero, .zero, 0, 0, 0, 0⟩, 0, none⟩ true
  if badSlot st k then lost (countBelow k.val (badSlot st))
  else if twinSlot st k then lost (countBelow 24 (badSlot st) + countBelow k.val (twinSlot st))
  else match restoredAt st k with
    | none => .free false
    | some a =>
      if doublyBound st k then .held { a with live := a.live.map fun l => { l with bound := none } } true else .held a false

/-- The mark of a unit tally after the restore: clear where its image was a good RECORD (R137). -/
def settledDirty (st : Store) (u : Fin 8) : Bool :=
  match st.foundGood (unitImage u), st.images[unitImage u].content with
  | true, .unit _ => false
  | _, _ => true

/-- The walk sequence counter after a cold start (R137): one more than the greatest number of a good image, held at the top; with no good image 1 (log 25). -/
def restoredSequence (st : Store) : Nat :=
  upTo Config.countTop
    ((((List.finRange 32).filterMap fun i => if st.foundGood i then some st.images[i].number else none).max?).getD 0)

/-! ### Starts that take retained state up -/

/-- An account bound to a unit, credited with the unit's entry of the freeze side table; its service state is evaluated once (R117). -/
def creditedAccount (cfg : LiveConfig) (e : SideEntry) (l : LiveFields) (a : Account) : Account :=
  let f := a.figures
  let closings := if l.cls = .breaker then e.closings else 0
  let parts := a.fraction + sumOver cfg.runWeight l.cls e.run
  let equivalent := satAdd Config.elapsedTop f.equivalent (parts / 256 + sumOver cfg.startEquivalent l.cls e.starts
    + perClass cfg.changeEquivalent l.cls * e.changes + perClass cfg.closeEquivalent l.cls * closings)
  { a with
    figures := { f with
      run := f.run.addAll e.run, starts := f.starts.addAll e.starts, changes := satAdd Config.countTop f.changes e.changes
      closings := satAdd Config.countTop f.closings closings, equivalent := equivalent }
    fraction := parts % 256
    live := some { l with service := serviceOf equivalent l } }

/-- An account slot after the crediting, with the conditions its service state raises (R112, R117): a bound account is credited and marked (log 21), and any other slot stands. -/
def creditedSlot (cfg : LiveConfig) (side : Vector SideEntry 8) (a : AccountSlot) : AccountSlot × Word32 :=
  match a with
  | .free r => (.free r, 0#32)
  | .held b d =>
    match b.live with
    | none => (.held b d, 0#32)
    | some l =>
      match l.bound with
      | none => (.held b d, 0#32)
      | some u =>
        let after := creditedAccount cfg side[u] l b
        (.held after true, serviceEvents l.service (serviceOf after.figures.equivalent l))

/-- The deadlines that an elapsed counter has reached are taken as expiries (R155, R160). -/
def expiredWatch (elapsed : Nat) (w : Watch) : Watch :=
  let standing := fun d : Option Nat => d.filter fun x => decide (elapsed < x)
  { w with
    warningDeadline := standing w.warningDeadline, windowDeadline := standing w.windowDeadline
    overdue := w.overdue || w.windowDeadline.any fun x => decide (x ≤ elapsed) }

/-- A line taken up at a start: a run under way is dropped, and the line is looked at anew (R54). Its test injection has ended (R55). -/
def takenUpLine (enabled : Bool) (l : LineState) : LineState :=
  { l with
    phase := match l.phase with
      | .released | .asserting => .released
      | .asserted | .releasing => .asserted
    run := 0, held := none, heldMode := none, firstRun := false, test := none, startLook := enabled || l.startLook }

/-- What a warm start, or the start at the release of the reset line, makes of the retained state beside pins, configuration and Time Base (R54, R55, R77, R91, R96, R117, R118, R121, R138, R160, R174, R181): an image is bad by its check code, or where its contents do not fit its position (log 24); `gap` is the outage gap, `credits` says that the side table is credited, and `k` is the start kind. -/
def TakenUp (gap : Nat) (credits : Bool) (k : StartKind) (s t : State) : Prop :=
  let unknown : Input := ⟨.unknown, none, 0⟩
  let bad := fun i : Fin 32 => !s.store.foundGood i
  let side := fun u : Fin 8 => if credits then s.tally.side[u] else .zero
  let units : Vector UnitCounts 8 := Vector.ofFn fun u : Fin 8 =>
    let c := s.tally.units[u]
    let e := side u
    { c with
      unobserved := if s.units[u].mode = .stopped then c.unobserved else satAdd Config.countTop c.unobserved gap
      run := c.run.addAll e.run, starts := c.starts.addAll e.starts, changes := satAdd Config.countTop c.changes e.changes
      conflict := satAdd Config.countTop c.conflict e.conflict, closings := satAdd Config.countTop c.closings e.closings }
  let credited := fun i : Fin 24 =>
    if credits then creditedSlot s.config s.tally.side s.tally.accounts[i] else (s.tally.accounts[i], 0#32)
  let y : Tally :=
    { units := units
      dirty := Vector.ofFn fun u : Fin 8 => s.tally.dirty[u] || decide (units[u] ≠ s.tally.units[u]) || bad (unitImage u)
      accounts := Vector.ofFn fun i : Fin 24 => match (credited i).1 with
        | .free r => .free (r || bad (accountImage i))
        | .held a d => .held a (d || bad (accountImage i))
      serial := s.tally.serial
      side := if credits then Vector.replicate 8 ⟨.zero, 0, .zero, 0, 0⟩ else s.tally.side
      freeze := s.pins.warningLine }
  let number := restoredSequence s.store
  let expired := expiredWatch t.time.elapsed s.watch
  let stranded := (s.watch.state == .noWatch || s.watch.state == .onWatch) && t.time.pendingStep.isNone
  (∀ line : Fin 32, t.lines[line] = takenUpLine s.config.lines[line].enabled s.lines[line])
  ∧ t.trips = (List.finRange 32).foldl (fun a i => if s.lines[i].test.isSome then a.releaseLine i t.stamp else a) s.trips
  ∧ (∀ u : Fin 8, t.units[u] = ⟨unknown, unknown, unknown, unknown, unknown, s.units[u].mode, s.units[u].breakerClosed, false⟩)
  ∧ t.tally.units = units ∧ t.tally.side = y.side ∧ t.tally.freeze = y.freeze ∧ t.tally.serial = y.serial
  ∧ t.store.images = s.store.images ∧ t.store.configImage = s.store.configImage
  ∧ t.store.configFault = (s.store.configFault || !s.store.configImage.good || s.store.configImage.code != s.config.code)
  ∧ (∀ i : Fin 32, t.store.failed[i] = bad i ∧ t.store.numbers[i] = if bad i then none else some s.store.images[i].number)
  ∧ t.store.periodic = 0 ∧ t.store.finalDue = false ∧ t.store.configWrite = none
  ∧ t.store.number = number ∧ t.store.sequence = upTo Config.countTop number ∧ t.store.again = false
  ∧ GoesOn (if s.pins.warningLine then .final else .walking) 0 number y true t
  ∧ (NoneMarked y 0 → EndsIn (if s.pins.warningLine then .held else .idle) y t)
  ∧ t.watch = (if stranded then pendingHandled s.config t.time.elapsed expired else expired)
  ∧ t.port = { slots := Vector.replicate 2 .free, nextOrder := 1, mask := 0, lastStart := k, levels := s.config.levels, dataOut := []
               latched := (((List.finRange 24).foldl (fun w i => w ||| (credited i).2) 0#32
                   ||| if s.watch.warningDeadline.any fun x => decide (x ≤ t.time.elapsed) then Event.handoverWarn.bit else 0#32)
                 ||| (if stranded then openingEvent expired t.watch else 0#32)) ||| Event.started.bit }

/-- The image of a part as delivered, before its first power: nothing retained, the array as delivered (R123, 10.1). -/
def delivered : State :=
  { State.reset with
    pins := { mainPower := false, backupSupply := false, resetLine := false, warningLine := false, retainedValid := false, startWaiting := none } }

end Sys2Proof.Claim

section Obligations

open Sys2Proof Sys2Proof.Machine Sys2Proof.Claim Sys2Proof.Safety

/-! ### The queue and the port -/

/-- A step takes the command at the front of the queue and runs its meaning on the state with the queue's rest; on an empty queue the part idles, which is the model's choice (log 3). -/
def Obligations.FrontCommandRuns : Prop :=
  (∀ (c : Instr) (rest : List Instr) (s : State), step { s with pending := c :: rest } = exec c { s with pending := rest })
  ∧ ∀ s : State, s.pending = [] → step s = .next s

/-- Every reading request that the port takes answers OK, NOT_FOUND, ABSENT or BAD_FIELD as its rule gives, and nothing changes but its reply slot (R18, R51, R74, R93, R122, R140, R156, R157, R173, R177). Each body is spelled field by field, and so are the layouts of figures, names and records (R162). Model's choices: log 1, 13, 14. -/
def Obligations.ReadsAnswerAndChangeNothing : Prop :=
  FigureLayouts ∧ NameCodes ∧ RecordLayouts
  ∧ ∀ (h : Header) (i : Fin 2) (s : State), Taken h 3 i s →
    let z := s.pass h.dt
    Answers (.readTime h) s h 3 i .ok (timeFields z) z
    ∧ (∀ line : Fin 32, Answers (.readLine h line.val) s h 6 i .ok (lineFields line z) z)
    ∧ (∀ line : Nat, 31 < line → Answers (.readLine h line) s h 6 i .badField [] z)
    ∧ (∀ (k : Fin 48) (r : TripRecord), s.trips.slots[k] = some r → Answers (.readTrip h k.val) s h 10 i .ok (tripFields k r z) z)
    ∧ (∀ k : Fin 48, s.trips.slots[k] = none → Answers (.readTrip h k.val) s h 10 i .notFound [] z)
    ∧ (∀ slot : Nat, 47 < slot → Answers (.readTrip h slot) s h 10 i .badField [] z)
    ∧ (∀ u : Fin 8, Answers (.readUnit h (u.val + 1)) s h 11 i .ok (unitFields u z) z)
    ∧ (∀ position : Nat, position = 0 ∨ 8 < position → Answers (.readUnit h position) s h 11 i .badField [] z)
    ∧ (∀ (k : Fin 24) (a : Account) (d : Bool), s.tally.accounts[k] = .held a d →
        Answers (.readAccount h (.slot k.val)) s h 18 i .ok (accountFields k a d z) z)
    ∧ (∀ (k : Fin 24) (r : Bool), s.tally.accounts[k] = .free r → Answers (.readAccount h (.slot k.val)) s h 18 i .notFound [] z)
    ∧ (∀ slot : Nat, 23 < slot → Answers (.readAccount h (.slot slot)) s h 18 i .badField [] z)
    ∧ (∀ (t : List Byte) (k : Fin 24) (a : Account) (d : Bool), tagValid t = true → s.tally.tagSlot t = some k →
        s.tally.accounts[k] = .held a d → Answers (.readAccount h (.tag t)) s h 18 i .ok (accountFields k a d z) z)
    ∧ (∀ t : List Byte, tagValid t = true → s.tally.tagSlot t = none → Answers (.readAccount h (.tag t)) s h 18 i .notFound [] z)
    ∧ (∀ t : List Byte, tagValid t = false → Answers (.readAccount h (.tag t)) s h 18 i .badField [] z)
    ∧ Answers (.readStore h) s h 20 i .ok (storeFields z) z
    ∧ Answers (.readWatch h) s h 26 i .ok (watchFields z) z
    ∧ (∀ u : Fin 8, Answers (.readShiftTally h (u.val + 1) 0) s h 27 i .ok (currentFields u z) z)
    ∧ (∀ (u : Fin 8) (p : PreviousShift), s.watch.previous = some p →
        Answers (.readShiftTally h (u.val + 1) 1) s h 27 i .ok (p.deltas[u].bytes ++ p.header) z)
    ∧ (∀ u : Fin 8, s.watch.previous = none → Answers (.readShiftTally h (u.val + 1) 1) s h 27 i .absent [] z)
    ∧ (∀ position selector : Nat, position = 0 ∨ 8 < position ∨ 1 < selector →
        Answers (.readShiftTally h position selector) s h 27 i .badField [] z)
    ∧ Answers (.readConditions h) s h 29 i .ok
        (u32 s.conditions.toNat ++ u32 s.port.mask.toNat ++ flag s.attention ++ u8 s.port.lastStart.code ++ u40 s.time.elapsed) z
    ∧ (∀ code index : Nat, index < itemIndices code → Answers (.readConfig h code index) s h 32 i .ok
        (beInt 4 (itemGet s.config code index) ++ beInt 4 (itemGet .factory code index) ++ flag s.store.configFault
          ++ flag s.store.configWrite.isSome) z)
    ∧ (∀ code index : Nat, itemIndices code ≤ index → Answers (.readConfig h code index) s h 32 i .badField [] z)

/-- FIND (R168, R169): with good fields it answers OK with the count, the results with their indices in walk order and the next index: absent where the walk visited the far bound, and otherwise one beyond the last result in the walk's direction, with every result before it; a walk whose results reach the maximum at an index short of the far bound stops there, whatever lies beyond, and gives the next index; with a bad collection, direction, index, maximum or option list it answers BAD_FIELD. Nothing changes but the reply slot. Last, which option lists are read, and which records pass one: every filter item of the table of R168 is applied. Model's choices: log 1, 13, 14. -/
def Obligations.FindListsAndChangesNothing : Prop :=
  (∀ (h : Header) (i : Fin 2) (s : State), Taken h 3 i s →
    ∀ (start stop direction maximum : Nat) (options : List Byte),
    let z := s.pass h.dt
    (∀ (code : Nat) (c : Collection) (items : List (Nat × Nat)), Collection.ofCode code = some c → direction ≤ 1 → start < c.size →
        stop < c.size → 1 ≤ maximum → maximum ≤ c.most → readOptions c options = some items →
        ∃ found : List (Nat × List Byte), ∃ next : Option Nat,
          Answers (.find h code start stop direction maximum options) s h 28 i .ok
            (u8 found.length ++ (found.map fun f => f.2 ++ u8 f.1).flatten ++ opt u8 next) z
          ∧ found.length ≤ maximum
          ∧ (∀ f ∈ found, start ≤ f.1 ∧ f.1 ≤ max start stop ∧ s.matchAt c items f.1 = some f.2)
          ∧ (found.map Prod.fst).Pairwise (fun a b => if direction = 0 then a < b else b < a)
          ∧ (∀ k, start ≤ k → k ≤ max start stop → (s.matchAt c items k).isSome = true → (k ∈ found.map Prod.fst ∨
              ∃ n, next = some n ∧ if direction = 0 then n ≤ k else k ≤ n))
          ∧ (∀ n, next = some n → start ≤ n ∧ n ≤ max start stop ∧ found.length = maximum
              ∧ (∀ f ∈ found, if direction = 0 then f.1 < n else n < f.1)
              ∧ ∃ f ∈ found, if direction = 0 then n = f.1 + 1 else f.1 = n + 1)
          ∧ (∀ f, found.length = maximum → found.getLast? = some f → f.1 ≠ (if direction = 0 then max start stop else start) →
              next = some (if direction = 0 then f.1 + 1 else f.1 - 1)))
    ∧ (∀ code : Nat, Collection.ofCode code = none → Answers (.find h code start stop direction maximum options) s h 28 i .badField [] z)
    ∧ (∀ (code : Nat) (c : Collection), Collection.ofCode code = some c →
        (1 < direction ∨ c.size ≤ start ∨ c.size ≤ stop ∨ maximum = 0 ∨ c.most < maximum ∨ readOptions c options = none) →
        Answers (.find h code start stop direction maximum options) s h 28 i .badField [] z))
  ∧ (∀ (c : Collection) (options : List Byte) (items : List (Nat × Nat)),
      readOptions c options = some items ↔ options = optionBytes items ∧ ∀ p ∈ items, filterGood c p.1 p.2)
  ∧ (∀ (c : Collection) (items : List (Nat × Nat)) (s : State) (k : Nat) (bytes : List Byte), (∀ p ∈ items, filterGood c p.1 p.2) →
      (s.matchAt c items k = some bytes ↔ match c with
        | .trips => ∃ (j : Fin 48) (r : TripRecord), j.val = k ∧ s.trips.slots[j] = some r ∧ tripPasses r items ∧ bytes = r.bytes k
        | .pending => ∃ e : PendingEntry, s.trips.pendingList[k]? = some e ∧ entryPasses s.config.lines e items ∧ bytes = e.bytes
        | .accounts => ∃ (j : Fin 24) (a : Account) (d : Bool), j.val = k ∧ s.tally.accounts[j] = .held a d ∧ accountPasses a items
            ∧ bytes = a.bytes k d))
  ∧ (∀ code : Nat, Collection.ofCode code = [Collection.trips, .pending, .accounts][code]?)
  ∧ Collection.trips.size = 48 ∧ Collection.pending.size = 32 ∧ Collection.accounts.size = 24
  ∧ Collection.trips.most = 4 ∧ Collection.pending.most = 7 ∧ Collection.accounts.most = 2

/-- The port's own checks (R161, R163, R164): off or in reset a request is not taken; with no slot free it is ignored whole; below the required level it is refused with PRIVILEGE and an empty body. Model's choices: log 1, 4. -/
def Obligations.PortChecksRequests : Prop :=
  ∀ (c : Instr) (h : Header) (kind level : Nat) (s : State), requestRow c = some (h, kind, level) →
    (s.up = false → exec c s = .next (s.pass h.dt))
    ∧ (s.freeReply = none → exec c s = .next (s.pass h.dt))
    ∧ ∀ i : Fin 2, s.up = true → s.freeReply = some i → level < s.port.levels[h.requester].val →
        Answers c s h kind i .privilege [] (s.pass h.dt)

/-- R167: a request answered with an outcome of rows 4 to 19 changes nothing but its reply slot; REDUNDANT changes nothing more than withdrawing a switch in flight. Model's choices: log 1. -/
def Obligations.RefusedRequestsChangeNothing : Prop :=
  ∀ (c : Instr) (h : Header) (kind level : Nat) (i : Fin 2) (s t : State) (n : Nat) (r : Reply),
    requestRow c = some (h, kind, level) → s.up = true → s.freeReply = some i → exec c s = .next t →
    t.port.slots[i] = .waiting n r →
    (4 ≤ r.code.code → r.code.code ≤ 19 → t = (s.pass h.dt).place i r)
    ∧ (r.code = .redundant → t = (s.pass h.dt).place i r
        ∨ (∃ source, c = .selectSource h source)
          ∧ t = ({ s.pass h.dt with time := { (s.pass h.dt).time with target := none } } : State).place i r)

/-- SEND (R163, R164): a whole frame with a good CRC is taken as the request it spells, once the status byte and fill bytes are out; with no slot free it is ignored; a frame with a bad length, cut short, with bits 7..6 of byte 2 set or a wrong CRC is discarded with FRAME_ERROR. The port's own checks of a whole frame, in their order (R164): a kind or a selector of row 32 that names no request is answered BAD_KIND, a requester above the required level PRIVILEGE, a body that does not carry the fields of its kind BAD_FIELD, each with an empty body and nothing else changed; a frame that passes them is read as a request of its kind's level. Model's choices: log 1, 4, 15. -/
def Obligations.SendTakesFrames : Prop :=
  ∀ (dt : Nat) (s : State), s.up = true →
    let out := fun bytes : List Byte => (s.pass dt).shiftOut (s.statusByte :: List.replicate bytes.length 0#8)
    (∀ bytes : List Byte, s.freeReply = none → exec (.send dt bytes) s = .next (out bytes))
    ∧ (∀ (requester : Fin 4) (crew : Fin 16) (kind tag : Byte) (body rest : List Byte), s.freeReply.isSome = true → body.length ≤ 240 →
        let bytes := frameBytes requester crew kind tag body ++ rest
        exec (.send dt bytes) s
          = .next ((out bytes).takeRequest requester crew tag kind.toNat (intakeFor kind.toNat body)))
    ∧ (∀ (i : Fin 2) (requester : Fin 4) (crew : Fin 16) (kind tag : Byte) (body rest : List Byte), s.freeReply = some i →
        body.length ≤ 240 →
        let bytes := frameBytes requester crew kind tag body ++ rest
        let refused := fun code : ReplyCode =>
          exec (.send dt bytes) s = .next ((out bytes).place i ⟨⟨requester, tag, kind.toNat⟩, code, []⟩)
        match requiredLevel kind.toNat body with
        | none => refused .badKind
        | some level =>
          if level < s.port.levels[requester].val then refused .privilege
          else if bodyFitsKind kind.toNat body = false then refused .badField
          else ∃ act : Act, intakeFor kind.toNat body = .request level act)
    ∧ (∀ (len who kind tag : Byte) (rest : List Byte), s.freeReply.isSome = true →
        let bytes := len :: who :: kind :: tag :: rest
        (240 < len.toNat ∨ bytes.length < len.toNat + 6 ∨ 64 ≤ who.toNat
          ∨ crc16 (bytes.take (len.toNat + 4)) ≠ BitVec.ofNat 16 (beNat ((bytes.drop (len.toNat + 4)).take 2))) →
        exec (.send dt bytes) s = .next (withEvent .frameError (out bytes)))
    ∧ (∀ bytes : List Byte, s.freeReply.isSome = true → bytes.length < 4 →
        exec (.send dt bytes) s = .next (withEvent .frameError (out bytes)))

/-- Every request command that fits the wire is what some frame spells: a SEND of that frame with a slot free does what the command does, beside the bytes shifted out (R162, R163, R164; log 4). Model's choices: log 4, 15. -/
def Obligations.EveryRequestCanBeSent : Prop :=
  ∀ (c : Instr) (h : Header) (kind level : Nat), requestRow c = some (h, kind, level) → WellFormed c →
    ∃ body : List Byte, body.length ≤ 240 ∧ ∀ s : State, s.up = true → s.freeReply.isSome = true →
      let bytes := frameBytes h.requester h.crew (BitVec.ofNat 8 kind) h.tag body
      exec (.send h.dt bytes) s = exec c (s.shiftOut (s.statusByte :: List.replicate bytes.length 0#8))

/-- COLLECT (R166) and STATUS_POLL (R161): the status byte goes out first; the oldest waiting reply follows, its slot freed only when the whole frame was clocked; a status poll and a COLLECT with no reply waiting send fill bytes. The bits of the status byte (R161, R162): 1010, attention, intake ready, replies waiting; the bytes of the reply frame and its CRC-16 (R162). -/
def Obligations.CollectAndStatusPoll : Prop :=
  (∀ (dt clocked : Nat) (code : Byte) (s : State), s.up = true →
    let z := s.pass dt
    exec (.statusPoll dt code clocked) s = .next (z.shiftOut (s.statusByte :: List.replicate clocked 0#8))
    ∧ (s.oldestWaiting = none → exec (.collect dt clocked) s = .next (z.shiftOut (s.statusByte :: List.replicate clocked 0#8)))
    ∧ (∀ (i : Fin 2) (r : Reply), s.oldestWaiting = some (i, r) → clocked < r.frame.length →
        exec (.collect dt clocked) s = .next (z.shiftOut (s.statusByte :: r.frame.take clocked)))
    ∧ (∀ (i : Fin 2) (r : Reply), s.oldestWaiting = some (i, r) → r.frame.length ≤ clocked →
        exec (.collect dt clocked) s = .next
          { z with port := { z.port with
              slots := z.port.slots.set i .free
              dataOut := s.statusByte :: r.frame ++ List.replicate (clocked - r.frame.length) 0#8 } })
    ∧ (∀ (i : Fin 2) (r : Reply), s.oldestWaiting = some (i, r) →
        ∃ n, s.port.slots[i] = .waiting n r ∧ ∀ (j : Fin 2) (m : Nat) (q : Reply), s.port.slots[j] = .waiting m q → n ≤ m)
    ∧ (s.oldestWaiting = none → ∀ (j : Fin 2) (m : Nat) (q : Reply), s.port.slots[j] ≠ .waiting m q))
  ∧ (∀ s : State, s.statusByte.toNat / 16 = 10 ∧ s.statusByte.getLsb (3 : Fin 8) = s.attention
      ∧ (s.statusByte.getLsb (2 : Fin 8) = true ↔ ∃ i : Fin 2, s.port.slots[i] = .free)
      ∧ s.statusByte.toNat % 4 = (List.finRange 2).countP fun i => match s.port.slots[i] with
          | .waiting _ _ => true
          | _ => false)
  ∧ (∀ r : Reply,
      let inner := [BitVec.ofNat 8 r.body.length, BitVec.ofNat 8 (16 * r.head.requester.val), r.head.tag, BitVec.ofNat 8 r.head.kind,
        BitVec.ofNat 8 r.code.code] ++ r.body
      let code := (crc16 inner).toNat
      r.frame = 0x3C#8 :: inner ++ [BitVec.ofNat 8 (code / 256), BitVec.ofNat 8 code])
  ∧ (∀ bytes : List Byte, crc16 bytes = bytes.foldl (fun (c : Word16) (b : Byte) =>
      Nat.iterate (fun r : Word16 => if r.msb then (r <<< 1) ^^^ 0x1021#16 else r <<< 1) 8 (c ^^^ (b.setWidth 16 <<< 8))) 0xFFFF#16)

/-- CLEAR_CONDITIONS (R171). -/
def Obligations.ClearConditions : Prop :=
  ∀ (h : Header) (word : Word32) (i : Fin 2) (s : State), Taken h 2 i s →
    let z := s.pass h.dt
    let u := { z with port := { z.port with latched := z.port.latched &&& ~~~word } }
    (word &&& 0xFF00F000#32 = 0#32 → Answers (.clearConditions h word) s h 30 i .ok (u32 u.conditions.toNat) u)
    ∧ (word &&& 0xFF00F000#32 ≠ 0#32 → ∃ body, Answers (.clearConditions h word) s h 30 i .badField body z)

/-- SET_MASK and the attention line (R172). -/
def Obligations.SetMaskAndAttention : Prop :=
  (∀ (h : Header) (word : Word32) (i : Fin 2) (s : State), Taken h 2 i s →
    let z := s.pass h.dt
    let u := { z with port := { z.port with mask := word } }
    (word &&& 0xFF00F000#32 = 0#32 →
      Answers (.setMask h word) s h 31 i .ok (u32 word.toNat ++ u32 u.conditions.toNat) u)
    ∧ (word &&& 0xFF00F000#32 ≠ 0#32 → ∃ body, Answers (.setMask h word) s h 31 i .badField body z))
  ∧ (∀ s : State, s.attention = true ↔ s.up = true ∧ ∃ k : Fin 32, s.conditions.getLsb k = true ∧ s.port.mask.getLsb k = false)
  ∧ (∀ s : State, s.statusByte.getLsb (3 : Fin 8) = s.attention)
  ∧ (∀ s : State, s.pins.mainPower = false ∨ s.pins.resetLine = true → s.attention = false)

/-- The held states follow their causes (09 section 9.7, R66, R84, R124, R176), and the latched events stand beside them in the condition word (R162). -/
def Obligations.HeldStatesFollowCauses : Prop :=
  ∀ s : State, s.port.latched &&& 0xFFFFF000#32 = 0#32 →
    (∀ k : Fin 12, s.conditions.getLsb (k.castLE (by decide)) = s.port.latched.getLsb (k.castLE (by decide)))
    ∧ s.conditions.getLsb (16 : Fin 32) = !s.time.timeSet
    ∧ s.conditions.getLsb (17 : Fin 32) = s.time.pendingStep.isSome
    ∧ (s.conditions.getLsb (18 : Fin 32) = true ↔ s.trips.pendingList ≠ [])
    ∧ (s.conditions.getLsb (19 : Fin 32) = true ↔ ∃ u : Fin 8, s.units[u].mode = .conflict)
    ∧ (s.conditions.getLsb (20 : Fin 32) = true ↔ ∃ i : Fin 32, s.store.failed[i] = true)
    ∧ s.conditions.getLsb (21 : Fin 32) = s.tally.freeze
    ∧ s.conditions.getLsb (22 : Fin 32) = s.watch.overdue
    ∧ s.conditions.getLsb (23 : Fin 32) = s.store.configFault
    ∧ (∀ k : Fin 32, (12 ≤ k.val ∧ k.val ≤ 15) ∨ 24 ≤ k.val → s.conditions.getLsb k = false)

/-! ### The Time Base -/

/-- SELECT_SOURCE (R9), by the first case that applies; every reply carries the source status after the request. Model's choices: log 1, 13. -/
def Obligations.SelectSource : Prop :=
  ∀ (h : Header) (i : Fin 2) (s : State), Taken h 1 i s →
    let z := s.pass h.dt
    let status := fun u : State => u8 u.time.source.code ++ opt (fun x : Target => u8 x.code) u.time.target
      ++ flag u.time.target.isSome ++ flag u.time.refQualified
    let idle := { z with time := { z.time with target := none } }
    let onRc := withEvent .sourceSwitched
      { z with time := { z.time with
          source := .rc, target := none, rcHeld := true, holdover := if z.time.source = .ref then 0 else z.time.holdover } }
    (∀ code : Nat, 2 < code → Answers (.selectSource h code) s h 1 i .badField (status z) z)
    ∧ (∀ q : Source, q = s.time.source → Answers (.selectSource h q.code) s h 1 i .redundant (status idle) idle)
    ∧ (s.time.source ≠ .rc → Answers (.selectSource h Source.rc.code) s h 1 i .ok (status onRc) onRc)
    ∧ (∀ q : Target, q.source ≠ s.time.source →
        let begun := { z with time := { z.time with target := some q } }
        Answers (.selectSource h q.source.code) s h 1 i .accepted (status begun) begun)

/-- What SET_TIME measures (R27): a target out of range is refused with BAD_FIELD; the offset is the target less the reading; under REF it is the nearest whole second, a half second away from zero. Model's choices: log 13. -/
def Obligations.SetTimeMeasuresTheOffset : Prop :=
  (∀ (h : Header) (seconds millis : Nat) (i : Fin 2) (s : State), Taken h 1 i s → 4294967295 < seconds ∨ 999 < millis →
    Answers (.setTime h seconds millis) s h 2 i .badField [] (s.pass h.dt))
  ∧ (∀ (s : State) (target : Int), s.time.source ≠ .ref → s.measuredOffset target = target - s.time.reading s.config.slewStep)
  ∧ (∀ (s : State) (target : Int), s.time.source = .ref →
      let raw := target - s.time.reading s.config.slewStep
      let off := s.measuredOffset target
      off % 1000 = 0 ∧ (off - raw).natAbs ≤ 500 ∧ ((off - raw).natAbs = 500 → raw.natAbs < off.natAbs))

/-- SET_TIME taken as a slew, a step at once or a step held (R28, R29, R30, R31): which of the three it is, what each leaves in the Time Base, and that no other block but the watch and the latched events, by the minute event of a step at once, is touched, of the port only the reply slot, its order and, at a step at once, the latched events: STEP_APPLIED is raised, and the watch then takes the minute event with the new local time (R30 action 7, R34). Model's choices: log 1, 9, 14. -/
def Obligations.SetTimeCorrects : Prop :=
  ∀ (h : Header) (seconds millis : Nat) (i : Fin 2) (s : State), Taken h 1 i s → seconds ≤ 4294967295 → millis ≤ 999 →
    let z := s.pass h.dt
    let off := z.measuredOffset ((seconds : Int) * 1000 + millis)
    let now := z.time.reading z.config.slewStep
    (s.time.timeSet = true → off.natAbs ≤ s.config.slewThreshold →
      ∃ t, exec (.setTime h seconds millis) s = .next t ∧ t = { z with time := t.time, port := t.port }
        ∧ t.time = { z.time with slewRemainder := off, pendingStep := none, readFloor := some now }
        ∧ t.port = (z.place i (reply h 2 .ok (beInt 6 off ++ u8 0 ++ t.stamp.bytes))).port)
    ∧ ((s.time.timeSet = false ∨ s.config.slewThreshold < off.natAbs) → (s.watch.state = .opened ∨ s.watch.state = .signed) →
      ∃ t, exec (.setTime h seconds millis) s = .next t ∧ t = { z with time := t.time, port := t.port }
        ∧ t.time = { z.time with slewRemainder := 0, pendingStep := some off, readFloor := some now }
        ∧ t.port = (z.place i (reply h 2 .deferred (beInt 6 off ++ u8 2 ++ t.stamp.bytes))).port)
    ∧ ((s.time.timeSet = false ∨ s.config.slewThreshold < off.natAbs) → s.watch.state ≠ .opened → s.watch.state ≠ .signed →
      ∃ t, exec (.setTime h seconds millis) s = .next t ∧ t = { z with time := t.time, watch := t.watch, port := t.port }
        ∧ t.time.generation = s.time.generation + 1 ∧ t.time.timeSet = true ∧ t.time.slewRemainder = 0 ∧ t.time.pendingStep = none
        ∧ t.time.boundaryTime = max 0 (min 4294967295999 (now + off)) - min (z.time.msSince : Int) 999
        ∧ t.time.boundaryPos = s.time.boundaryPos ∧ t.time.elapsed = s.time.elapsed ∧ t.time.holdover = s.time.holdover
        ∧ t.time.source = s.time.source ∧ t.time.lastPresented = some t.localTime
        ∧ t.time = steppedTime s.config.slewStep off t.localTime z.time
        ∧ (let taken := (withEvent .stepApplied { z with time := t.time }).takeMinute t.localTime
           t.watch = taken.watch ∧ t.port.latched = taken.port.latched)
        ∧ t.port.latched &&& Event.stepApplied.bit = Event.stepApplied.bit
        ∧ t.port.slots[i] = .waiting s.port.nextOrder (reply h 2 .ok (beInt 6 off ++ u8 1 ++ t.stamp.bytes))
        ∧ t.port = { (z.place i (reply h 2 .ok (beInt 6 off ++ u8 1 ++ t.stamp.bytes))).port with latched := t.port.latched })

/-- SECOND_BOUNDARY on XTAL or RC (R1, R2, R25), FLYWHEEL_BOUNDARY while REF is current (R6) and BACKUP_BOUNDARY (R20 action 4): where the boundary lies, the elapsed counter, holdover seconds, the slew remainder and the boundary time, and a switch to XTAL that completes there (R11). The flywheel boundary lies at the first whole second after the anchor past the boundary position, and the anchor stays. A step found pending with no handover is applied there (R37, log 10). In reset the other blocks take nothing of it (R23, R182, log 16). That a raised slew amount may take the remainder below -60,000 ms is the model's choice (log 36). Model's choices: log 1, 9, 10, 16, 36. -/
def Obligations.CountedBoundaries : Prop :=
  ((∀ s : State, s.timeUp = true → s.time.source ≠ .ref →
     ∃ t, exec .secondBoundary s = .next t
       ∧ t = { s with time := t.time, lines := t.lines, trips := t.trips, tally := t.tally, store := t.store, watch := t.watch, port := t.port }
       ∧ (s.up = false → t = { s with time := t.time })
       ∧ t.time.boundaryPos = s.time.boundaryPos + 1000000
       ∧ t.time.elapsed = upTo Config.elapsedTop s.time.elapsed
       ∧ t.time.anchor = s.time.anchor ∧ t.time.refQualified = s.time.refQualified
       ∧ (¬(s.time.target = some .xtal ∧ s.time.crystalRunning = true) →
           t.time.source = s.time.source ∧ t.time.target = s.time.target ∧ t.time.holdover = upTo Config.countTop s.time.holdover)
       ∧ ((s.time.target = some .xtal ∧ s.time.crystalRunning = true) →
           t.time.source = .xtal ∧ t.time.target = none ∧ t.time.rcHeld = false
             ∧ t.time.holdover = upTo Config.countTop s.time.holdover)
       ∧ (NoStrandedStep s → Counted s.config.slewStep (s.time.boundaryPos + 1000000) false s.time t.time
           ∧ t.time.generation = s.time.generation ∧ t.time.timeSet = s.time.timeSet ∧ t.time.pendingStep = s.time.pendingStep)
       ∧ (∀ off : Int, s.time.pendingStep = some off → ¬ NoStrandedStep s →
           t.time.generation = s.time.generation + 1 ∧ t.time.timeSet = true ∧ t.time.pendingStep = none ∧ t.time.slewRemainder = 0
             ∧ t.port.latched &&& Event.stepApplied.bit = Event.stepApplied.bit))
   ∧ (∀ s : State, s.timeUp = false → s.pins.retainedValid = true → s.time.crystalRunning = true → s.time.backupLost = false →
     ∃ t, exec .backupBoundary s = .next t ∧ t = { s with time := t.time }
       ∧ Counted s.config.slewStep (s.time.boundaryPos + 1000000) false s.time t.time
       ∧ t.time.source = s.time.source ∧ t.time.lastPresented = s.time.lastPresented ∧ t.time.generation = s.time.generation
       ∧ t.time.holdover = (if s.time.source = .ref then s.time.holdover else upTo Config.countTop s.time.holdover)))
  ∧ (∀ (s : State) (anchor : Nat), s.timeUp = true → s.time.source = .ref → s.time.anchor = some anchor →
     ∃ t, exec .flywheelBoundary s = .next t
       ∧ t = { s with time := t.time, lines := t.lines, trips := t.trips, tally := t.tally, store := t.store, watch := t.watch, port := t.port }
       ∧ (s.up = false → t = { s with time := t.time })
       ∧ (∃ k : Nat, 1 ≤ k ∧ t.time.boundaryPos = anchor + 1000000 * k)
       ∧ s.time.boundaryPos < t.time.boundaryPos
       ∧ (anchor ≤ s.time.boundaryPos → t.time.boundaryPos ≤ s.time.boundaryPos + 1000000)
       ∧ (s.time.boundaryPos < anchor → t.time.boundaryPos = anchor + 1000000)
       ∧ t.time.boundaryPos + 100 * s.config.refTolerance ≤ t.time.clock
       ∧ t.time.anchor = some anchor ∧ t.time.elapsed = upTo Config.elapsedTop s.time.elapsed
       ∧ t.time.goodRun = s.time.goodRun ∧ t.time.badRun = s.time.badRun ∧ t.time.refQualified = s.time.refQualified
       ∧ AfterRefBoundary s.time t.time
       ∧ (NoStrandedStep s → Counted s.config.slewStep t.time.boundaryPos false s.time t.time ∧ t.time.generation = s.time.generation))

/-- REF_PULSE (R3, R4, R6): the first pulse becomes the anchor; a pulse within the tolerance of a whole second after the anchor is good, becomes the anchor and is counted while REF is current, with station time aligned to it once no slew is left (R25, R26); any other is bad. A good pulse that is neither counted nor completes a switch changes the judgement alone. Every pulse restarts the absence limit. In reset the other blocks take nothing of it (R23, R182, log 16). That a raised slew amount may take the remainder below -60,000 ms is the model's choice (log 36). Model's choices: log 1, 9, 16, 36. -/
def Obligations.RefPulseIsJudged : Prop :=
  ∀ (dt : Nat) (s : State), s.timeUp = true →
    let now := s.time.clock + dt
    (s.time.anchor = none →
      exec (.refPulse dt) s = .next
        { s with time := { s.time with clock := now, lastPulse := now, anchor := some now, goodRun := 0, badRun := 0 } })
    ∧ (∀ anchor : Nat, s.time.anchor = some anchor → GoodPulse s.config anchor now →
        ∃ t, exec (.refPulse dt) s = .next t
          ∧ t = { s with time := t.time, lines := t.lines, trips := t.trips, tally := t.tally, store := t.store, watch := t.watch, port := t.port }
          ∧ (s.up = false → t = { s with time := t.time })
          ∧ t.time.anchor = some now ∧ t.time.lastPulse = now ∧ t.time.clock = now
          ∧ t.time.goodRun = upTo 255 s.time.goodRun ∧ t.time.badRun = 0
          ∧ (t.time.refQualified = true ↔ s.time.refQualified = true ∨ s.config.refQualify ≤ upTo 255 s.time.goodRun)
          ∧ (s.time.source = .ref → t.time.boundaryPos = now ∧ t.time.elapsed = upTo Config.elapsedTop s.time.elapsed
              ∧ AfterRefBoundary s.time t.time
              ∧ (NoStrandedStep s → Counted s.config.slewStep now true s.time t.time ∧ t.time.generation = s.time.generation))
          ∧ (s.time.source ≠ .ref → ¬ CompletingPulse s → t = { s with time := { s.time with
              clock := now, lastPulse := now, anchor := some now, goodRun := t.time.goodRun, badRun := 0
              refQualified := t.time.refQualified } }))
    ∧ (∀ anchor : Nat, s.time.anchor = some anchor → anchor ≤ now → ¬ GoodPulse s.config anchor now →
        upTo 255 s.time.badRun < s.config.refBadLimit →
        exec (.refPulse dt) s = .next
          { s with time := { s.time with clock := now, lastPulse := now, goodRun := 0, badRun := upTo 255 s.time.badRun } })

/-- A switch to REF completes on a good pulse on which REF is QUALIFIED (R11, R12), whether it was selected or auto-return begins it (R13): the pulse is counted as a boundary, with the alignment of R26, when 500 ms or more have passed since the boundary position, and not otherwise. In reset the Time Base alone takes it, and no condition is raised (R23, R182, log 16). That a raised slew amount may take the remainder below -60,000 ms is the model's choice (log 36). Model's choices: log 1, 9, 16, 36. -/
def Obligations.SwitchToRefCompletes : Prop :=
  ∀ (dt anchor : Nat) (s : State), s.timeUp = true → s.time.anchor = some anchor → s.time.source ≠ .ref →
    let now := s.time.clock + dt
    GoodPulse s.config anchor now → CompletingPulse s →
    ∃ t, exec (.refPulse dt) s = .next t
      ∧ t = { s with time := t.time, lines := t.lines, trips := t.trips, tally := t.tally, store := t.store, watch := t.watch, port := t.port }
      ∧ t.time.source = .ref ∧ t.time.target = none ∧ t.time.rcHeld = false ∧ t.time.holdover = 0
      ∧ (s.up = true → t.port.latched &&& Event.sourceSwitched.bit = Event.sourceSwitched.bit)
      ∧ (s.up = false → t = { s with time := t.time })
      ∧ (500000 ≤ now - s.time.boundaryPos →
          t.time.boundaryPos = now ∧ t.time.elapsed = upTo Config.elapsedTop s.time.elapsed
          ∧ (NoStrandedStep s → Counted s.config.slewStep now true s.time t.time))
      ∧ (now - s.time.boundaryPos < 500000 →
          t.time.boundaryPos = s.time.boundaryPos ∧ t.time.elapsed = s.time.elapsed ∧ t.time.boundaryTime = s.time.boundaryTime
          ∧ t.time.slewRemainder = s.time.slewRemainder)

/-- A REF failure (R5), by the absence limit or by a bad pulse that brings the bad run to K; in reset the fallback is made with no condition raised (log 16). Model's choices: log 1, 2, 16. -/
def Obligations.RefFailure : Prop :=
  let failed := fun t : TimeBase => { t with refQualified := false, goodRun := 0, badRun := 0, anchor := none }
  let fallen := fun t : TimeBase =>
    { failed t with source := if t.crystalRunning then .xtal else .rc, target := none, rcHeld := false, holdover := 0 }
  let failing := fun u : State => if u.up = true then withEvent .sourceFail u else u
  (∀ s : State, s.timeUp = true → s.time.anchor.isSome = true →
    let z := { s with time := { s.time with clock := max s.time.clock (s.time.lastPulse + 1500000) } }
    (s.time.source = .ref → exec .absenceLimitExpiry s = .next (failing { z with time := fallen z.time }))
    ∧ (s.time.source ≠ .ref → exec .absenceLimitExpiry s = .next { z with time := failed z.time }))
  ∧ (∀ s : State, s.time.anchor = none → exec .absenceLimitExpiry s = .next s)
  ∧ (∀ (dt anchor : Nat) (s : State), s.timeUp = true → s.time.anchor = some anchor →
    inWindow (100 * s.config.refTolerance) anchor (s.time.clock + dt) = false → s.config.refBadLimit ≤ upTo 255 s.time.badRun →
    let z := { s with time := { s.time with clock := s.time.clock + dt, lastPulse := s.time.clock + dt } }
    (s.time.source = .ref → exec (.refPulse dt) s = .next (failing { z with time := fallen z.time }))
    ∧ (s.time.source ≠ .ref → exec (.refPulse dt) s = .next { z with time := failed z.time }))

/-- CRYSTAL_READY (R8) and CRYSTAL_STOP (R7): under main power, by the current source and the switch in flight, with the condition raised unless the part is in reset (log 16); under backup supply, where a stop loses the count (R20 action 5) and a ready event changes only the crystal state (log 28). Last, what the passing of time is: the interval clock runs on, and while the count is lost it stands, so station time keeps its value (R20 action 5). Model's choices: log 1, 16, 28, 31. -/
def Obligations.CrystalEvents : Prop :=
  ∀ (dt : Nat) (s : State),
    let z := s.pass dt
    let ready := { z with time := { z.time with crystalRunning := true } }
    let stopped := { z with time := { z.time with crystalRunning := false } }
    let raising := fun (e : Event) (u : State) => if s.up = true then withEvent e u else u
    (s.timeUp = true →
      (s.time.crystalRunning = false → s.time.source = .rc → s.time.target = some .xtal →
        exec (.crystalReady dt) s = .next (raising .sourceSwitched
          { ready with time := { ready.time with source := .xtal, target := none, rcHeld := false } }))
      ∧ (s.time.crystalRunning = false → s.time.source = .rc → s.time.target ≠ some .xtal → s.time.rcHeld = false →
        exec (.crystalReady dt) s = .next (raising .sourceSwitched { ready with time := { ready.time with source := .xtal } }))
      ∧ (s.time.crystalRunning = false → (s.time.source ≠ .rc ∨ s.time.target ≠ some .xtal ∧ s.time.rcHeld = true) →
        exec (.crystalReady dt) s = .next ready)
      ∧ (s.time.source = .xtal → exec (.crystalStop dt) s = .next (raising .sourceFail
          { stopped with time := { stopped.time with source := .rc, rcHeld := false } }))
      ∧ (s.time.source ≠ .xtal → exec (.crystalStop dt) s = .next stopped))
    ∧ (s.timeUp = false →
      exec (.crystalStop dt) s = .next { z with time := { z.time with crystalRunning := false, backupLost := true } }
      ∧ (s.time.crystalRunning = false → exec (.crystalReady dt) s = .next ready)
      ∧ (s.time.backupLost = true → z = s ∧ exec .backupBoundary s = .next s))
    ∧ (s.time.crystalRunning = true → exec (.crystalReady dt) s = .next z)
    ∧ (s.timeUp = true ∨ s.time.backupLost = false → z = { s with time := { s.time with clock := s.time.clock + dt } })

/-- The elapsed counter (R14): no command but a counted boundary, a good pulse or a cold start changes it; those move it by exactly one, held at 2^40−1, or leave it, and only a cold start sets it to 0. -/
def Obligations.ElapsedCounterLaw : Prop :=
  ∀ (c : Instr) (s t : State), exec c s = .next t →
    match c with
    | .secondBoundary | .flywheelBoundary | .backupBoundary | .refPulse _ =>
        t.time.elapsed = s.time.elapsed ∨ t.time.elapsed = upTo Config.elapsedTop s.time.elapsed
    | .coldStart _ => t.time.elapsed = s.time.elapsed ∨ t.time.elapsed = 0
    | .resetLineReleased _ => t.time.elapsed = s.time.elapsed ∨ (s.pins.startWaiting = some .cold ∧ t.time.elapsed = 0)
    | _ => t.time.elapsed = s.time.elapsed

/-- The reading of station time (R24), the fields of a stamp (R15), its grade (R16) and local time (R34). Model's choices: log 1, 9. -/
def Obligations.StampAndLocalTime : Prop :=
  ∀ s : State,
    s.time.reading s.config.slewStep = readingOf s.config.slewStep s.time
    ∧ (s.stamp.generation = s.time.generation)
    ∧ ((s.stamp.seconds : Int) * 1000 + s.stamp.millis = s.time.reading s.config.slewStep ∧ s.stamp.millis ≤ 999
        ∧ s.stamp.seconds ≤ 4294967295)
    ∧ (s.time.timeSet = false → s.stamp.grade = .unset)
    ∧ (s.time.timeSet = true → s.time.source = .ref → s.stamp.grade = .locked)
    ∧ (s.time.timeSet = true → s.time.source = .xtal → s.time.holdover ≤ s.config.holdoverLimit → s.stamp.grade = .holdover)
    ∧ (s.time.timeSet = true → s.time.source = .xtal → s.config.holdoverLimit < s.time.holdover → s.stamp.grade = .free)
    ∧ (s.time.timeSet = true → s.time.source = .rc → s.stamp.grade = .free)
    ∧ (s.localTime.minute ≤ 1439
        ∧ ∃ rest : Nat, rest ≤ 59 ∧
          (s.stamp.seconds : Int) + 60 * s.config.localOffset = 86400 * s.localTime.day + 60 * s.localTime.minute + rest)

/-- R17: station time as read never runs back within one generation, over any step but the start of a part that was off or waited behind the reset line; the slew step is in the range of its item. The start is left out since a warm one with the backup count lost goes on from the boundary time as kept in the same generation, up to 999 ms below the reading reached, which is the model's choice between R17 and R22 (log 35). Model's choices: log 9, 35. -/
def Obligations.StationTimeNeverRunsBack : Prop :=
  ∀ (c : Instr) (s t : State), s.config.slewStep ≤ 10 → exec c s = .next t → t.time.generation = s.time.generation →
    (∀ dt, c ≠ .coldStart dt) → (∀ dt, c ≠ .warmStart dt) → (∀ dt, c = .resetLineReleased dt → s.pins.startWaiting = none) →
    s.time.reading s.config.slewStep ≤ t.time.reading t.config.slewStep

/-- R31: no step of station time is applied while a handover is in progress, by any command that leaves the handover in progress. -/
def Obligations.HandoverHoldsSteps : Prop :=
  ∀ (c : Instr) (s t : State), exec c s = .next t → (s.watch.state = .opened ∨ s.watch.state = .signed) →
    (∀ h carry, c ≠ .release h carry) → (∀ h, c ≠ .abortHandover h) → (∀ dt bytes, c ≠ .send dt bytes) →
    (∀ dt, c ≠ .coldStart dt) → (∀ dt, c ≠ .resetLineReleased dt) →
    t.time.generation = s.time.generation ∧ (t.watch.state = .opened ∨ t.watch.state = .signed) ∧ t.watch.crew = s.watch.crew

/-! ### Trip lines and the Trip Table -/

/-- One sample of the trip lines (R39, R40, R41, R42, R49): what each enabled line becomes by its level, its state and its counts; a disabled line is not sampled. What each line qualifies at the sample reaches the Trip Table (R43): an assertion of kind REAL with stamp and mode of its first asserted sample, found at start only for a run that began with the first sample after a start with no test injection there (R49, R53), or a release with the stamp of its first released sample (R41); the lines taken first are those the world names, in its order. An assertion raises TRIP_NEW, and a sample that qualifies none leaves tallies and port. Model's choices: log 11, 20. -/
def Obligations.TripLineSampleQualifies : Prop :=
  ∀ (dt : Nat) (levels : Vector Bool 32) (first : List (Fin 32)) (s : State), s.up = true →
    ∃ t, exec (.tripLineSample dt levels first) s = .next t
      ∧ t = { s.pass dt with lines := t.lines, trips := t.trips, tally := t.tally, port := t.port }
      ∧ (∃ order : List (Fin 32), first.eraseDups <+: order ∧ order.Nodup ∧ order.length = 32
          ∧ (order.drop first.eraseDups.length).Pairwise (fun a b => a < b)
          ∧ t.trips = order.foldl (fun a i => tableTakes s i (qualified (s.pass dt) levels i) a) s.trips)
      ∧ ((∃ i : Fin 32, (carriedMode (qualified (s.pass dt) levels i)).isSome = true) →
          t.port.latched &&& Event.tripNew.bit = Event.tripNew.bit)
      ∧ ((∀ i : Fin 32, carriedMode (qualified (s.pass dt) levels i) = none) → t.tally = s.tally ∧ t.port = s.port)
      ∧ ∀ i : Fin 32,
        let l := s.lines[i]
        let m := t.lines[i]
        let cfg := s.config.lines[i]
        let stamp := (s.pass dt).stamp
        (cfg.enabled = false → m = l)
        ∧ (cfg.enabled = true → m.startLook = false)
        ∧ (cfg.enabled = true → levels[i] = true → l.phase = .released → cfg.assertCount ≤ 1 →
            m = { l with phase := .asserted, run := 0, held := none, heldMode := none, firstRun := false, startLook := false, test := none })
        ∧ (cfg.enabled = true → levels[i] = true → l.phase = .released → 1 < cfg.assertCount →
            m = { l with phase := .asserting, run := 1, held := some stamp, heldMode := some (s.lineMode i), firstRun := l.startLook,
                         startLook := false })
        ∧ (cfg.enabled = true → levels[i] = true → l.phase = .asserting → l.run + 1 < cfg.assertCount →
            m = { l with run := l.run + 1, startLook := false })
        ∧ (cfg.enabled = true → levels[i] = true → l.phase = .asserting → cfg.assertCount ≤ l.run + 1 →
            m = { l with phase := .asserted, run := 0, held := none, heldMode := none, firstRun := false, startLook := false, test := none })
        ∧ (cfg.enabled = true → levels[i] = true → l.phase = .asserted → m = { l with startLook := false })
        ∧ (cfg.enabled = true → levels[i] = true → l.phase = .releasing →
            m = { l with phase := .asserted, run := 0, held := none, heldMode := none, firstRun := false, startLook := false })
        ∧ (cfg.enabled = true → levels[i] = false → l.phase = .released → m = { l with startLook := false })
        ∧ (cfg.enabled = true → levels[i] = false → l.phase = .asserting →
            m = { l with phase := .released, run := 0, held := none, heldMode := none, firstRun := false, startLook := false })
        ∧ (cfg.enabled = true → levels[i] = false → l.phase = .asserted → cfg.releaseCount ≤ 1 →
            m = { l with phase := .released, run := 0, held := none, heldMode := none, firstRun := false, startLook := false })
        ∧ (cfg.enabled = true → levels[i] = false → l.phase = .asserted → 1 < cfg.releaseCount →
            m = { l with phase := .releasing, run := 1, held := some stamp, heldMode := none, firstRun := l.startLook,
                         startLook := false })
        ∧ (cfg.enabled = true → levels[i] = false → l.phase = .releasing → l.run + 1 < cfg.releaseCount →
            m = { l with run := l.run + 1, startLook := false })
        ∧ (cfg.enabled = true → levels[i] = false → l.phase = .releasing → cfg.releaseCount ≤ l.run + 1 →
            m = { l with phase := .released, run := 0, held := none, heldMode := none, firstRun := false, startLook := false })

/-- The trips counted at one sample (R44, R92, R110): a unit's trip count rises by the number of enabled lines mapped to it that qualify an assertion at the sample, frozen or not, whatever the Trip Table makes of them. Each account bound to the unit takes as many trips, and the trip equivalent of its class for each that carries a running mode; its service state is then evaluated. Other accounts stand. A unit tally or account that changes is marked, and a count held at its top marks none (R87, R111). Model's choices: log 11. -/
def Obligations.RealTripsAreCounted : Prop :=
  ∀ (dt : Nat) (levels : Vector Bool 32) (first : List (Fin 32)) (s t : State), s.up = true →
    (∀ i : Fin 32, LineLaw s.config.lines[i] s.lines[i]) → exec (.tripLineSample dt levels first) s = .next t →
    let mode := fun i : Fin 32 => carriedMode (qualified (s.pass dt) levels i)
    let trips := fun u : Fin 8 => (List.finRange 32).countP fun i =>
      decide (s.config.lines[i].unit.val = u.val + 1) && (mode i).isSome
    let running := fun u : Fin 8 => (List.finRange 32).countP fun i =>
      decide (s.config.lines[i].unit.val = u.val + 1) && (mode i).any CarriesRunning
    MarksChanges s.tally t.tally
    ∧ (∀ u : Fin 8, s.tally.units[u].trips ≤ Config.countTop →
      t.tally.units[u] = { s.tally.units[u] with trips := min Config.countTop (s.tally.units[u].trips + trips u) })
    ∧ (∀ k : Fin 24, accountAt s k = none → accountAt t k = none)
    ∧ (∀ (k : Fin 24) (a : Account), accountAt s k = some a →
        (a.live.bind (·.bound) = none → accountAt t k = some a)
        ∧ (∀ (l : LiveFields) (u : Fin 8), a.live = some l → l.bound = some u → a.figures.trips ≤ Config.countTop →
            a.figures.equivalent ≤ Config.elapsedTop →
            let equivalent := min Config.elapsedTop (a.figures.equivalent + running u * perClass s.config.tripEquivalent l.cls)
            let service := serviceOf equivalent l
            (trips u = 0 → accountAt t k = some a)
            ∧ (0 < trips u →
              accountAt t k = some { a with
                figures := { a.figures with trips := min Config.countTop (a.figures.trips + trips u), equivalent := equivalent }
                live := some { l with service := service } }
              ∧ t.port.latched &&& serviceEvents l.service service = serviceEvents l.service service)))

/-- TEST_TRIP (R45, R46), by the first case that applies; the injection raises TRIP_NEW and is handed to the Trip Table as a TEST assertion. Model's choices: log 13. -/
def Obligations.TestTrip : Prop :=
  ∀ (h : Header) (i : Fin 2) (s : State), Taken h 1 i s →
    let z := s.pass h.dt
    (∀ line duration : Nat, 31 < line ∨ duration = 0 ∨ 600 < duration →
      Answers (.testTrip h line duration) s h 4 i .badField [] z)
    ∧ ∀ (line : Fin 32) (duration : Nat), 1 ≤ duration → duration ≤ 600 →
      if s.config.lines[line].enabled = false then Answers (.testTrip h line.val duration) s h 4 i .state [] z
      else if s.lines[line].test.isSome = true ∨ s.lines[line].phase ≠ .released ∨ s.trips.liveKind line = some .real then
        Answers (.testTrip h line.val duration) s h 4 i .busy [] z
      else
        let stamp := z.stamp
        let stop := min Config.elapsedTop (s.time.elapsed + duration)
        let u := withEvent .tripNew
          { z with
            lines := s.lines.set line { s.lines[line] with test := some ⟨stamp, stop⟩ }
            trips := s.trips.assertion s.config.lines s.time.generation ⟨line, .test, stamp, s.lineMode line, false⟩ }
        Answers (.testTrip h line.val duration) s h 4 i .ok (stamp.bytes ++ u40 stop) u

/-- The end of a test injection, by CANCEL_TEST (R48), by TEST_EXPIRY when the elapsed counter has reached its end second, or at the counted boundary that brings it there (R47): a TEST release dated now, and the injection removed. A CANCEL_TEST with no injection is refused with STATE. Model's choices: log 6, 13. -/
def Obligations.TestInjectionEnds : Prop :=
  (∀ (h : Header) (i : Fin 2) (s : State), Taken h 1 i s →
    let z := s.pass h.dt
    (∀ line : Nat, 31 < line → Answers (.cancelTest h line) s h 5 i .badField [] z)
    ∧ ∀ line : Fin 32,
      (s.lines[line].test = none → Answers (.cancelTest h line.val) s h 5 i .state [] z)
      ∧ (s.lines[line].test.isSome = true → Answers (.cancelTest h line.val) s h 5 i .ok z.stamp.bytes
          { z with lines := s.lines.set line { s.lines[line] with test := none }, trips := s.trips.releaseLine line z.stamp }))
  ∧ (∀ s : State, s.up = true → ∃ t, exec .testExpiry s = .next t ∧ t = { s with lines := t.lines, trips := t.trips }
      ∧ ∀ line : Fin 32, t.lines[line] = { s.lines[line] with
          test := s.lines[line].test.filter fun j => decide (s.time.elapsed < j.endSecond) })
  ∧ (∀ (s : State) (line : Fin 32) (j : TestInjection), s.up = true → s.lines[line].test = some j → j.endSecond ≤ s.time.elapsed →
      (∀ (k : Fin 32) (l : TestInjection), k ≠ line → s.lines[k].test = some l → s.time.elapsed < l.endSecond) →
      exec .testExpiry s = .next
        { s with lines := s.lines.set line { s.lines[line] with test := none }, trips := s.trips.releaseLine line s.stamp })
  ∧ (∀ (c : Instr) (s : State), s.up = true → CountsBoundary c s → ∃ t, exec c s = .next t
      ∧ (∀ line : Fin 32, t.lines[line] = { s.lines[line] with
          test := s.lines[line].test.filter fun j => decide (t.time.elapsed < j.endSecond) })
      ∧ (t.time.source = s.time.source → t.time.generation = s.time.generation →
          t.trips = (List.finRange 32).foldl (fun a i =>
            if s.lines[i].test.any fun j => decide (j.endSecond ≤ t.time.elapsed) then a.releaseLine i t.stamp else a) s.trips))

/-- What the Trip Table makes of a qualified assertion (R57, R58, R59, R60, R61, R62), and the place of a new pending entry: behind every entry that comes before it (R65). -/
def Obligations.AssertionIsTaken : Prop :=
  ∀ (lines : Vector LineConfig 32) (now : BitVec 8) (a : Assertion) (t : TripTable),
    (∀ (k : Fin 48) (r : TripRecord), t.liveSlot a.line = some k → t.slots[k] = some r →
      t.assertion lines now a = { t with slots := t.slots.set k (some { r with
        recurrences := upTo 255 r.recurrences, last := a.stamp, release := none, ack := none,
        kind := if r.kind = .test ∧ a.kind = .test then .test else .real, foundAtStart := r.foundAtStart || a.foundAtStart }) })
    ∧ (t.liveSlot a.line = none → (∃ e ∈ t.pendingList, e.line = a.line) →
      t.assertion lines now a = { t with pendingList := t.pendingList.map fun e => if e.line = a.line then { e with
        recurrences := upTo 255 e.recurrences, last := a.stamp, release := none,
        kind := if e.kind = .test ∧ a.kind = .test then .test else .real, foundAtStart := e.foundAtStart || a.foundAtStart } else e })
    ∧ (∀ k : Fin 48, t.liveSlot a.line = none → (∀ e ∈ t.pendingList, e.line ≠ a.line) → t.slots[k] = none →
        (∀ j : Fin 48, j < k → t.slots[j].isSome = true) →
      t.assertion lines now a = { t with
        slots := t.slots.set k (some
          { serial := t.serial, line := a.line, unit := lines[a.line].unit, group := lines[a.line].group, kind := a.kind, first := a.stamp,
            last := a.stamp, recurrences := 0, mode := a.mode, cause := none, ack := none, release := none, carried := 0,
            foundAtStart := a.foundAtStart })
        serial := t.serial + 1 })
    ∧ (t.liveSlot a.line = none → (∀ e ∈ t.pendingList, e.line ≠ a.line) → (∀ j : Fin 48, t.slots[j].isSome = true) →
        ∃ before after : List PendingEntry, ∃ e : PendingEntry,
          e = { line := a.line, kind := a.kind, first := a.stamp, last := a.stamp, recurrences := 0, mode := a.mode, release := none,
                carried := 0, foundAtStart := a.foundAtStart }
          ∧ t.pendingList = before ++ after ∧ t.assertion lines now a = { t with pendingList := before ++ e :: after }
          ∧ (∀ x ∈ after, entryBefore now x e = false) ∧ (∀ x, before.getLast? = some x → entryBefore now x e = true))
    ∧ (∀ x y : PendingEntry, entryBefore now x y = true ↔
        (now - y.first.generation).toNat < (now - x.first.generation).toNat
        ∨ (x.first.generation = y.first.generation ∧
          (x.first.seconds < y.first.seconds
          ∨ (x.first.seconds = y.first.seconds ∧ (x.first.millis < y.first.millis
            ∨ (x.first.millis = y.first.millis ∧ x.line < y.line))))))

/-- What the Trip Table makes of a qualified release (R63, R64): the live item's release stamp, and nothing without a live item. -/
def Obligations.ReleaseIsTaken : Prop :=
  ∀ (line : Fin 32) (stamp : Stamp) (s : State),
    let t := s.trips
    (∀ (k : Fin 48) (r : TripRecord), t.liveSlot line = some k → t.slots[k] = some r →
      s.takeRelease line stamp = { s with trips := { t with slots := t.slots.set k (some { r with release := some stamp }) } }
      ∧ (r.state = .active → ({ r with release := some stamp } : TripRecord).state = .cleared)
      ∧ (r.state = .acked → ({ r with release := some stamp } : TripRecord).state = .resolved)
      ∧ (r.state = .cleared → ({ r with release := some stamp } : TripRecord).state = .cleared))
    ∧ (t.liveSlot line = none → s.takeRelease line stamp = { s with trips := { t with
        pendingList := t.pendingList.map fun e => if e.line = line then { e with release := some stamp } else e } })
    ∧ (t.liveSlot line = none → (∀ e ∈ t.pendingList, e.line ≠ line) → s.takeRelease line stamp = s)

/-- ACKNOWLEDGE (R67, R68), by the first case that applies, and the crews that hold authority in each watch state (R143). Model's choices: log 13. -/
def Obligations.Acknowledge : Prop :=
  (∀ (h : Header) (i : Fin 2) (s : State), Taken h 2 i s →
     let z := s.pass h.dt
     (∀ slot serial : Nat, 47 < slot → Answers (.acknowledge h slot serial) s h 7 i .badField [] z)
     ∧ (∀ (k : Fin 48) (serial : Nat), s.trips.slots[k] = none → Answers (.acknowledge h k.val serial) s h 7 i .notFound [] z)
     ∧ (∀ (k : Fin 48) (serial : Nat) (r : TripRecord), s.trips.slots[k] = some r → r.serial.toNat ≠ serial →
         Answers (.acknowledge h k.val serial) s h 7 i .stale (r.bytes k.val) z)
     ∧ (∀ (slot serial : Nat) (k : Fin 48) (r : TripRecord), NamesTrip slot serial k r s →
         if s.watch.authority h.crew = false then Answers (.acknowledge h slot serial) s h 7 i .noAuthority (r.bytes k.val) z
         else if r.state = .acked ∨ r.state = .resolved then
           Answers (.acknowledge h slot serial) s h 7 i .state (r.bytes k.val) z
         else
           let after := { r with ack := some ⟨h.crew, z.stamp⟩ }
           Answers (.acknowledge h slot serial) s h 7 i .ok (after.bytes k.val) (withTrip k after z)
             ∧ (r.state = .active → after.state = .acked) ∧ (r.state = .cleared → after.state = .resolved)))
  ∧ (∀ (w : Watch) (crew : Fin 16), w.authority crew = true ↔
     crew ≠ 0 ∧ match w.state with
       | .noWatch => False
       | .onWatch => crew = w.crew
       | .opened => crew = w.crew
       | .signed => crew = w.crew ∨ crew = w.incoming)

/-- ASSIGN_CAUSE (R69), by the first case that applies. -/
def Obligations.AssignCause : Prop :=
  ∀ (h : Header) (i : Fin 2) (s : State), Taken h 2 i s →
    let z := s.pass h.dt
    (∀ slot serial cause : Nat, 47 < slot ∨ 999 < cause → ∃ body, Answers (.assignCause h slot serial cause) s h 8 i .badField body z)
    ∧ (∀ (k : Fin 48) (serial cause : Nat), cause ≤ 999 → s.trips.slots[k] = none →
        ∃ body, Answers (.assignCause h k.val serial cause) s h 8 i .notFound body z)
    ∧ (∀ (k : Fin 48) (serial cause : Nat) (r : TripRecord), cause ≤ 999 → s.trips.slots[k] = some r → r.serial.toNat ≠ serial →
        ∃ body, Answers (.assignCause h k.val serial cause) s h 8 i .stale body z)
    ∧ (∀ (slot serial cause : Nat) (k : Fin 48) (r : TripRecord), cause ≤ 999 → NamesTrip slot serial k r s →
        let after := { r with cause := if cause = 0 then none else some cause }
        Answers (.assignCause h slot serial cause) s h 8 i .ok (after.bytes k.val) (withTrip k after z))

/-- RETIRE_TRIP (R70) and the promotion of the oldest pending entry into the freed slot (R71). Model's choices: log 13, 14. -/
def Obligations.RetireTrip : Prop :=
  ∀ (h : Header) (i : Fin 2) (s : State), Taken h 2 i s →
    let z := s.pass h.dt
    (∀ slot serial : Nat, 47 < slot → Answers (.retireTrip h slot serial) s h 9 i .badField [] z)
    ∧ (∀ (k : Fin 48) (serial : Nat), s.trips.slots[k] = none → Answers (.retireTrip h k.val serial) s h 9 i .notFound [] z)
    ∧ (∀ (k : Fin 48) (serial : Nat) (r : TripRecord), s.trips.slots[k] = some r → r.serial.toNat ≠ serial →
        Answers (.retireTrip h k.val serial) s h 9 i .stale [] z)
    ∧ (∀ (slot serial : Nat) (k : Fin 48) (r : TripRecord), NamesTrip slot serial k r s →
        if r.state = .resolved ∨ (r.state = .cleared ∧ r.kind = .test) then
          (s.trips.pendingList = [] → Answers (.retireTrip h slot serial) s h 9 i .ok (r.bytes k.val ++ [0#8])
            { z with trips := { s.trips with slots := s.trips.slots.set k none } })
          ∧ (∀ (e : PendingEntry) (rest : List PendingEntry), s.trips.pendingList = e :: rest →
              Answers (.retireTrip h slot serial) s h 9 i .ok
                (r.bytes k.val ++ [1#8] ++ u8 k.val ++ u16 s.trips.serial.toNat ++ u8 e.line.val)
                { z with trips :=
                  { slots := s.trips.slots.set k (some
                      { serial := s.trips.serial, line := e.line, unit := s.config.lines[e.line].unit,
                        group := s.config.lines[e.line].group, kind := e.kind, first := e.first, last := e.last,
                        recurrences := e.recurrences, mode := e.mode, cause := none, ack := none, release := e.release,
                        carried := e.carried, foundAtStart := e.foundAtStart })
                    pendingList := rest, serial := s.trips.serial + 1 } })
        else Answers (.retireTrip h slot serial) s h 9 i .state [] z)

/-! ### Units and tallies -/

/-- One sample of the 40 inputs (R78, R79, R81, R82, R83, R85, R89, R90, R108, R109): what each unit becomes, and the start, change and closing it counts in its tally, or in the freeze side table during a freeze. Outside a freeze each account bound to a settled unit takes the start and the change with the equivalents of its class, and a BREAKER account the closing; the service state is evaluated at a closing and where the equivalent seconds changed. Other accounts stand. A unit tally or account that changes is marked, and one that stands, in a freeze too, is not (R87, R111). -/
def Obligations.ModeLineSample : Prop :=
  ∀ (dt : Nat) (lines : Vector UnitLines 8) (s : State), s.up = true →
    let n := s.config.modeCount
    let mode := fun u : Fin 8 => modeAfter n lines[u] s.units[u]
    let closed := fun u : Fin 8 =>
      (inputAfter n lines[u].breaker s.units[u].breaker).level == .on && !s.units[u].breakerClosed
    let started := fun u : Fin 8 => startOf s.units[u].mode (mode u)
    let changed := fun u : Fin 8 => changesMode s.units[u].mode (mode u)
    ∃ t, exec (.modeLineSample dt lines) s = .next t
      ∧ t = { s.pass dt with units := t.units, tally := t.tally, port := t.port } ∧ t.tally.freeze = s.tally.freeze
      ∧ MarksChanges s.tally t.tally
      ∧ (∀ u : Fin 8,
        let b := s.units[u]
        let g := inputAfter n lines[u].generate b.generate
        let p := inputAfter n lines[u].pump b.pump
        let c := inputAfter n lines[u].condense b.condense
        let r := inputAfter n lines[u].spin b.spin
        let k := inputAfter n lines[u].breaker b.breaker
        let known := g.level ≠ .unknown ∧ p.level ≠ .unknown ∧ c.level ≠ .unknown ∧ r.level ≠ .unknown ∧ k.level ≠ .unknown
        (b.settled = true ∨ known → t.units[u] = ⟨g, p, c, r, k, mode u, k.level == .on, true⟩)
        ∧ (b.settled = false → ¬ known → t.units[u] = ⟨g, p, c, r, k, b.mode, b.breakerClosed, false⟩)
        ∧ (b.settled = false → t.tally.units[u] = s.tally.units[u] ∧ t.tally.side[u] = s.tally.side[u])
        ∧ (b.settled = true → s.tally.freeze = false →
            let y := s.tally.units[u]
            t.tally.side[u] = s.tally.side[u]
            ∧ t.tally.units[u] = { y with
                starts := addOne (started u) y.starts, changes := countIf (changed u) y.changes
                closings := countIf (closed u) y.closings })
        ∧ (b.settled = true → s.tally.freeze = true →
            let y := s.tally.side[u]
            t.tally.units[u] = s.tally.units[u]
            ∧ t.tally.side[u] = { y with
                starts := addOne (started u) y.starts, changes := countIf (changed u) y.changes
                closings := countIf (closed u) y.closings }))
      ∧ (s.tally.freeze = true → t.tally.accounts = s.tally.accounts)
      ∧ (∀ k : Fin 24, accountAt s k = none → accountAt t k = none)
      ∧ (∀ (k : Fin 24) (a : Account), accountAt s k = some a →
        ((∀ (l : LiveFields) (u : Fin 8), a.live = some l → l.bound = some u → s.units[u].settled = false) → accountAt t k = some a)
        ∧ (∀ (l : LiveFields) (u : Fin 8), a.live = some l → l.bound = some u → s.units[u].settled = true → s.tally.freeze = false →
            a.figures.equivalent ≤ Config.elapsedTop →
            let breaks := closed u && decide (l.cls = .breaker)
            let gain := ((started u).map (perClassMode s.config.startEquivalent l.cls)).getD 0
              + (if changed u then perClass s.config.changeEquivalent l.cls else 0)
              + (if breaks then perClass s.config.closeEquivalent l.cls else 0)
            let equivalent := min Config.elapsedTop (a.figures.equivalent + gain)
            let service := if equivalent ≠ a.figures.equivalent ∨ breaks = true then serviceOf equivalent l else l.service
            accountAt t k = some { a with
              figures := { a.figures with
                starts := addOne (started u) a.figures.starts, changes := countIf (changed u) a.figures.changes
                closings := countIf breaks a.figures.closings, equivalent := equivalent }
              live := some { l with service := service } }
            ∧ t.port.latched &&& serviceEvents l.service service = serviceEvents l.service service))

/-- The second tick at every counted boundary, on XTAL, RC and REF, at the close of a window and at a good or completing pulse (R2 action 6, R88, R90, R107): each unit tally and its side table entry by the unit's state, and each account bound to a settled running unit, outside a freeze. A unit tally or account that changes is marked, and one held at its tops is not (R87, R111); where the tick begins a periodic walk, the walk takes its first capture over those marks (R126, R127). What else falls in a tick is in O27 (R47), O41 (R126) and O50 (R155, R34). Model's choices: log 6. -/
def Obligations.SecondTickAccrues : Prop :=
  ∀ (c : Instr) (s : State), s.up = true → CountsBoundary c s →
    ∃ t, exec c s = .next t ∧ t.units = s.units ∧ t.config = s.config ∧ t.tally.freeze = s.tally.freeze
      ∧ (∀ u : Fin 8,
        let b := s.units[u]
        let c := s.tally.units[u]
        let e := s.tally.side[u]
        (b.settled = true → ∀ m : RunMode, b.mode.running = some m →
          (s.tally.freeze = false → t.tally.units[u] = { c with run := c.run.add m 1 } ∧ t.tally.side[u] = e)
          ∧ (s.tally.freeze = true → t.tally.units[u] = c ∧ t.tally.side[u] = { e with run := e.run.add m 1 }))
        ∧ (b.settled = true → b.mode = .conflict →
          (s.tally.freeze = false → t.tally.units[u] = { c with conflict := satAdd Config.countTop c.conflict 1 } ∧ t.tally.side[u] = e)
          ∧ (s.tally.freeze = true → t.tally.units[u] = c
              ∧ t.tally.side[u] = { e with conflict := satAdd Config.countTop e.conflict 1 }))
        ∧ (b.settled = false → b.mode ≠ .stopped →
          t.tally.units[u] = { c with unobserved := satAdd Config.countTop c.unobserved 1 } ∧ t.tally.side[u] = e)
        ∧ (b.mode = .stopped → t.tally.units[u] = c ∧ t.tally.side[u] = e))
      ∧ (∀ (k : Fin 24) (a : Account) (l : LiveFields), accountAt s k = some a → a.live = some l →
        (∀ (u : Fin 8) (m : RunMode), l.bound = some u → s.units[u].settled = true → s.units[u].mode.running = some m →
          s.tally.freeze = false → a.figures.equivalent ≤ Config.elapsedTop →
          let parts := a.fraction + perClassMode s.config.runWeight l.cls m
          ∃ b : Account, accountAt t k = some b
            ∧ b.serial = a.serial
            ∧ b.figures = { a.figures with
                run := a.figures.run.add m 1, equivalent := min Config.elapsedTop (a.figures.equivalent + parts / 256) }
            ∧ b.fraction = parts % 256
            ∧ b.live = some { l with service := serviceOf b.figures.equivalent l }
            ∧ t.port.latched &&& serviceEvents l.service (serviceOf b.figures.equivalent l)
                = serviceEvents l.service (serviceOf b.figures.equivalent l))
        ∧ ((∀ u : Fin 8, l.bound = some u → s.units[u].settled = false ∨ ¬ Running s.units[u].mode ∨ s.tally.freeze = true) →
          accountAt t k = some a))
      ∧ (∀ (k : Fin 24) (a : Account), accountAt s k = some a → a.live = none → accountAt t k = some a)
      ∧ (∀ k : Fin 24, accountAt s k = none → accountAt t k = none)
      ∧ (StoreLaw s.store → ∃ y : Tally, MarksChanges s.tally y ∧ y.units = t.tally.units ∧ y.side = t.tally.side ∧ t.tally.serial = s.tally.serial
        ∧ (if 3600 ≤ s.store.periodic + 1 ∧ s.store.walk = .idle then NewWalk .walking .idle y (decide (s.store.holder = .none)) s t
          else t.tally = y))

/-- OPEN_ACCOUNT (R100, R101), by the first case that applies. Model's choices: log 13, 14. -/
def Obligations.OpenAccount : Prop :=
  ∀ (h : Header) (i : Fin 2) (s : State) (tag : List Byte) (cls interval margin : Nat) (initial : Option Figures), Taken h 1 i s →
    let z := s.pass h.dt
    let valid := tagValid tag = true ∧ cls ≤ 3 ∧ 1 ≤ interval ∧ interval ≤ 65535 ∧ margin ≤ 65535 ∧ initial.all Figures.inRange = true
    let answers := Answers (.openAccount h tag cls interval margin initial) s h 12 i
    (¬ valid → answers .badField [] z)
    ∧ (valid → (s.tally.tagSlot tag).isSome = true → answers .present [] z)
    ∧ (valid → s.tally.tagSlot tag = none → (∀ k : Fin 24, accountAt s k ≠ none) → answers .full [] z)
    ∧ (∀ (k : Fin 24) (c : AccountClass), valid → s.tally.tagSlot tag = none → accountAt s k = none →
        (∀ j : Fin 24, j < k → accountAt s j ≠ none) → c.code = cls →
        let f := initial.getD ⟨.zero, .zero, 0, 0, 0, 0⟩
        let due := min Config.elapsedTop (f.equivalent + 3600 * interval)
        let l : LiveFields := { tag := tag, cls := c, bound := none, interval := interval, margin := margin, nextDue := due, service := .normal }
        let service := serviceOf f.equivalent l
        let a : Account := { serial := s.tally.serial, figures := f, fraction := 0, live := some { l with service := service } }
        let u := { z with
          tally := { s.tally with accounts := s.tally.accounts.set k (.held a true), serial := s.tally.serial + 1 }
          port := { s.port with latched := s.port.latched ||| serviceEvents .normal service } }
        answers .ok (u8 k.val ++ u16 s.tally.serial.toNat ++ a.bytes k.val true) u)

/-- BIND (R103) and UNBIND (R104), by the first case that applies after the checks of R98; and those checks, which every request naming an account makes first (R98). Model's choices: log 13, 14. -/
def Obligations.BindAndUnbind : Prop :=
  (∀ (h : Header) (i : Fin 2) (s : State) (slot serial : Nat) (k : Fin 24) (a : Account) (d : Bool), Taken h 1 i s →
     NamesAccount slot serial k a d s →
     let z := s.pass h.dt
     let bindTo := fun position => Answers (.bind h slot serial position) s h 13 i
     let release := Answers (.unbind h slot serial) s h 14 i
     (∀ position : Nat, position = 0 ∨ 8 < position → bindTo position .badField [] z)
     ∧ (∀ u : Fin 8,
         match a.live with
         | none => bindTo (u.val + 1) .state [] z
         | some l =>
           let bound := { a with live := some { l with bound := some u } }
           if l.bound.isSome = true then bindTo (u.val + 1) .state [] z
           else if s.tally.freeze = true then bindTo (u.val + 1) .busy [] z
           else if (s.tally.boundSlot u l.cls).isSome = true then bindTo (u.val + 1) .classTaken [] z
           else if s.units[u].passes l.cls = false then bindTo (u.val + 1) .unitRunning [] z
           else bindTo (u.val + 1) .ok (bound.bytes k.val true) (withAccount k (.held bound true) z))
     ∧ (match a.live with
         | none => release .state [] z
         | some l =>
           let free := { a with live := some { l with bound := none } }
           match l.bound with
           | none => release .state [] z
           | some u =>
             if s.tally.freeze = true then release .busy [] z
             else if s.units[u].passes l.cls = false then release .unitRunning [] z
             else release .ok (free.bytes k.val true) (withAccount k (.held free true) z))
     ∧ (∀ (u : UnitTrack) (c : AccountClass), u.passes c = true ↔
         u.settled = true ∧ u.mode = .stopped ∧ (c = .breaker → u.breakerClosed = false)))
  ∧ (∀ (h : Header) (i : Fin 2) (s : State) (slot serial position : Nat) (f : Figures) (o : PresetOptions),
     let z := s.pass h.dt
     let all := fun (code : ReplyCode) =>
       (Taken h 1 i s → Answers (.bind h slot serial position) s h 13 i code [] z
         ∧ Answers (.unbind h slot serial) s h 14 i code [] z ∧ Answers (.serviceDone h slot serial) s h 17 i code [] z)
       ∧ (Taken h 0 i s → Answers (.preset h slot serial f o) s h 15 i code [] z
         ∧ Answers (.retireAccount h slot serial) s h 16 i code [] z)
     (23 < slot → all .badField)
     ∧ (∀ (k : Fin 24) (r : Bool), slot = k.val → s.tally.accounts[k] = .free r → all .notFound)
     ∧ (∀ (k : Fin 24) (a : Account) (d : Bool), slot = k.val → s.tally.accounts[k] = .held a d → a.serial.toNat ≠ serial → all .stale))

/-- PRESET (R114, R115), by the first case that applies after the checks of R98. Model's choices: log 13, 14. -/
def Obligations.Preset : Prop :=
  ∀ (h : Header) (i : Fin 2) (s : State) (slot serial : Nat) (k : Fin 24) (a : Account) (d : Bool) (f : Figures) (o : PresetOptions),
    Taken h 0 i s → NamesAccount slot serial k a d s →
    let z := s.pass h.dt
    let answers := Answers (.preset h slot serial f o) s h 15 i
    let ranged := f.inRange = true ∧ o.tag.all tagValid = true ∧ (∀ c, o.cls = some c → c ≤ 3)
      ∧ (∀ n, o.interval = some n → 1 ≤ n ∧ n ≤ 65535) ∧ (∀ n, o.margin = some n → n ≤ 65535)
      ∧ (∀ n, o.nextDue = some n → n ≤ Config.elapsedTop)
    let whole := a.live.isSome = true
      ∨ (o.tag.isSome = true ∧ o.cls.isSome = true ∧ o.interval.isSome = true ∧ o.margin.isSome = true)
    (¬(ranged ∧ whole) → answers .badField [] z)
    ∧ (ranged → whole → ∃ l : LiveFields,
        (∀ m, a.live = some m → l = { m with
            tag := o.tag.getD m.tag, cls := (o.cls.bind AccountClass.ofCode).getD m.cls, interval := o.interval.getD m.interval,
            margin := o.margin.getD m.margin, nextDue := o.nextDue.getD m.nextDue })
        ∧ (a.live = none → o.tag = some l.tag ∧ o.cls = some l.cls.code ∧ o.interval = some l.interval ∧ o.margin = some l.margin
            ∧ l.nextDue = o.nextDue.getD (min Config.elapsedTop (f.equivalent + 3600 * l.interval)) ∧ l.bound = none
            ∧ l.service = .normal)
        ∧ (if o.tag.any (s.tally.tagElsewhere k) = true then answers .present [] z
          else if (a.live.any fun m => m.bound.isSome && m.cls != l.cls) = true then answers .state [] z
          else if s.tally.freeze = true then answers .busy [] z
          else if (l.bound.any fun u => !s.units[u].passes l.cls) = true then answers .unitRunning [] z
          else
            let service := serviceOf f.equivalent l
            let b : Account := { serial := a.serial, figures := f, fraction := 0, live := some { l with service := service } }
            let u := withAccount k (.held b true) z
            answers .ok (b.bytes k.val true)
              { u with port := { u.port with latched := u.port.latched ||| serviceEvents l.service service } }))

/-- RETIRE_ACCOUNT (R102) and SERVICE_DONE (R113), by the first case that applies after the checks of R98. Model's choices: log 13, 14. -/
def Obligations.RetireAccountAndServiceDone : Prop :=
  ∀ (h : Header) (i : Fin 2) (s : State) (slot serial : Nat) (k : Fin 24) (a : Account) (d : Bool), NamesAccount slot serial k a d s →
    let z := s.pass h.dt
    (Taken h 0 i s →
      (if (a.live.bind (·.bound)).isSome = true then Answers (.retireAccount h slot serial) s h 16 i .state [] z
      else Answers (.retireAccount h slot serial) s h 16 i .ok (a.bytes k.val d) (withAccount k (.free true) z)))
    ∧ (Taken h 1 i s →
      (a.live = none → Answers (.serviceDone h slot serial) s h 17 i .state [] z)
      ∧ ∀ l : LiveFields, a.live = some l →
        let l1 := { l with nextDue := min Config.elapsedTop (a.figures.equivalent + 3600 * l.interval) }
        let service := serviceOf a.figures.equivalent l1
        let b := { a with live := some { l1 with service := service } }
        let u := withAccount k (.held b true) z
        Answers (.serviceDone h slot serial) s h 17 i .ok (b.bytes k.val true)
          { u with port := { u.port with latched := u.port.latched ||| serviceEvents l.service service } })

/-- Service states (R112): the first row that applies, and the conditions a rise raises. -/
def Obligations.ServiceStates : Prop :=
  (∀ (equivalent : Nat) (l : LiveFields),
    (l.nextDue ≤ equivalent → serviceOf equivalent l = .due)
    ∧ (equivalent < l.nextDue → l.nextDue ≤ equivalent + 3600 * l.margin → serviceOf equivalent l = .warn)
    ∧ (equivalent < l.nextDue → equivalent + 3600 * l.margin < l.nextDue → serviceOf equivalent l = .normal))
  ∧ serviceEvents .normal .warn = Event.serviceWarn.bit
  ∧ serviceEvents .warn .due = Event.serviceDue.bit
  ∧ serviceEvents .normal .due = Event.serviceWarn.bit ||| Event.serviceDue.bit
  ∧ (∀ a b : Service, b.code ≤ a.code → serviceEvents a b = 0#32)
  ∧ (∀ (a : Account) (l : LiveFields), a.live = some l →
      a.evaluate = ({ a with live := some { l with service := serviceOf a.figures.equivalent l } },
        serviceEvents l.service (serviceOf a.figures.equivalent l)))

/-- The power-fail warning (R116, R132) and its withdrawal (R117, R133): the freeze begins with the final walk over the marks as they stand; at its end each unit's side entry is credited to its tally, marked where it changes (R87), and to each account bound to the unit, whose mark is set and service state evaluated once (R117), the table is cleared, and FINAL goes on as WALKING or HELD becomes IDLE. Other account slots stand. Crediting s seconds at a weight leaves the same equivalent seconds and fraction as s ticks of R107 (R117). Model's choices: log 12, 21. -/
def Obligations.PowerFailFreeze : Prop :=
  ((∀ (dt : Nat) (s : State), s.up = true → s.tally.freeze = false →
     ∃ t, exec (.powerFailWarning dt) s = .next t
       ∧ t = { s.pass dt with pins := { s.pins with warningLine := true }, tally := t.tally, store := t.store }
       ∧ t.tally.freeze = true ∧ t.tally.units = s.tally.units ∧ t.tally.side = s.tally.side ∧ (∀ k : Fin 24, accountAt t k = accountAt s k)
       ∧ t.store.images = s.store.images ∧ t.store.periodic = s.store.periodic
       ∧ (s.store.holder ≠ .none → s.store.walk ≠ .final → s.store.walk ≠ .held →
           t.store = { s.store with finalDue := true } ∧ t.tally = { s.tally with freeze := true })
       ∧ (s.store.walk = .final ∨ s.store.walk = .held → t.store = s.store ∧ t.tally = { s.tally with freeze := true })
       ∧ (s.store.holder = .none → s.store.walk ≠ .final → s.store.walk ≠ .held →
           NewWalk .final .held { s.tally with freeze := true } true s t)
       ∧ (s.store.holder = .none → s.store.walk ≠ .final → s.store.walk ≠ .held →
           t.store.number = s.store.sequence ∧ t.store.sequence = upTo Config.countTop s.store.sequence ∧ t.store.again = false
             ∧ ((∀ i : Fin 32, s.tally.marked i = false) → t.store.walk = .held ∧ t.store.write = none)
             ∧ (∀ i : Fin 32, s.tally.marked i = true → (∀ j : Fin 32, j < i → s.tally.marked j = false) →
                 t.store.walk = .final ∧ t.store.index = i
                   ∧ t.store.write = some ⟨i, false, s.store.sequence, s.tally.contents i⟩ ∧ t.tally.marked i = false)))
   ∧ (∀ (dt : Nat) (s : State), s.up = true → s.tally.freeze = true →
     ∃ t, exec (.warningReleased dt) s = .next t
       ∧ t = { s.pass dt with pins := { s.pins with warningLine := false }, tally := t.tally, store := t.store, port := t.port }
       ∧ t.tally.freeze = false ∧ t.tally.side = Vector.replicate 8 .zero
       ∧ t.store = { s.store with walk :=
           if s.store.walk = .final then .walking else if s.store.walk = .held then .idle else s.store.walk }
       ∧ (∀ u : Fin 8, t.tally.dirty[u] = (s.tally.dirty[u] || decide (t.tally.units[u] ≠ s.tally.units[u])))
       ∧ (∀ u : Fin 8,
         let e := s.tally.side[u]
         let c := s.tally.units[u]
         t.tally.units[u] = { c with
           run := c.run.addAll e.run, starts := c.starts.addAll e.starts, changes := satAdd Config.countTop c.changes e.changes
           conflict := satAdd Config.countTop c.conflict e.conflict, closings := satAdd Config.countTop c.closings e.closings })
       ∧ (∀ k : Fin 24, ((accountAt s k).bind (·.live)).bind (·.bound) = none → t.tally.accounts[k] = s.tally.accounts[k])
       ∧ (∀ (k : Fin 24) (a : Account) (l : LiveFields) (u : Fin 8), accountAt s k = some a → a.live = some l → l.bound = some u →
         a.figures.equivalent ≤ Config.elapsedTop →
         let e := s.tally.side[u]
         let f := a.figures
         let closings := if l.cls = .breaker then e.closings else 0
         let parts := a.fraction + sumOver s.config.runWeight l.cls e.run
         let equivalent := min Config.elapsedTop (f.equivalent + parts / 256 + sumOver s.config.startEquivalent l.cls e.starts
           + perClass s.config.changeEquivalent l.cls * e.changes + perClass s.config.closeEquivalent l.cls * closings)
         let service := serviceOf equivalent l
         t.tally.accounts[k] = .held { a with
           figures := { f with
             run := f.run.addAll e.run, starts := f.starts.addAll e.starts, changes := satAdd Config.countTop f.changes e.changes
             closings := satAdd Config.countTop f.closings closings, equivalent := equivalent }
           fraction := parts % 256
           live := some { l with service := service } } true
         ∧ t.port.latched &&& serviceEvents l.service service = serviceEvents l.service service)))
  ∧ (∀ (a : Account) (w n : Nat), a.fraction < 256 → (Nat.iterate (Account.earnParts w) n a) = a.earnParts (w * n))

/-! ### The tally store and the configuration -/

/-- CHECKPOINT (R131) and the triggers of R126: in IDLE a walk begins with the next number and captures the first marked image when the port is free, or ends at once with none marked, and the walk index 0 that the reply then shows is the model's choice (log 33), and the periodic trigger does the same; in WALKING the walk-again mark is set; in FINAL and HELD CHECKPOINT is BUSY. The periodic trigger, as a command of its own and at the counted boundary that brings the count to 3,600, brings the count back to 0; at every other counted boundary the count rises by one. Last, what marks a record and what a capture takes and clears (R125, R127). Model's choices: log 6, 13, 33. -/
def Obligations.CheckpointTriggers : Prop :=
  ((∀ (h : Header) (i : Fin 2) (s : State), Taken h 2 i s →
     let z := s.pass h.dt
     let body := fun u : State => u8 u.store.walk.code ++ u32 u.store.number ++ u8 u.store.index.val ++ flag u.store.again
     let again := { z with store := { s.store with again := true } }
     let fresh := { s.store with number := s.store.sequence, sequence := upTo Config.countTop s.store.sequence, index := 0, again := false }
     (s.store.walk = .final ∨ s.store.walk = .held → Answers (.checkpoint h) s h 19 i .busy [] z)
     ∧ (s.store.walk = .walking → Answers (.checkpoint h) s h 19 i .accepted (body again) again)
     ∧ (s.store.walk = .idle → (∀ j : Fin 32, s.tally.marked j = false) →
         let u := { z with store := { fresh with walk := .idle } }
         Answers (.checkpoint h) s h 19 i .accepted (body u) u)
     ∧ (∀ j : Fin 32, s.store.walk = .idle → s.tally.marked j = true → (∀ k : Fin 32, k < j → s.tally.marked k = false) →
         let u := if s.store.holder = .none then
             { z with
               tally := s.tally.setMark false j
               store := { fresh with
                 walk := .walking, index := j, write := some ⟨j, false, s.store.sequence, s.tally.contents j⟩ } }
           else { z with store := { fresh with walk := .walking, index := j } }
         Answers (.checkpoint h) s h 19 i .accepted (body u) u))
   ∧ (∀ s : State, s.up = true → 3600 ≤ s.store.periodic + 1 →
     let z := { s with store := { s.store with periodic := 0 } }
     (s.store.walk = .final ∨ s.store.walk = .held → exec .periodicTrigger s = .next z)
     ∧ (s.store.walk = .walking → exec .periodicTrigger s = .next { z with store := { z.store with again := true } })
     ∧ (s.store.walk = .idle → ∃ t, exec .periodicTrigger s = .next t ∧ t = { s with tally := t.tally, store := t.store }
         ∧ t.store = { s.store with
             periodic := 0, number := s.store.sequence, sequence := upTo Config.countTop s.store.sequence, again := false
             walk := t.store.walk, index := t.store.index, write := t.store.write }
         ∧ (NoneMarked s.tally 0 → t.store.index = 0)
         ∧ (StoreLaw s.store → NewWalk .walking .idle s.tally (decide (s.store.holder = .none)) s t)))
   ∧ (∀ (c : Instr) (s : State), s.up = true → CountsBoundary c s → ∃ t, exec c s = .next t
     ∧ (s.store.periodic + 1 < 3600 → t.store = { s.store with periodic := s.store.periodic + 1 })
     ∧ (3600 ≤ s.store.periodic + 1 →
        (s.store.walk = .final ∨ s.store.walk = .held → t.store = { s.store with periodic := 0 })
        ∧ (s.store.walk = .walking → t.store = { s.store with periodic := 0, again := true })
        ∧ (s.store.walk = .idle → t.store.periodic = 0 ∧ t.store.number = s.store.sequence
            ∧ t.store.sequence = upTo Config.countTop s.store.sequence ∧ t.store.again = false))))
  ∧ (∀ (t : Tally) (b : Bool),
     (∀ u : Fin 8, t.marked (unitImage u) = t.dirty[u] ∧ t.contents (unitImage u) = .unit t.units[u]
       ∧ t.setMark b (unitImage u) = { t with dirty := t.dirty.set u b })
     ∧ (∀ (k : Fin 24) (a : Account) (d : Bool), t.accounts[k] = .held a d →
         t.marked (accountImage k) = d ∧ t.contents (accountImage k) = .account a
         ∧ t.setMark b (accountImage k) = { t with accounts := t.accounts.set k (.held a b) })
     ∧ (∀ (k : Fin 24) (r : Bool), t.accounts[k] = .free r →
         t.marked (accountImage k) = r ∧ t.contents (accountImage k) = .empty
         ∧ t.setMark b (accountImage k) = { t with accounts := t.accounts.set k (.free b) }))

/-- IMAGE_WRITE_END (R129, R130): a match makes the image OK with the captured contents and a fresh check code; a first mismatch makes the write again with the same contents; a second makes the image FAILED and marks the record again. When the write has ended the port is returned: a waiting configuration write is granted ahead of the walk's next image, but in FINAL only at the walk's end (R134); the walk goes on to the next marked image, begins again where the walk-again mark is set, or ends in IDLE or HELD (R128); a final walk that is due begins, in FINAL also where the warning has been released meanwhile (R132), and then ends in IDLE (R128). Model's choices: log 7, 8, 12. -/
def Obligations.ImageWriteEnds : Prop :=
  ∀ (dt : Nat) (s : State) (w : ImageWrite), s.up = true → s.store.write = some w →
    let z := s.pass dt
    (∃ t, exec (.imageWriteEnd dt .matched) s = .next t ∧ t = { z with tally := t.tally, store := t.store }
      ∧ t.store.images = s.store.images.set w.image ⟨w.number, w.content, crc16 (imageBytes w.number w.content)⟩
      ∧ t.store.failed = s.store.failed.set w.image false ∧ t.store.numbers = s.store.numbers.set w.image (some w.number)
      ∧ t.tally.units = s.tally.units ∧ (∀ k : Fin 24, accountAt t k = accountAt s k))
    ∧ (∀ kept : Image, w.second = false → exec (.imageWriteEnd dt (.mismatched kept)) s = .next
        { z with store := { s.store with images := s.store.images.set w.image kept, write := some { w with second := true } } })
    ∧ (∀ kept : Image, w.second = true →
      ∃ t, exec (.imageWriteEnd dt (.mismatched kept)) s = .next t ∧ t = { z with tally := t.tally, store := t.store }
        ∧ t.store.images = s.store.images.set w.image kept ∧ t.store.failed = s.store.failed.set w.image true
        ∧ t.store.numbers = s.store.numbers.set w.image none
        ∧ t.tally.units = s.tally.units ∧ (∀ k : Fin 24, accountAt t k = accountAt s k)
        ∧ (s.store.walk = .walking → s.store.again = false → s.store.finalDue = false → t.tally.marked w.image = true))
    ∧ (StoreLaw s.store → ∀ (verify : ImageVerify) (y : Tally),
        (verify = .matched ∧ y = s.tally
          ∨ (∃ kept, verify = .mismatched kept) ∧ w.second = true ∧ y = s.tally.setMark true w.image) →
        let waiting := s.store.configWrite == some .waiting
        ∃ t, exec (.imageWriteEnd dt verify) s = .next t ∧ PortReturned (w.image.val + 1) y (!waiting) s t
          ∧ t.store.configWrite = (if waiting && t.store.walk != .final then some (.writing false ⟨s.config, crc16 s.config.bytes⟩)
              else s.store.configWrite))
    ∧ (s.store.configWrite = none → s.store.finalDue = false → s.store.again = false → s.store.walk = .walking →
      ((∀ j : Fin 32, w.image < j → s.tally.marked j = false) → ∃ t, exec (.imageWriteEnd dt .matched) s = .next t
        ∧ t.store.walk = .idle ∧ t.store.write = none ∧ t.tally = s.tally)
      ∧ ∀ j : Fin 32, w.image < j → s.tally.marked j = true → (∀ k : Fin 32, w.image < k → k < j → s.tally.marked k = false) →
        ∃ t, exec (.imageWriteEnd dt .matched) s = .next t ∧ t.store.walk = .walking ∧ t.store.index = j
          ∧ t.store.write = some ⟨j, false, s.store.number, s.tally.contents j⟩ ∧ t.tally = s.tally.setMark false j)

/-- CONFIGURE (R175) and SET_ROSTER_SLOT (R141, R175): refusals in their order, and a change that is taken: in force at once, its reply slot reserved and the other left, the write granted at once when the port is free (R134). A line disabled or enabled drops its run and, enabled anew, starts RELEASED (R38, log 23); a new slew step keeps the reading made in the second (R36, log 9); a new local offset presents a minute event, which the watch takes (R36, R34). Last, the items of 10 section 10.1: indices, ranges, factory defaults, the field each names, and that a change of one leaves every other and the roster. Model's choices: log 9, 13, 23. -/
def Obligations.ConfigurationIsTaken : Prop :=
  ∀ (h : Header) (i : Fin 2) (s : State),
    let z := s.pass h.dt
    let asked := fun u : State =>
      if s.store.holder = .none ∧ s.store.walk ≠ .final then some (ConfigWrite.writing false ⟨u.config, crc16 u.config.bytes⟩)
      else some .waiting
    (Taken h 0 i s → ∀ (code index : Nat) (value : Int),
      let bad := index ≥ itemIndices code ∨ itemInRange code value = false
        ∨ (code = 1 ∧ ∀ q : Fin 4, (itemSet s.config 1 index value).levels[q] ≠ 0)
      (bad → Answers (.configure h code index value) s h 32 i .badField [] z)
      ∧ (¬ bad → s.scannerRefuses code index value = true ∨ s.store.configWrite.isSome = true →
          Answers (.configure h code index value) s h 32 i .busy [] z)
      ∧ (¬ bad → s.scannerRefuses code index value = false → s.store.configWrite = none →
        ∃ t, exec (.configure h code index value) s = .next t
          ∧ t = { z with config := t.config, time := t.time, lines := t.lines, store := t.store, watch := t.watch, port := t.port }
          ∧ t.port.mask = s.port.mask ∧ t.port.lastStart = s.port.lastStart ∧ t.port.dataOut = s.port.dataOut
          ∧ t.config = itemSet s.config code index value ∧ itemGet t.config code index = value
          ∧ t.port.slots[i] = .reserved ⟨h.requester, h.tag, 32⟩
          ∧ t.store = { s.store with configWrite := asked t }
          ∧ (code ≠ 1 → t.port.levels = s.port.levels) ∧ (code = 1 → t.port.levels = t.config.levels)
          ∧ (code ≠ 2 → t.lines = s.lines) ∧ (code ≠ 21 → t.watch = s.watch ∧ t.port.latched = s.port.latched)
          ∧ (code ≠ 20 → code ≠ 21 → t.time = z.time)
          ∧ (code = 21 → t.time = { z.time with lastPresented := some t.localTime })
          ∧ (∀ line : Fin 32, code = 2 → index = line.val →
              let l := s.lines[line]
              let still := { l with run := 0, held := none, heldMode := none, firstRun := false }
              t.lines = s.lines.set line (if value = 0 then still else if s.config.lines[line].enabled then l
                else { still with phase := .released, startLook := false }))
          ∧ (code = 20 → t.time = { z.time with readFloor := some (z.time.reading s.config.slewStep) })
          ∧ (code = 21 → let taken := ({ z with config := t.config, time := t.time } : State).takeMinute t.localTime
              t.watch = taken.watch ∧ t.port.latched = taken.port.latched)
          ∧ (∀ j : Fin 2, j ≠ i → t.port.slots[j] = s.port.slots[j]) ∧ t.port.nextOrder = s.port.nextOrder))
    ∧ (Taken h 1 i s → ∀ slot start crew window warning : Nat,
      let valid := slot ≤ 5 ∧ start ≤ 1439 ∧ crew ≤ 15 ∧ 5 ≤ window ∧ window ≤ 240 ∧ warning ≤ window
      (¬ valid → Answers (.setRosterSlot h slot start crew window warning) s h 21 i .badField [] z)
      ∧ (valid → s.store.configWrite.isSome = true →
          Answers (.setRosterSlot h slot start crew window warning) s h 21 i .busy [] z)
      ∧ (∀ k : Fin 6, k.val = slot → valid → s.store.configWrite = none →
        ∃ t, exec (.setRosterSlot h slot start crew window warning) s = .next t
          ∧ t = { z with config := t.config, store := t.store, port := t.port }
          ∧ t.config = { s.config with roster := s.config.roster.set k ⟨start, Fin.ofNat 16 crew, window, warning⟩ }
          ∧ t.store = { s.store with configWrite := asked t }
          ∧ t.port = { s.port with slots := s.port.slots.set i (.reserved ⟨h.requester, h.tag, 21⟩) }))
    ∧ (∀ (code index : Nat) (value : Int), s.scannerRefuses code index value = true ↔
        ∃ line : Fin 32, line.val = index ∧ ((code = 2 ∧ value = 0) ∨ code = 3 ∨ code = 4)
          ∧ (s.lines[line].phase ≠ .released ∨ (s.trips.liveKind line).isSome = true))
    ∧ ItemLaws

/-- CONFIG_WRITE_END (R135, R175, R176): a match stores the image, places OK and takes the fault flag back; a second mismatch places STORE_ERROR and sets the flag; a first mismatch writes the same contents again. When the write has ended the port is returned: a walk that waited captures the record at its index as it stands then (R134), a final walk that is due begins, in FINAL also where the warning has been released meanwhile (R132), and with no walk in flight nothing follows. CHECK_CONFIG (R177) compares the stored check code with the codes computed over image and live configuration, and a difference sets the flag. Model's choices: log 8, 12, 13, 14. -/
def Obligations.ConfigurationWriteEndsAndCheck : Prop :=
  (∀ (dt : Nat) (s : State) (second : Bool) (image : ConfigImage), s.up = true → s.store.configWrite = some (.writing second image) →
     let z := s.pass dt
     (∀ kept : ConfigImage, second = false → exec (.configWriteEnd dt (.mismatched kept)) s = .next
       { z with store := { s.store with configImage := kept, configWrite := some (.writing true image) } })
     ∧ (∀ (i : Fin 2) (head : ReplyHead), s.port.slots[i] = .reserved head → (∀ j : Fin 2, j < i → ∀ g, s.port.slots[j] ≠ .reserved g) →
       (∃ t, exec (.configWriteEnd dt .matched) s = .next t ∧ t = { z with tally := t.tally, store := t.store, port := t.port }
         ∧ t.port = (z.place i ⟨head, .ok, []⟩).port
         ∧ t.store.configImage = image ∧ t.store.configFault = false ∧ t.store.configWrite = none
         ∧ t.store.images = s.store.images ∧ t.store.failed = s.store.failed)
       ∧ (∀ kept : ConfigImage, second = true →
         ∃ t, exec (.configWriteEnd dt (.mismatched kept)) s = .next t ∧ t = { z with tally := t.tally, store := t.store, port := t.port }
           ∧ t.port = (z.place i ⟨head, .storeError, []⟩).port
           ∧ t.store.configImage = kept ∧ t.store.configFault = true ∧ t.store.configWrite = none
           ∧ t.store.images = s.store.images ∧ t.store.failed = s.store.failed ∧ t.config = s.config))
     ∧ (StoreLaw s.store → ∀ verify : ConfigVerify, (verify = .matched ∨ (∃ kept, verify = .mismatched kept) ∧ second = true) →
       ∃ t, exec (.configWriteEnd dt verify) s = .next t ∧ PortReturned s.store.index.val s.tally true s t
         ∧ (s.store.finalDue = false → s.store.walk = .idle ∨ s.store.walk = .held →
             t.store.walk = s.store.walk ∧ t.store.write = none ∧ t.tally = s.tally)))
  ∧ (∀ (h : Header) (i : Fin 2) (s : State), Taken h 0 i s →
     let z := s.pass h.dt
     let stored := s.store.configImage.code
     let ofImage := crc16 s.store.configImage.items.bytes
     let ofLive := crc16 s.config.bytes
     (s.store.configWrite.isSome = true → Answers (.checkConfig h) s h 32 i .busy [] z)
     ∧ (s.store.configWrite = none → Answers (.checkConfig h) s h 32 i .ok
         (u16 stored.toNat ++ u16 ofImage.toNat ++ u16 ofLive.toNat ++ flag (stored == ofImage) ++ flag (stored == ofLive))
         { z with store := { s.store with configFault := s.store.configFault || stored != ofImage || stored != ofLive } }))

/-! ### The watch -/

/-- START_HANDOVER (R148) and the opening of a handover (R147). Model's choices: log 14. -/
def Obligations.StartHandover : Prop :=
  ∀ (h : Header) (i : Fin 2) (s : State), Taken h 1 i s →
    let z := s.pass h.dt
    let w := s.watch
    if h.crew = 0 then Answers (.startHandover h) s h 22 i .badField w.bytes z
    else if w.state = .noWatch then Answers (.startHandover h) s h 22 i .state w.bytes z
    else if w.state = .opened ∨ w.state = .signed then Answers (.startHandover h) s h 22 i .busy w.bytes z
    else if h.crew = w.crew then Answers (.startHandover h) s h 22 i .redundant w.bytes z
    else
      let opened := { w with
        state := .opened, incoming := h.crew, origin := some .unscheduled, window := some s.config.defaultWindow
        openedAt := some s.time.elapsed
        windowDeadline := some (min Config.elapsedTop (s.time.elapsed + 60 * s.config.defaultWindow))
        warningDeadline := none, overdue := false }
      Answers (.startHandover h) s h 22 i .ok opened.bytes (withEvent .handoverOpened { z with watch := opened })

/-- A slot start (R144, R145, R146): what a used slot whose minute has passed on a new day does in each watch state. A minute event with time set no does nothing; otherwise it tries the slots once each, earlier start minute first and lower number first among equals (R144). -/
def Obligations.SlotStarts : Prop :=
  (∀ (i : Fin 6) (t : LocalTime) (s : State), s.up = true →
     let r := s.config.roster[i]
     let starts := r.crew ≠ 0 ∧ r.start ≤ t.minute ∧ ∀ d, s.watch.lastOpened[i] = some d → d < t.day
     let day := { s.watch with lastOpened := s.watch.lastOpened.set i (some t.day) }
     let deadline := min Config.elapsedTop (s.time.elapsed + 60 * r.window)
     (¬ starts → s.trySlot t i = s)
     ∧ (starts → s.watch.state = .noWatch → s.trySlot t i = { s with watch := { day with lastOutcome := some ⟨i, t.day, .consumed⟩ } })
     ∧ (starts → s.watch.state = .onWatch → r.crew = s.watch.crew →
         s.trySlot t i = { s with watch := { day with lastOutcome := some ⟨i, t.day, .continued⟩ } })
     ∧ (starts → s.watch.state = .onWatch → r.crew ≠ s.watch.crew →
         s.trySlot t i = withEvent .handoverOpened { s with watch := { day with
           state := .opened, incoming := r.crew, origin := some (.slot i), window := some r.window, openedAt := some s.time.elapsed
           windowDeadline := some deadline, warningDeadline := if r.warning = 0 then none else some (deadline - 60 * r.warning)
           overdue := false, lastOutcome := some ⟨i, t.day, .opened⟩ } })
     ∧ (starts → s.watch.state = .opened ∨ s.watch.state = .signed → s.watch.pendingSlot = none →
         s.trySlot t i = { s with watch := { day with pendingSlot := some i, lastOutcome := some ⟨i, t.day, .pending⟩ } })
     ∧ (starts → s.watch.state = .opened ∨ s.watch.state = .signed → s.watch.pendingSlot.isSome = true →
         s.trySlot t i = withEvent .slotMissed { s with watch := { day with
           pendingSlot := some i, missed := upTo 255 s.watch.missed, lastOutcome := some ⟨i, t.day, .pending⟩ } }))
  ∧ (∀ (t : LocalTime) (s : State),
     (s.time.timeSet = false → s.takeMinute t = s)
     ∧ (s.time.timeSet = true → ∃ order : List (Fin 6), order.Nodup ∧ order.length = 6
         ∧ order.Pairwise (fun a b => s.config.roster[a].start < s.config.roster[b].start
             ∨ (s.config.roster[a].start = s.config.roster[b].start ∧ a < b))
         ∧ s.takeMinute t = order.foldl (fun a i => a.trySlot t i) s))

/-- SIGN_ON (R149), with the shift boundary of a watch taken from NO_WATCH and its checkpoint trigger (R152, R126). Model's choices: log 14. -/
def Obligations.SignOn : Prop :=
  ∀ (h : Header) (i : Fin 2) (s : State), Taken h 2 i s →
    let z := s.pass h.dt
    let w := s.watch
    let answers := Answers (.signOn h) s h 23 i
    (h.crew ≠ 0 → w.state = .noWatch → ∃ t, exec (.signOn h) s = .next t ∧ Triggered s t
      ∧ t = { z with watch := t.watch, tally := t.tally, store := t.store, port := t.port })
    ∧ if h.crew = 0 then answers .badField w.bytes z
    else match w.state with
      | .onWatch | .signed => answers .state w.bytes z
      | .opened =>
        if h.crew = w.incoming then
          answers .ok ({ w with state := .signed } : Watch).bytes { z with watch := { w with state := .signed } }
        else if h.crew ≠ w.crew ∧ s.port.levels[h.requester].val ≤ 1 then
          answers .ok ({ w with state := .signed, incoming := h.crew } : Watch).bytes
            { z with watch := { w with state := .signed, incoming := h.crew } }
        else answers .wrongCrew w.bytes z
      | .noWatch =>
        let taken := { w with
          crew := h.crew, state := .onWatch
          previous := some { number := w.shift, crew := 0, start := w.shiftStart, stop := z.stamp,
                             deltas := Vector.ofFn fun u : Fin 8 => s.tally.units[u].minus w.baseline[u] }
          baseline := s.tally.units, shift := upTo Config.countTop w.shift, shiftStart := z.stamp }
        answers .ok taken.bytes ({ z with watch := taken } : State).trigger

/-- RELEASE (R150), and the completion (R151, R152): the shift boundary with its checkpoint trigger (R126), and the end of the handover, at which a held step is applied with STEP_APPLIED and the pending slot handled (R154); carries (R72, R73): each unresolved item's carried count rises by one, held at 15, nothing else of the table changes, and the counts answered to the Watch Controller stand. Model's choices: log 1, 13, 14, 22. -/
def Obligations.ReleaseTheWatch : Prop :=
  (∀ (h : Header) (carry : Bool) (i : Fin 2) (s : State), Taken h 2 i s →
     let z := s.pass h.dt
     let w := s.watch
     let answers := Answers (.release h carry) s h 24 i
     let counts := fun marked : Bool => u8 s.trips.unresolved ++ u8 s.trips.pendingCount ++ flag marked
     if w.state = .noWatch ∨ w.state = .onWatch then answers .state [] z
     else if h.crew ≠ w.crew then answers .noAuthority [] z
     else if w.state = .opened then answers .incomingAbsent [] z
     else if s.trips.unresolved ≠ 0 ∧ carry = false then answers .unresolved (counts false) z
     else
       let marked := decide (s.trips.unresolved ≠ 0)
       let previous : PreviousShift :=
         { number := w.shift, crew := w.crew, start := w.shiftStart, stop := z.stamp,
           deltas := Vector.ofFn fun u : Fin 8 => s.tally.units[u].minus w.baseline[u] }
       ∃ t, exec (.release h carry) s = .next t
         ∧ t = { z with time := t.time, trips := t.trips, tally := t.tally, store := t.store, watch := t.watch, port := t.port }
         ∧ t.store.images = s.store.images ∧ t.store.configImage = s.store.configImage
         ∧ t.trips = (if marked then s.trips.markCarries else s.trips)
         ∧ t.watch.previous = some previous ∧ t.watch.baseline = s.tally.units ∧ t.watch.shift = upTo Config.countTop w.shift
         ∧ t.watch.shiftStart = z.stamp ∧ t.watch.crew = w.incoming
         ∧ t.tally.units = s.tally.units ∧ (∀ k : Fin 24, accountAt t k = accountAt s k)
         ∧ t.port.slots[i] = .waiting s.port.nextOrder (reply h 24 .ok
             (counts marked ++ u32 t.watch.shift ++ previous.header))
         ∧ (∀ off : Int, s.time.pendingStep = some off →
             t.time.generation = s.time.generation + 1 ∧ t.time.timeSet = true ∧ t.time.pendingStep = none)
         ∧ (s.time.pendingStep = none → t.time = z.time)
         ∧ Triggered s t
         ∧ HandoverEnds { w with
             state := .onWatch, crew := w.incoming, incoming := 0, origin := none, window := none, openedAt := none
             warningDeadline := none, windowDeadline := none, overdue := false, previous := some previous
             baseline := s.tally.units, shift := upTo Config.countTop w.shift, shiftStart := z.stamp } z t
         ∧ (s.time.pendingStep = none → w.pendingSlot = none →
             t.watch = { w with
               state := .onWatch, crew := w.incoming, incoming := 0, origin := none, window := none, openedAt := none
               warningDeadline := none, windowDeadline := none, overdue := false, previous := some previous
               baseline := s.tally.units, shift := upTo Config.countTop w.shift, shiftStart := z.stamp }
             ∧ t.port.latched = s.port.latched))
  ∧ (∀ t : TripTable,
     (∀ (k : Fin 48) (r : TripRecord), t.slots[k] = some r →
       t.markCarries.slots[k] = some (if r.state = .active ∨ r.state = .cleared then { r with carried := upTo 15 r.carried } else r))
     ∧ (∀ k : Fin 48, t.slots[k] = none → t.markCarries.slots[k] = none)
     ∧ t.markCarries.pendingList = t.pendingList.map (fun e => { e with carried := upTo 15 e.carried })
     ∧ t.markCarries.serial = t.serial
     ∧ t.markCarries.unresolved = t.unresolved ∧ t.markCarries.pendingCount = t.pendingCount
     ∧ t.unresolved = ((List.finRange 48).countP fun k => t.slots[k].any fun r => r.state == .active || r.state == .cleared)
         + t.pendingList.length)

/-- ABORT_HANDOVER (R153), and the end of a handover handed on (R154): a held step is applied, then a pending slot is handled. Model's choices: log 13, 14, 22. -/
def Obligations.AbortHandover : Prop :=
  ∀ (h : Header) (i : Fin 2) (s : State), Taken h 1 i s →
    let z := s.pass h.dt
    let w := s.watch
    let ended := { w with
      state := .onWatch, incoming := 0, origin := none, window := none, openedAt := none, warningDeadline := none
      windowDeadline := none, overdue := false }
    (w.state = .noWatch ∨ w.state = .onWatch → Answers (.abortHandover h) s h 25 i .state [] z)
    ∧ (w.state = .opened ∨ w.state = .signed →
      (s.time.pendingStep = none → w.pendingSlot = none →
        Answers (.abortHandover h) s h 25 i .ok ended.bytes { z with watch := ended })
      ∧ ∃ t, exec (.abortHandover h) s = .next t
        ∧ t = { z with time := t.time, watch := t.watch, port := t.port }
        ∧ t.watch.crew = w.crew ∧ t.watch.shift = w.shift ∧ t.watch.shiftStart = w.shiftStart ∧ t.watch.baseline = w.baseline
        ∧ t.watch.previous = w.previous
        ∧ t.port.slots[i] = .waiting s.port.nextOrder (reply h 25 .ok t.watch.bytes)
        ∧ (∀ off : Int, s.time.pendingStep = some off →
            t.time.generation = s.time.generation + 1 ∧ t.time.timeSet = true ∧ t.time.pendingStep = none
              ∧ t.port.latched &&& Event.stepApplied.bit = Event.stepApplied.bit)
        ∧ (s.time.pendingStep = none → t.time = z.time)
        ∧ HandoverEnds ended z t
        ∧ (∀ k : Fin 6, s.time.pendingStep = none → w.pendingSlot = some k →
            let r := s.config.roster[k]
            let day := (w.lastOpened[k]).getD 0
            (r.crew = 0 → t.watch = { ended with pendingSlot := none, lastOutcome := some ⟨k, day, .dropped⟩ })
            ∧ (r.crew ≠ 0 → r.crew = w.crew → t.watch = { ended with pendingSlot := none, lastOutcome := some ⟨k, day, .continued⟩ })
            ∧ (r.crew ≠ 0 → r.crew ≠ w.crew → t.watch.state = .opened ∧ t.watch.incoming = r.crew ∧ t.watch.pendingSlot = none
                ∧ t.watch.origin = some (.slot k) ∧ t.watch.lastOutcome = some ⟨k, day, .opened⟩)))

/-- The deadlines of a handover (R155), as WARNING_DEADLINE_EXPIRY and WINDOW_DEADLINE_EXPIRY take them and as every counted boundary takes them in its tick; and the minute event of the boundary (R34, R2 action 6): it is presented after the tick where local minute or day differs from the last presented, and the Watch Controller then takes it. Model's choices: log 2, 6. -/
def Obligations.HandoverDeadlines : Prop :=
  (∀ s : State, s.up = true →
    (∀ d : Nat, s.watch.warningDeadline = some d → d ≤ s.time.elapsed →
      exec .warningDeadlineExpiry s = .next (withEvent .handoverWarn { s with watch := { s.watch with warningDeadline := none } }))
    ∧ (∀ d : Nat, s.watch.windowDeadline = some d → d ≤ s.time.elapsed →
      exec .windowDeadlineExpiry s = .next { s with watch := { s.watch with windowDeadline := none, overdue := true } })
    ∧ ((∀ d : Nat, s.watch.warningDeadline = some d → s.time.elapsed < d) → exec .warningDeadlineExpiry s = .next s)
    ∧ ((∀ d : Nat, s.watch.windowDeadline = some d → s.time.elapsed < d) → exec .windowDeadlineExpiry s = .next s))
  ∧ (∀ (c : Instr) (s : State), s.up = true → CountsBoundary c s → ∃ t, exec c s = .next t
    ∧ t.time.elapsed = upTo Config.elapsedTop s.time.elapsed ∧ t.time.lastPresented = some t.localTime
    ∧ (NoStrandedStep s →
      let standing := fun d : Option Nat => d.filter fun x => decide (t.time.elapsed < x)
      let ticked := { s.watch with
        warningDeadline := standing s.watch.warningDeadline, windowDeadline := standing s.watch.windowDeadline
        overdue := s.watch.overdue || s.watch.windowDeadline.any fun x => decide (x ≤ t.time.elapsed) }
      (∀ d : Nat, s.watch.warningDeadline = some d → d ≤ t.time.elapsed →
          t.port.latched &&& Event.handoverWarn.bit = Event.handoverWarn.bit)
      ∧ (s.time.lastPresented = some t.localTime → t.watch = ticked)
      ∧ (s.time.lastPresented ≠ some t.localTime → t.watch = (({ t with watch := ticked } : State).takeMinute t.localTime).watch)))

/-! ### Power and starts -/

/-- The losses: main power (R20, R136, R174), also while a start waits; the backup supply (R179); and the assertion of the reset line (R182, R136, R174). The retained-valid marker becomes invalid when neither supply is left, in either order (R179). While the part is off, in reset or waiting, the blocks other than the Time Base take no samples, ticks, write ends or transfers (R161, R179, R182): of the warning only the line's level is kept for the start to read, and a transfer shifts out 0x00 under main power (log 27). Model's choices: log 2, 8, 16, 17, 18, 27. -/
def Obligations.SuppliesAndReset : Prop :=
  ∀ (dt : Nat) (image : Image) (config : ConfigImage) (s : State),
    let z := s.pass dt
    let stopped := { s.store with
      images := match s.store.write with
        | some w => s.store.images.set w.image image
        | none => s.store.images
      configImage := match s.store.configWrite with
        | some (.writing _ _) => config
        | _ => s.store.configImage
      walk := .idle, again := false, write := none, finalDue := false, configWrite := none }
    let marked := match s.store.write with
      | some w => s.tally.setMark true w.image
      | none => s.tally
    let port := { s.port with slots := Vector.replicate 2 .free }
    let unpowered := { s.pins with
      mainPower := false, retainedValid := s.pins.retainedValid && s.pins.backupSupply, startWaiting := none }
    let common := { z.time with
      outageMark := some s.time.elapsed, target := none, rcHeld := false, refQualified := false, anchor := none, goodRun := 0, badRun := 0 }
    (s.timeUp = true → s.time.crystalRunning = true → exec (.mainPowerLost dt image config) s = .next
      { z with
        pins := unpowered, store := stopped, tally := marked, port := port
        time := { common with source := .xtal, holdover := if s.time.source = .ref then 0 else s.time.holdover } })
    ∧ (s.timeUp = true → s.time.crystalRunning = false → exec (.mainPowerLost dt image config) s = .next
      { z with
        pins := unpowered, store := stopped, tally := marked, port := port
        time := { common with backupLost := true } })
    ∧ (s.pins.mainPower = true → s.pins.startWaiting.isSome = true →
      exec (.mainPowerLost dt image config) s = .next { z with pins := unpowered })
    ∧ (s.pins.mainPower = false → exec (.mainPowerLost dt image config) s = .next z)
    ∧ (s.pins.mainPower = false →
      exec (.backupSupplyLost dt) s = .next { z with pins := { s.pins with backupSupply := false, retainedValid := false } })
    ∧ (s.pins.mainPower = true → exec (.backupSupplyLost dt) s = .next { z with pins := { s.pins with backupSupply := false } })
    ∧ (s.up = true → exec (.resetLineAsserted dt image config) s = .next
      { z with pins := { s.pins with resetLine := true }, store := stopped, tally := marked, port := port })
    ∧ (s.up = false → exec (.resetLineAsserted dt image config) s = .next { z with pins := { s.pins with resetLine := true } })
    ∧ (s.up = false →
      let level := fun asserted : Bool => { z with pins := { s.pins with warningLine := asserted } }
      let transfers := fun bytes : Nat =>
        if s.pins.mainPower then { z with port := { s.port with dataOut := List.replicate bytes 0#8 } } else z
      (∀ levels first, exec (.tripLineSample dt levels first) s = .next z) ∧ (∀ lines, exec (.modeLineSample dt lines) s = .next z)
      ∧ (∀ verify, exec (.imageWriteEnd dt verify) s = .next z) ∧ (∀ verify, exec (.configWriteEnd dt verify) s = .next z)
      ∧ exec .testExpiry s = .next s ∧ exec .periodicTrigger s = .next s
      ∧ exec .warningDeadlineExpiry s = .next s ∧ exec .windowDeadlineExpiry s = .next s
      ∧ exec (.powerFailWarning dt) s = .next (level true) ∧ exec (.warningReleased dt) s = .next (level false)
      ∧ (∀ bytes, exec (.send dt bytes) s = .next (transfers (bytes.length + 1)))
      ∧ (∀ clocked, exec (.collect dt clocked) s = .next (transfers (clocked + 1)))
      ∧ (∀ code clocked, exec (.statusPoll dt code clocked) s = .next (transfers (clocked + 1)))
      ∧ (∀ (c : Instr) (t : State), c ∈ [.refPulse dt, .absenceLimitExpiry, .flywheelBoundary, .secondBoundary, .backupBoundary,
            .crystalReady dt, .crystalStop dt] → exec c s = .next t → t = { s with time := t.time }))

/-- A cold start (R180, with R21, R37, R52, R76, R95, R118, R120, R137, R159, R174). The account table is restored and settled: lost slots and duplicate tags with their serials, double bindings, marks. The start trigger's walk, or the final walk with the warning asserted, begins from image 0 over those marks. Model's choices: log 1, 16, 17, 24, 25, 32, 34. -/
def Obligations.ColdStart : Prop :=
  ∀ (dt : Nat) (s : State), s.pins.mainPower = false → s.pins.retainedValid = false → s.pins.resetLine = false →
    ∃ t, exec (.coldStart dt) s = .next t
      ∧ t.pins = { s.pins with mainPower := true, backupSupply := true, retainedValid := true, resetLine := false, startWaiting := none }
      ∧ (s.store.configImage.good = true → t.config = s.store.configImage.items ∧ t.store.configFault = false)
      ∧ (s.store.configImage.good = false → t.config = .factory ∧ t.store.configFault = true)
      ∧ t.time.source = .rc ∧ t.time.target = some t.config.startSource ∧ t.time.rcHeld = false ∧ t.time.refQualified = false
      ∧ t.time.anchor = none ∧ t.time.goodRun = 0 ∧ t.time.badRun = 0 ∧ t.time.crystalRunning = false
      ∧ t.time.boundaryPos = (s.pass dt).time.clock ∧ t.time.clock = (s.pass dt).time.clock
      ∧ t.time.boundaryTime = 0 ∧ t.time.slewRemainder = 0 ∧ t.time.pendingStep = none ∧ t.time.lastPresented = none
      ∧ t.time.generation = 0 ∧ t.time.timeSet = false ∧ t.time.elapsed = 0 ∧ t.time.holdover = 0 ∧ t.time.outageMark = none
      ∧ t.time.backupLost = false
      ∧ (∀ line : Fin 32, t.lines[line] = ⟨.released, 0, none, none, t.config.lines[line].enabled, false, none⟩)
      ∧ (∀ k : Fin 48, t.trips.slots[k] = none) ∧ t.trips.pendingList = [] ∧ t.trips.serial = 0
      ∧ (∀ u : Fin 8, t.units[u] = ⟨⟨.unknown, none, 0⟩, ⟨.unknown, none, 0⟩, ⟨.unknown, none, 0⟩, ⟨.unknown, none, 0⟩, ⟨.unknown, none, 0⟩,
          .stopped, false, false⟩)
      ∧ t.tally.freeze = s.pins.warningLine ∧ (∀ u : Fin 8, t.tally.side[u] = ⟨.zero, 0, .zero, 0, 0⟩)
      ∧ (∀ (u : Fin 8) (c : UnitCounts), s.store.foundGood (unitImage u) = true → s.store.images[unitImage u].content = .unit c →
          t.tally.units[u] = c)
      ∧ (∀ u : Fin 8, s.store.foundGood (unitImage u) = false ∨ s.store.images[unitImage u].content = .empty →
          t.tally.units[u] = ⟨.zero, .zero, 0, 0, 0, 0, 0⟩)
      ∧ (let slots : Vector AccountSlot 24 := Vector.ofFn fun k : Fin 24 => settledSlot s.store k
         let y : Tally :=
           { units := t.tally.units, dirty := Vector.ofFn fun u : Fin 8 => settledDirty s.store u, accounts := slots
             serial := firstSerial s.store + BitVec.ofNat 16 (countBelow 24 (badSlot s.store) + countBelow 24 (twinSlot s.store))
             side := Vector.replicate 8 ⟨.zero, 0, .zero, 0, 0⟩, freeze := s.pins.warningLine }
         let number := restoredSequence s.store
         t.tally.serial = y.serial ∧ (∀ k : Fin 24, (accountAt t k) = slots[k].account)
           ∧ t.store.number = number ∧ t.store.sequence = upTo Config.countTop number ∧ t.store.again = false
           ∧ GoesOn (if s.pins.warningLine then .final else .walking) 0 number y true t
           ∧ (NoneMarked y 0 → EndsIn (if s.pins.warningLine then .held else .idle) y t))
      ∧ (∀ i : Fin 32, t.store.failed[i] = !s.store.foundGood i) ∧ t.store.images = s.store.images ∧ t.store.periodic = 0
      ∧ t.store.configWrite = none
      ∧ t.watch.state = .noWatch ∧ t.watch.crew = 0 ∧ NoHandover t.watch ∧ t.watch.pendingSlot = none ∧ t.watch.missed = 0
      ∧ t.watch.lastOutcome = none ∧ t.watch.shift = 0 ∧ t.watch.shiftStart.grade = .unset ∧ t.watch.shiftStart.generation = 0
      ∧ t.watch.baseline = t.tally.units ∧ t.watch.previous = none ∧ (∀ k : Fin 6, t.watch.lastOpened[k] = none)
      ∧ (∀ i : Fin 2, t.port.slots[i] = .free) ∧ t.port.mask = 0 ∧ t.port.lastStart = .cold ∧ t.port.levels = t.config.levels
      ∧ t.port.latched = (if (List.finRange 32).any (fun i => !s.store.foundGood i) || (List.finRange 24).any (twinSlot s.store)
          then Event.started.bit ||| Event.recordLost.bit else Event.started.bit)

/-- A warm start (R181, with R22, R37, R54, R55, R77, R91, R96, R117, R118, R121, R138, R160, R174) and the start at the release of the reset line (R182, R23): what each leaves of the Time Base, and, as `TakenUp` says it, of lines, Trip Table, units, tallies and accounts with their marks, image states and walk, watch and port. An image counts as bad by its check code (R138), and also where its contents do not fit its position, which is the model's choice (log 24). A warm start with the backup count lost goes on from the boundary time as kept (log 35). A start that main power brings while the reset line is asserted waits, and the release of the line takes it, cold or warm (R179). Model's choices: log 1, 16, 17, 21, 22, 24, 25, 26, 30, 35. -/
def Obligations.WarmAndResetStart : Prop :=
  (∀ (dt : Nat) (s : State), s.pins.mainPower = false → s.pins.retainedValid = true → s.pins.resetLine = false →
    ∃ t, exec (.warmStart dt) s = .next t
      ∧ t.pins = { s.pins with mainPower := true, backupSupply := true, resetLine := false, startWaiting := none } ∧ t.config = s.config
      ∧ t.pending = s.pending
      ∧ t.time.elapsed = s.time.elapsed ∧ t.time.holdover = s.time.holdover ∧ t.time.generation = s.time.generation
      ∧ t.time.boundaryTime = s.time.boundaryTime ∧ t.time.outageMark = none ∧ t.time.lastPresented = none ∧ t.time.backupLost = false
      ∧ t.time.refQualified = false ∧ t.time.anchor = none ∧ t.time.goodRun = 0 ∧ t.time.badRun = 0 ∧ t.time.rcHeld = false
      ∧ (s.time.backupLost = false → t.time.source = .xtal ∧ t.time.timeSet = s.time.timeSet
          ∧ t.time.slewRemainder = s.time.slewRemainder ∧ t.time.pendingStep = s.time.pendingStep
          ∧ t.time.boundaryPos = s.time.boundaryPos
          ∧ t.time.target = (if s.config.startSource = .ref then some .ref else none))
      ∧ (s.time.backupLost = true → t.time.source = .rc ∧ t.time.timeSet = false ∧ t.time.slewRemainder = 0
          ∧ t.time.pendingStep = none ∧ t.time.boundaryPos = (s.pass dt).time.clock ∧ t.time.crystalRunning = false
          ∧ t.time.target = some s.config.startSource)
      ∧ TakenUp ((s.time.outageMark.map fun m => s.time.elapsed - m).getD 0) true .warm s t)
  ∧ (∀ (dt : Nat) (s : State), s.pins.mainPower = true → s.pins.resetLine = true → s.pins.startWaiting = none →
    ∃ t, exec (.resetLineReleased dt) s = .next t
      ∧ t.pins = { s.pins with resetLine := false } ∧ t.config = s.config ∧ t.pending = s.pending
      ∧ t.time = { (s.pass dt).time with lastPresented := none }
      ∧ TakenUp 0 (!s.pins.warningLine) .resetLine s t)
  ∧ (∀ (dt : Nat) (s : State), s.pins.mainPower = false → s.pins.resetLine = true →
      (s.pins.retainedValid = true → exec (.warmStart dt) s = .next
        { s.pass dt with pins := { s.pins with mainPower := true, backupSupply := true, startWaiting := some .warm } })
      ∧ (s.pins.retainedValid = false → exec (.coldStart dt) s = .next
        { s.pass dt with pins := { s.pins with mainPower := true, backupSupply := true, startWaiting := some .cold } }))
  ∧ (∀ (dt : Nat) (s : State), s.pins.resetLine = true →
      let unstarted := fun valid : Bool =>
        { s with pins := { s.pins with mainPower := false, resetLine := false, startWaiting := none, retainedValid := valid } }
      let released := fun (u : State) (valid : Bool) => exec (.resetLineReleased dt) s = .next { u with pins := { u.pins with
        backupSupply := s.pins.backupSupply, retainedValid := valid } }
      (s.pins.mainPower = true → s.pins.startWaiting = some .cold →
        ∃ u, exec (.coldStart dt) (unstarted false) = .next u ∧ released u true)
      ∧ (s.pins.mainPower = true → s.pins.startWaiting = some .warm →
        ∃ u, exec (.warmStart dt) (unstarted true) = .next u ∧ released u s.pins.retainedValid)
      ∧ (s.pins.mainPower = false → s.pins.startWaiting = none →
        exec (.resetLineReleased dt) s = .next { s.pass dt with pins := { s.pins with resetLine := false } }))

/-! ### Invariants -/

/-- Every step keeps the table of R142. -/
def Obligations.WatchLawIsKept : Prop := ∀ s t : State, step s = .next t → WatchLaw s.watch → WatchLaw t.watch

/-- Every step keeps R56 and R66: at most one live item a line, and pending entries only while all slots are occupied. -/
def Obligations.TripLawIsKept : Prop := ∀ s t : State, step s = .next t → TripLaw s.trips → TripLaw t.trips

/-- Every step keeps R99 and R103: no two LIVE accounts with one tag, and no unit with two bound accounts of one class. -/
def Obligations.AccountLawIsKept : Prop := ∀ s t : State, step s = .next t → AccountLaw s.tally → AccountLaw t.tally

/-- Every step keeps what 03 section 3.2 says a line holds in each line state. -/
def Obligations.LineLawIsKept : Prop :=
  ∀ s t : State, step s = .next t → (∀ i : Fin 32, LineLaw s.config.lines[i] s.lines[i]) → ∀ i : Fin 32, LineLaw t.config.lines[i] t.lines[i]

/-- Every step keeps one write at the store port (R134) and the port's reply slots and words (R162, R165); HELD stands only while the warning holds (R128, R133), and a final walk is due only while a write holds the port (R132). -/
def Obligations.StoreAndPortLawsAreKept : Prop :=
  (∀ s t : State, step s = .next t → StoreLaw s.store → PortLaw s.port s.store → StoreLaw t.store ∧ PortLaw t.port t.store)
  ∧ ∀ s t : State, step s = .next t → WalkLaw s → WalkLaw t

/-- Every step keeps the Time Base's ranges and the shape of its switch (01 section 1.1), a valid marker only with a supply (R179; log 17), and a lost count only under backup supply (R20). -/
def Obligations.TimeLawIsKept : Prop := ∀ s t : State, step s = .next t → TimeLaw s → TimeLaw t

/-- The state after reset is what the cold start of a part as delivered leaves (R180; the choice of log 5), and it satisfies every law. -/
def Obligations.ResetIsADeliveredColdStart : Prop :=
  exec (.coldStart 0) delivered = .next State.reset
  ∧ WatchLaw State.reset.watch ∧ TripLaw State.reset.trips ∧ AccountLaw State.reset.tally
  ∧ (∀ i : Fin 32, LineLaw State.reset.config.lines[i] State.reset.lines[i]) ∧ StoreLaw State.reset.store
  ∧ PortLaw State.reset.port State.reset.store ∧ TimeLaw State.reset ∧ WalkLaw State.reset

end Obligations
end

