-- ==== Sys2Proof/Laws/State.lean ====
section
/-! SUPPORT. What each named update of State leaves as it was, field by field: every line is true by definition. -/

namespace Sys2Proof.Machine

@[simp] theorem State.pass_pending (dt : Nat) (s : State) : (s.pass dt).pending = s.pending := rfl
@[simp] theorem State.pass_pins (dt : Nat) (s : State) : (s.pass dt).pins = s.pins := rfl
@[simp] theorem State.pass_config (dt : Nat) (s : State) : (s.pass dt).config = s.config := rfl
@[simp] theorem State.pass_lines (dt : Nat) (s : State) : (s.pass dt).lines = s.lines := rfl
@[simp] theorem State.pass_trips (dt : Nat) (s : State) : (s.pass dt).trips = s.trips := rfl
@[simp] theorem State.pass_units (dt : Nat) (s : State) : (s.pass dt).units = s.units := rfl
@[simp] theorem State.pass_tally (dt : Nat) (s : State) : (s.pass dt).tally = s.tally := rfl
@[simp] theorem State.pass_store (dt : Nat) (s : State) : (s.pass dt).store = s.store := rfl
@[simp] theorem State.pass_watch (dt : Nat) (s : State) : (s.pass dt).watch = s.watch := rfl
@[simp] theorem State.pass_port (dt : Nat) (s : State) : (s.pass dt).port = s.port := rfl
@[simp] theorem State.reach_pending (m : Nat) (s : State) : (s.reach m).pending = s.pending := rfl
@[simp] theorem State.reach_pins (m : Nat) (s : State) : (s.reach m).pins = s.pins := rfl
@[simp] theorem State.reach_config (m : Nat) (s : State) : (s.reach m).config = s.config := rfl
@[simp] theorem State.reach_lines (m : Nat) (s : State) : (s.reach m).lines = s.lines := rfl
@[simp] theorem State.reach_trips (m : Nat) (s : State) : (s.reach m).trips = s.trips := rfl
@[simp] theorem State.reach_units (m : Nat) (s : State) : (s.reach m).units = s.units := rfl
@[simp] theorem State.reach_tally (m : Nat) (s : State) : (s.reach m).tally = s.tally := rfl
@[simp] theorem State.reach_store (m : Nat) (s : State) : (s.reach m).store = s.store := rfl
@[simp] theorem State.reach_watch (m : Nat) (s : State) : (s.reach m).watch = s.watch := rfl
@[simp] theorem State.reach_port (m : Nat) (s : State) : (s.reach m).port = s.port := rfl
@[simp] theorem State.place_pending (i : Fin 2) (r : Reply) (s : State) : (s.place i r).pending = s.pending := rfl
@[simp] theorem State.place_pins (i : Fin 2) (r : Reply) (s : State) : (s.place i r).pins = s.pins := rfl
@[simp] theorem State.place_config (i : Fin 2) (r : Reply) (s : State) : (s.place i r).config = s.config := rfl
@[simp] theorem State.place_time (i : Fin 2) (r : Reply) (s : State) : (s.place i r).time = s.time := rfl
@[simp] theorem State.place_lines (i : Fin 2) (r : Reply) (s : State) : (s.place i r).lines = s.lines := rfl
@[simp] theorem State.place_trips (i : Fin 2) (r : Reply) (s : State) : (s.place i r).trips = s.trips := rfl
@[simp] theorem State.place_units (i : Fin 2) (r : Reply) (s : State) : (s.place i r).units = s.units := rfl
@[simp] theorem State.place_tally (i : Fin 2) (r : Reply) (s : State) : (s.place i r).tally = s.tally := rfl
@[simp] theorem State.place_store (i : Fin 2) (r : Reply) (s : State) : (s.place i r).store = s.store := rfl
@[simp] theorem State.place_watch (i : Fin 2) (r : Reply) (s : State) : (s.place i r).watch = s.watch := rfl
@[simp] theorem State.shiftOut_pending (bs : List Byte) (s : State) : (s.shiftOut bs).pending = s.pending := rfl
@[simp] theorem State.shiftOut_pins (bs : List Byte) (s : State) : (s.shiftOut bs).pins = s.pins := rfl
@[simp] theorem State.shiftOut_config (bs : List Byte) (s : State) : (s.shiftOut bs).config = s.config := rfl
@[simp] theorem State.shiftOut_time (bs : List Byte) (s : State) : (s.shiftOut bs).time = s.time := rfl
@[simp] theorem State.shiftOut_lines (bs : List Byte) (s : State) : (s.shiftOut bs).lines = s.lines := rfl
@[simp] theorem State.shiftOut_trips (bs : List Byte) (s : State) : (s.shiftOut bs).trips = s.trips := rfl
@[simp] theorem State.shiftOut_units (bs : List Byte) (s : State) : (s.shiftOut bs).units = s.units := rfl
@[simp] theorem State.shiftOut_tally (bs : List Byte) (s : State) : (s.shiftOut bs).tally = s.tally := rfl
@[simp] theorem State.shiftOut_store (bs : List Byte) (s : State) : (s.shiftOut bs).store = s.store := rfl
@[simp] theorem State.shiftOut_watch (bs : List Byte) (s : State) : (s.shiftOut bs).watch = s.watch := rfl
@[simp] theorem State.setWarning_pending (b : Bool) (s : State) : (s.setWarning b).pending = s.pending := rfl
@[simp] theorem State.setWarning_config (b : Bool) (s : State) : (s.setWarning b).config = s.config := rfl
@[simp] theorem State.setWarning_time (b : Bool) (s : State) : (s.setWarning b).time = s.time := rfl
@[simp] theorem State.setWarning_lines (b : Bool) (s : State) : (s.setWarning b).lines = s.lines := rfl
@[simp] theorem State.setWarning_trips (b : Bool) (s : State) : (s.setWarning b).trips = s.trips := rfl
@[simp] theorem State.setWarning_units (b : Bool) (s : State) : (s.setWarning b).units = s.units := rfl
@[simp] theorem State.setWarning_tally (b : Bool) (s : State) : (s.setWarning b).tally = s.tally := rfl
@[simp] theorem State.setWarning_store (b : Bool) (s : State) : (s.setWarning b).store = s.store := rfl
@[simp] theorem State.setWarning_watch (b : Bool) (s : State) : (s.setWarning b).watch = s.watch := rfl
@[simp] theorem State.setWarning_port (b : Bool) (s : State) : (s.setWarning b).port = s.port := rfl
@[simp] theorem State.setTrip_pending (i : Fin 48) (r : TripRecord) (s : State) : (s.setTrip i r).pending = s.pending := rfl
@[simp] theorem State.setTrip_pins (i : Fin 48) (r : TripRecord) (s : State) : (s.setTrip i r).pins = s.pins := rfl
@[simp] theorem State.setTrip_config (i : Fin 48) (r : TripRecord) (s : State) : (s.setTrip i r).config = s.config := rfl
@[simp] theorem State.setTrip_time (i : Fin 48) (r : TripRecord) (s : State) : (s.setTrip i r).time = s.time := rfl
@[simp] theorem State.setTrip_lines (i : Fin 48) (r : TripRecord) (s : State) : (s.setTrip i r).lines = s.lines := rfl
@[simp] theorem State.setTrip_units (i : Fin 48) (r : TripRecord) (s : State) : (s.setTrip i r).units = s.units := rfl
@[simp] theorem State.setTrip_tally (i : Fin 48) (r : TripRecord) (s : State) : (s.setTrip i r).tally = s.tally := rfl
@[simp] theorem State.setTrip_store (i : Fin 48) (r : TripRecord) (s : State) : (s.setTrip i r).store = s.store := rfl
@[simp] theorem State.setTrip_watch (i : Fin 48) (r : TripRecord) (s : State) : (s.setTrip i r).watch = s.watch := rfl
@[simp] theorem State.setTrip_port (i : Fin 48) (r : TripRecord) (s : State) : (s.setTrip i r).port = s.port := rfl
@[simp] theorem State.setAccount_pending (i : Fin 24) (a : AccountSlot) (s : State) : (s.setAccount i a).pending = s.pending := rfl
@[simp] theorem State.setAccount_pins (i : Fin 24) (a : AccountSlot) (s : State) : (s.setAccount i a).pins = s.pins := rfl
@[simp] theorem State.setAccount_config (i : Fin 24) (a : AccountSlot) (s : State) : (s.setAccount i a).config = s.config := rfl
@[simp] theorem State.setAccount_time (i : Fin 24) (a : AccountSlot) (s : State) : (s.setAccount i a).time = s.time := rfl
@[simp] theorem State.setAccount_lines (i : Fin 24) (a : AccountSlot) (s : State) : (s.setAccount i a).lines = s.lines := rfl
@[simp] theorem State.setAccount_trips (i : Fin 24) (a : AccountSlot) (s : State) : (s.setAccount i a).trips = s.trips := rfl
@[simp] theorem State.setAccount_units (i : Fin 24) (a : AccountSlot) (s : State) : (s.setAccount i a).units = s.units := rfl
@[simp] theorem State.setAccount_store (i : Fin 24) (a : AccountSlot) (s : State) : (s.setAccount i a).store = s.store := rfl
@[simp] theorem State.setAccount_watch (i : Fin 24) (a : AccountSlot) (s : State) : (s.setAccount i a).watch = s.watch := rfl
@[simp] theorem State.setAccount_port (i : Fin 24) (a : AccountSlot) (s : State) : (s.setAccount i a).port = s.port := rfl
@[simp] theorem State.takeRelease_pending (l : Fin 32) (st : Stamp) (s : State) : (s.takeRelease l st).pending = s.pending := rfl
@[simp] theorem State.takeRelease_pins (l : Fin 32) (st : Stamp) (s : State) : (s.takeRelease l st).pins = s.pins := rfl
@[simp] theorem State.takeRelease_config (l : Fin 32) (st : Stamp) (s : State) : (s.takeRelease l st).config = s.config := rfl
@[simp] theorem State.takeRelease_time (l : Fin 32) (st : Stamp) (s : State) : (s.takeRelease l st).time = s.time := rfl
@[simp] theorem State.takeRelease_lines (l : Fin 32) (st : Stamp) (s : State) : (s.takeRelease l st).lines = s.lines := rfl
@[simp] theorem State.takeRelease_units (l : Fin 32) (st : Stamp) (s : State) : (s.takeRelease l st).units = s.units := rfl
@[simp] theorem State.takeRelease_tally (l : Fin 32) (st : Stamp) (s : State) : (s.takeRelease l st).tally = s.tally := rfl
@[simp] theorem State.takeRelease_store (l : Fin 32) (st : Stamp) (s : State) : (s.takeRelease l st).store = s.store := rfl
@[simp] theorem State.takeRelease_watch (l : Fin 32) (st : Stamp) (s : State) : (s.takeRelease l st).watch = s.watch := rfl
@[simp] theorem State.takeRelease_port (l : Fin 32) (st : Stamp) (s : State) : (s.takeRelease l st).port = s.port := rfl
@[simp] theorem State.slotOutcome_pending (i : Fin 6) (d : Int) (r : SlotResult) (s : State) : (s.slotOutcome i d r).pending = s.pending := rfl
@[simp] theorem State.slotOutcome_pins (i : Fin 6) (d : Int) (r : SlotResult) (s : State) : (s.slotOutcome i d r).pins = s.pins := rfl
@[simp] theorem State.slotOutcome_config (i : Fin 6) (d : Int) (r : SlotResult) (s : State) : (s.slotOutcome i d r).config = s.config := rfl
@[simp] theorem State.slotOutcome_time (i : Fin 6) (d : Int) (r : SlotResult) (s : State) : (s.slotOutcome i d r).time = s.time := rfl
@[simp] theorem State.slotOutcome_lines (i : Fin 6) (d : Int) (r : SlotResult) (s : State) : (s.slotOutcome i d r).lines = s.lines := rfl
@[simp] theorem State.slotOutcome_trips (i : Fin 6) (d : Int) (r : SlotResult) (s : State) : (s.slotOutcome i d r).trips = s.trips := rfl
@[simp] theorem State.slotOutcome_units (i : Fin 6) (d : Int) (r : SlotResult) (s : State) : (s.slotOutcome i d r).units = s.units := rfl
@[simp] theorem State.slotOutcome_tally (i : Fin 6) (d : Int) (r : SlotResult) (s : State) : (s.slotOutcome i d r).tally = s.tally := rfl
@[simp] theorem State.slotOutcome_store (i : Fin 6) (d : Int) (r : SlotResult) (s : State) : (s.slotOutcome i d r).store = s.store := rfl
@[simp] theorem State.slotOutcome_port (i : Fin 6) (d : Int) (r : SlotResult) (s : State) : (s.slotOutcome i d r).port = s.port := rfl
@[simp] theorem State.capture_pending (i : Fin 32) (s : State) : (s.capture i).pending = s.pending := rfl
@[simp] theorem State.capture_pins (i : Fin 32) (s : State) : (s.capture i).pins = s.pins := rfl
@[simp] theorem State.capture_config (i : Fin 32) (s : State) : (s.capture i).config = s.config := rfl
@[simp] theorem State.capture_time (i : Fin 32) (s : State) : (s.capture i).time = s.time := rfl
@[simp] theorem State.capture_lines (i : Fin 32) (s : State) : (s.capture i).lines = s.lines := rfl
@[simp] theorem State.capture_trips (i : Fin 32) (s : State) : (s.capture i).trips = s.trips := rfl
@[simp] theorem State.capture_units (i : Fin 32) (s : State) : (s.capture i).units = s.units := rfl
@[simp] theorem State.capture_watch (i : Fin 32) (s : State) : (s.capture i).watch = s.watch := rfl
@[simp] theorem State.capture_port (i : Fin 32) (s : State) : (s.capture i).port = s.port := rfl
@[simp] theorem State.beginSwitch_pending (t : Target) (s : State) : (s.beginSwitch t).pending = s.pending := rfl
@[simp] theorem State.beginSwitch_pins (t : Target) (s : State) : (s.beginSwitch t).pins = s.pins := rfl
@[simp] theorem State.beginSwitch_config (t : Target) (s : State) : (s.beginSwitch t).config = s.config := rfl
@[simp] theorem State.beginSwitch_lines (t : Target) (s : State) : (s.beginSwitch t).lines = s.lines := rfl
@[simp] theorem State.beginSwitch_trips (t : Target) (s : State) : (s.beginSwitch t).trips = s.trips := rfl
@[simp] theorem State.beginSwitch_units (t : Target) (s : State) : (s.beginSwitch t).units = s.units := rfl
@[simp] theorem State.beginSwitch_tally (t : Target) (s : State) : (s.beginSwitch t).tally = s.tally := rfl
@[simp] theorem State.beginSwitch_store (t : Target) (s : State) : (s.beginSwitch t).store = s.store := rfl
@[simp] theorem State.beginSwitch_watch (t : Target) (s : State) : (s.beginSwitch t).watch = s.watch := rfl
@[simp] theorem State.beginSwitch_port (t : Target) (s : State) : (s.beginSwitch t).port = s.port := rfl
@[simp] theorem State.takeSlew_pending (o : Int) (s : State) : (s.takeSlew o).pending = s.pending := rfl
@[simp] theorem State.takeSlew_pins (o : Int) (s : State) : (s.takeSlew o).pins = s.pins := rfl
@[simp] theorem State.takeSlew_config (o : Int) (s : State) : (s.takeSlew o).config = s.config := rfl
@[simp] theorem State.takeSlew_lines (o : Int) (s : State) : (s.takeSlew o).lines = s.lines := rfl
@[simp] theorem State.takeSlew_trips (o : Int) (s : State) : (s.takeSlew o).trips = s.trips := rfl
@[simp] theorem State.takeSlew_units (o : Int) (s : State) : (s.takeSlew o).units = s.units := rfl
@[simp] theorem State.takeSlew_tally (o : Int) (s : State) : (s.takeSlew o).tally = s.tally := rfl
@[simp] theorem State.takeSlew_store (o : Int) (s : State) : (s.takeSlew o).store = s.store := rfl
@[simp] theorem State.takeSlew_watch (o : Int) (s : State) : (s.takeSlew o).watch = s.watch := rfl
@[simp] theorem State.takeSlew_port (o : Int) (s : State) : (s.takeSlew o).port = s.port := rfl
@[simp] theorem State.holdStep_pending (o : Int) (s : State) : (s.holdStep o).pending = s.pending := rfl
@[simp] theorem State.holdStep_pins (o : Int) (s : State) : (s.holdStep o).pins = s.pins := rfl
@[simp] theorem State.holdStep_config (o : Int) (s : State) : (s.holdStep o).config = s.config := rfl
@[simp] theorem State.holdStep_lines (o : Int) (s : State) : (s.holdStep o).lines = s.lines := rfl
@[simp] theorem State.holdStep_trips (o : Int) (s : State) : (s.holdStep o).trips = s.trips := rfl
@[simp] theorem State.holdStep_units (o : Int) (s : State) : (s.holdStep o).units = s.units := rfl
@[simp] theorem State.holdStep_tally (o : Int) (s : State) : (s.holdStep o).tally = s.tally := rfl
@[simp] theorem State.holdStep_store (o : Int) (s : State) : (s.holdStep o).store = s.store := rfl
@[simp] theorem State.holdStep_watch (o : Int) (s : State) : (s.holdStep o).watch = s.watch := rfl
@[simp] theorem State.holdStep_port (o : Int) (s : State) : (s.holdStep o).port = s.port := rfl
@[simp] theorem State.endTest_pending (l : Fin 32) (s : State) : (s.endTest l).pending = s.pending := rfl
@[simp] theorem State.endTest_pins (l : Fin 32) (s : State) : (s.endTest l).pins = s.pins := rfl
@[simp] theorem State.endTest_config (l : Fin 32) (s : State) : (s.endTest l).config = s.config := rfl
@[simp] theorem State.endTest_time (l : Fin 32) (s : State) : (s.endTest l).time = s.time := rfl
@[simp] theorem State.endTest_units (l : Fin 32) (s : State) : (s.endTest l).units = s.units := rfl
@[simp] theorem State.endTest_tally (l : Fin 32) (s : State) : (s.endTest l).tally = s.tally := rfl
@[simp] theorem State.endTest_store (l : Fin 32) (s : State) : (s.endTest l).store = s.store := rfl
@[simp] theorem State.endTest_watch (l : Fin 32) (s : State) : (s.endTest l).watch = s.watch := rfl
@[simp] theorem State.endTest_port (l : Fin 32) (s : State) : (s.endTest l).port = s.port := rfl
@[simp] theorem State.stopPort_pending (s : State) : (s.stopPort).pending = s.pending := rfl
@[simp] theorem State.stopPort_pins (s : State) : (s.stopPort).pins = s.pins := rfl
@[simp] theorem State.stopPort_config (s : State) : (s.stopPort).config = s.config := rfl
@[simp] theorem State.stopPort_time (s : State) : (s.stopPort).time = s.time := rfl
@[simp] theorem State.stopPort_lines (s : State) : (s.stopPort).lines = s.lines := rfl
@[simp] theorem State.stopPort_trips (s : State) : (s.stopPort).trips = s.trips := rfl
@[simp] theorem State.stopPort_units (s : State) : (s.stopPort).units = s.units := rfl
@[simp] theorem State.stopPort_tally (s : State) : (s.stopPort).tally = s.tally := rfl
@[simp] theorem State.stopPort_store (s : State) : (s.stopPort).store = s.store := rfl
@[simp] theorem State.stopPort_watch (s : State) : (s.stopPort).watch = s.watch := rfl
@[simp] theorem State.startPort_pending (k : StartKind) (s : State) : (s.startPort k).pending = s.pending := rfl
@[simp] theorem State.startPort_pins (k : StartKind) (s : State) : (s.startPort k).pins = s.pins := rfl
@[simp] theorem State.startPort_config (k : StartKind) (s : State) : (s.startPort k).config = s.config := rfl
@[simp] theorem State.startPort_time (k : StartKind) (s : State) : (s.startPort k).time = s.time := rfl
@[simp] theorem State.startPort_lines (k : StartKind) (s : State) : (s.startPort k).lines = s.lines := rfl
@[simp] theorem State.startPort_trips (k : StartKind) (s : State) : (s.startPort k).trips = s.trips := rfl
@[simp] theorem State.startPort_units (k : StartKind) (s : State) : (s.startPort k).units = s.units := rfl
@[simp] theorem State.startPort_tally (k : StartKind) (s : State) : (s.startPort k).tally = s.tally := rfl
@[simp] theorem State.startPort_store (k : StartKind) (s : State) : (s.startPort k).store = s.store := rfl
@[simp] theorem State.startPort_watch (k : StartKind) (s : State) : (s.startPort k).watch = s.watch := rfl
@[simp] theorem State.coldTime_pending (s : State) : (s.coldTime).pending = s.pending := rfl
@[simp] theorem State.coldTime_pins (s : State) : (s.coldTime).pins = s.pins := rfl
@[simp] theorem State.coldTime_config (s : State) : (s.coldTime).config = s.config := rfl
@[simp] theorem State.coldTime_units (s : State) : (s.coldTime).units = s.units := rfl
@[simp] theorem State.coldTime_tally (s : State) : (s.coldTime).tally = s.tally := rfl
@[simp] theorem State.coldTime_store (s : State) : (s.coldTime).store = s.store := rfl
@[simp] theorem State.coldTime_watch (s : State) : (s.coldTime).watch = s.watch := rfl
@[simp] theorem State.coldTime_port (s : State) : (s.coldTime).port = s.port := rfl
@[simp] theorem State.coldWatch_pending (s : State) : (s.coldWatch).pending = s.pending := rfl
@[simp] theorem State.coldWatch_pins (s : State) : (s.coldWatch).pins = s.pins := rfl
@[simp] theorem State.coldWatch_config (s : State) : (s.coldWatch).config = s.config := rfl
@[simp] theorem State.coldWatch_time (s : State) : (s.coldWatch).time = s.time := rfl
@[simp] theorem State.coldWatch_lines (s : State) : (s.coldWatch).lines = s.lines := rfl
@[simp] theorem State.coldWatch_trips (s : State) : (s.coldWatch).trips = s.trips := rfl
@[simp] theorem State.coldWatch_units (s : State) : (s.coldWatch).units = s.units := rfl
@[simp] theorem State.coldWatch_tally (s : State) : (s.coldWatch).tally = s.tally := rfl
@[simp] theorem State.coldWatch_store (s : State) : (s.coldWatch).store = s.store := rfl
@[simp] theorem State.coldWatch_port (s : State) : (s.coldWatch).port = s.port := rfl
@[simp] theorem State.takeUpUnits_pending (g : Nat) (s : State) : (s.takeUpUnits g).pending = s.pending := rfl
@[simp] theorem State.takeUpUnits_pins (g : Nat) (s : State) : (s.takeUpUnits g).pins = s.pins := rfl
@[simp] theorem State.takeUpUnits_config (g : Nat) (s : State) : (s.takeUpUnits g).config = s.config := rfl
@[simp] theorem State.takeUpUnits_time (g : Nat) (s : State) : (s.takeUpUnits g).time = s.time := rfl
@[simp] theorem State.takeUpUnits_lines (g : Nat) (s : State) : (s.takeUpUnits g).lines = s.lines := rfl
@[simp] theorem State.takeUpUnits_trips (g : Nat) (s : State) : (s.takeUpUnits g).trips = s.trips := rfl
@[simp] theorem State.takeUpUnits_store (g : Nat) (s : State) : (s.takeUpUnits g).store = s.store := rfl
@[simp] theorem State.takeUpUnits_watch (g : Nat) (s : State) : (s.takeUpUnits g).watch = s.watch := rfl
@[simp] theorem State.takeUpUnits_port (g : Nat) (s : State) : (s.takeUpUnits g).port = s.port := rfl
@[simp] theorem State.checkImages_pending (s : State) : (s.checkImages).pending = s.pending := rfl
@[simp] theorem State.checkImages_pins (s : State) : (s.checkImages).pins = s.pins := rfl
@[simp] theorem State.checkImages_config (s : State) : (s.checkImages).config = s.config := rfl
@[simp] theorem State.checkImages_time (s : State) : (s.checkImages).time = s.time := rfl
@[simp] theorem State.checkImages_lines (s : State) : (s.checkImages).lines = s.lines := rfl
@[simp] theorem State.checkImages_trips (s : State) : (s.checkImages).trips = s.trips := rfl
@[simp] theorem State.checkImages_units (s : State) : (s.checkImages).units = s.units := rfl
@[simp] theorem State.checkImages_watch (s : State) : (s.checkImages).watch = s.watch := rfl
@[simp] theorem State.checkImages_port (s : State) : (s.checkImages).port = s.port := rfl
@[simp] theorem State.pass_clock (dt : Nat) (s : State) :
    (s.pass dt).time.clock = if s.clockStands then s.time.clock else s.time.clock + dt := rfl
/-- While the Time Base is under main power the clock runs on (R1). -/
theorem State.pass_timeUp_eq (dt : Nat) (s : State) (h : s.timeUp = true) :
    s.pass dt = { s with time := { s.time with clock := s.time.clock + dt } } := by
  simp [State.pass, State.clockStands, h]
/-- While counting is stopped under backup supply no time passes (R20 action 5). -/
theorem State.pass_stands (dt : Nat) (s : State) (h : s.clockStands = true) : s.pass dt = s := by simp [State.pass, h]
@[simp] theorem State.reach_clock (m : Nat) (s : State) : (s.reach m).time.clock = max s.time.clock m := rfl
@[simp] theorem State.pass_up (dt : Nat) (s : State) : (s.pass dt).up = s.up := rfl
@[simp] theorem State.pass_timeUp (dt : Nat) (s : State) : (s.pass dt).timeUp = s.timeUp := rfl
@[simp] theorem State.pass_freeReply (dt : Nat) (s : State) : (s.pass dt).freeReply = s.freeReply := rfl

end Sys2Proof.Machine
end

