-- ==== Sys2Proof/Laws/Frames.lean ====
section
/-! SUPPORT. What each shared operation leaves as it was, field by field: the blocks an operation does not name stand. Provers cite these in place of unfolding. -/

namespace Sys2Proof.Machine

/-- A fold leaves a projection as it was when each of its steps does. -/
theorem foldl_keeps {α β : Type} (p : State → β) (f : State → α → State) (h : ∀ s a, p (f s a) = p s) (s : State) (l : List α) :
    p (l.foldl f s) = p s := by
  induction l generalizing s with
  | nil => rfl
  | cons a l ih => simp [ih, h]


/-! ### Conditions and replies -/

@[simp] theorem State.raiseWord_pending (w : Word32) (s : State) : (s.raiseWord w).pending = s.pending := by unfold State.raiseWord; split <;> rfl
@[simp] theorem State.raiseWord_pins (w : Word32) (s : State) : (s.raiseWord w).pins = s.pins := by unfold State.raiseWord; split <;> rfl
@[simp] theorem State.raiseWord_config (w : Word32) (s : State) : (s.raiseWord w).config = s.config := by unfold State.raiseWord; split <;> rfl
@[simp] theorem State.raiseWord_time (w : Word32) (s : State) : (s.raiseWord w).time = s.time := by unfold State.raiseWord; split <;> rfl
@[simp] theorem State.raiseWord_lines (w : Word32) (s : State) : (s.raiseWord w).lines = s.lines := by unfold State.raiseWord; split <;> rfl
@[simp] theorem State.raiseWord_trips (w : Word32) (s : State) : (s.raiseWord w).trips = s.trips := by unfold State.raiseWord; split <;> rfl
@[simp] theorem State.raiseWord_units (w : Word32) (s : State) : (s.raiseWord w).units = s.units := by unfold State.raiseWord; split <;> rfl
@[simp] theorem State.raiseWord_tally (w : Word32) (s : State) : (s.raiseWord w).tally = s.tally := by unfold State.raiseWord; split <;> rfl
@[simp] theorem State.raiseWord_store (w : Word32) (s : State) : (s.raiseWord w).store = s.store := by unfold State.raiseWord; split <;> rfl
@[simp] theorem State.raiseWord_watch (w : Word32) (s : State) : (s.raiseWord w).watch = s.watch := by unfold State.raiseWord; split <;> rfl
@[simp] theorem State.raise_pending (e : Event) (s : State) : (s.raise e).pending = s.pending := by simp [State.raise]
@[simp] theorem State.raise_pins (e : Event) (s : State) : (s.raise e).pins = s.pins := by simp [State.raise]
@[simp] theorem State.raise_config (e : Event) (s : State) : (s.raise e).config = s.config := by simp [State.raise]
@[simp] theorem State.raise_time (e : Event) (s : State) : (s.raise e).time = s.time := by simp [State.raise]
@[simp] theorem State.raise_lines (e : Event) (s : State) : (s.raise e).lines = s.lines := by simp [State.raise]
@[simp] theorem State.raise_trips (e : Event) (s : State) : (s.raise e).trips = s.trips := by simp [State.raise]
@[simp] theorem State.raise_units (e : Event) (s : State) : (s.raise e).units = s.units := by simp [State.raise]
@[simp] theorem State.raise_tally (e : Event) (s : State) : (s.raise e).tally = s.tally := by simp [State.raise]
@[simp] theorem State.raise_store (e : Event) (s : State) : (s.raise e).store = s.store := by simp [State.raise]
@[simp] theorem State.raise_watch (e : Event) (s : State) : (s.raise e).watch = s.watch := by simp [State.raise]
@[simp] theorem State.fill_pending (i : Fin 2) (hd : ReplyHead) (a : Answer) (s : State) : (s.fill i hd a).pending = s.pending := by unfold State.fill; split <;> rfl
@[simp] theorem State.fill_pins (i : Fin 2) (hd : ReplyHead) (a : Answer) (s : State) : (s.fill i hd a).pins = s.pins := by unfold State.fill; split <;> rfl
@[simp] theorem State.fill_config (i : Fin 2) (hd : ReplyHead) (a : Answer) (s : State) : (s.fill i hd a).config = s.config := by unfold State.fill; split <;> rfl
@[simp] theorem State.fill_time (i : Fin 2) (hd : ReplyHead) (a : Answer) (s : State) : (s.fill i hd a).time = s.time := by unfold State.fill; split <;> rfl
@[simp] theorem State.fill_lines (i : Fin 2) (hd : ReplyHead) (a : Answer) (s : State) : (s.fill i hd a).lines = s.lines := by unfold State.fill; split <;> rfl
@[simp] theorem State.fill_trips (i : Fin 2) (hd : ReplyHead) (a : Answer) (s : State) : (s.fill i hd a).trips = s.trips := by unfold State.fill; split <;> rfl
@[simp] theorem State.fill_units (i : Fin 2) (hd : ReplyHead) (a : Answer) (s : State) : (s.fill i hd a).units = s.units := by unfold State.fill; split <;> rfl
@[simp] theorem State.fill_tally (i : Fin 2) (hd : ReplyHead) (a : Answer) (s : State) : (s.fill i hd a).tally = s.tally := by unfold State.fill; split <;> rfl
@[simp] theorem State.fill_store (i : Fin 2) (hd : ReplyHead) (a : Answer) (s : State) : (s.fill i hd a).store = s.store := by unfold State.fill; split <;> rfl
@[simp] theorem State.fill_watch (i : Fin 2) (hd : ReplyHead) (a : Answer) (s : State) : (s.fill i hd a).watch = s.watch := by unfold State.fill; split <;> rfl
@[simp] theorem State.placeReserved_pending (c : ReplyCode) (s : State) : (s.placeReserved c).pending = s.pending := by unfold State.placeReserved; (repeat' split) <;> simp
@[simp] theorem State.placeReserved_pins (c : ReplyCode) (s : State) : (s.placeReserved c).pins = s.pins := by unfold State.placeReserved; (repeat' split) <;> simp
@[simp] theorem State.placeReserved_config (c : ReplyCode) (s : State) : (s.placeReserved c).config = s.config := by unfold State.placeReserved; (repeat' split) <;> simp
@[simp] theorem State.placeReserved_time (c : ReplyCode) (s : State) : (s.placeReserved c).time = s.time := by unfold State.placeReserved; (repeat' split) <;> simp
@[simp] theorem State.placeReserved_lines (c : ReplyCode) (s : State) : (s.placeReserved c).lines = s.lines := by unfold State.placeReserved; (repeat' split) <;> simp
@[simp] theorem State.placeReserved_trips (c : ReplyCode) (s : State) : (s.placeReserved c).trips = s.trips := by unfold State.placeReserved; (repeat' split) <;> simp
@[simp] theorem State.placeReserved_units (c : ReplyCode) (s : State) : (s.placeReserved c).units = s.units := by unfold State.placeReserved; (repeat' split) <;> simp
@[simp] theorem State.placeReserved_tally (c : ReplyCode) (s : State) : (s.placeReserved c).tally = s.tally := by unfold State.placeReserved; (repeat' split) <;> simp
@[simp] theorem State.placeReserved_store (c : ReplyCode) (s : State) : (s.placeReserved c).store = s.store := by unfold State.placeReserved; (repeat' split) <;> simp
@[simp] theorem State.placeReserved_watch (c : ReplyCode) (s : State) : (s.placeReserved c).watch = s.watch := by unfold State.placeReserved; (repeat' split) <;> simp
@[simp] theorem State.collectReply_pending (n : Nat) (s : State) : (s.collectReply n).pending = s.pending := by unfold State.collectReply; (repeat' split) <;> rfl
@[simp] theorem State.collectReply_pins (n : Nat) (s : State) : (s.collectReply n).pins = s.pins := by unfold State.collectReply; (repeat' split) <;> rfl
@[simp] theorem State.collectReply_config (n : Nat) (s : State) : (s.collectReply n).config = s.config := by unfold State.collectReply; (repeat' split) <;> rfl
@[simp] theorem State.collectReply_time (n : Nat) (s : State) : (s.collectReply n).time = s.time := by unfold State.collectReply; (repeat' split) <;> rfl
@[simp] theorem State.collectReply_lines (n : Nat) (s : State) : (s.collectReply n).lines = s.lines := by unfold State.collectReply; (repeat' split) <;> rfl
@[simp] theorem State.collectReply_trips (n : Nat) (s : State) : (s.collectReply n).trips = s.trips := by unfold State.collectReply; (repeat' split) <;> rfl
@[simp] theorem State.collectReply_units (n : Nat) (s : State) : (s.collectReply n).units = s.units := by unfold State.collectReply; (repeat' split) <;> rfl
@[simp] theorem State.collectReply_tally (n : Nat) (s : State) : (s.collectReply n).tally = s.tally := by unfold State.collectReply; (repeat' split) <;> rfl
@[simp] theorem State.collectReply_store (n : Nat) (s : State) : (s.collectReply n).store = s.store := by unfold State.collectReply; (repeat' split) <;> rfl
@[simp] theorem State.collectReply_watch (n : Nat) (s : State) : (s.collectReply n).watch = s.watch := by unfold State.collectReply; (repeat' split) <;> rfl
@[simp] theorem State.idleTransfer_pending (n : Nat) (s : State) : (s.idleTransfer n).pending = s.pending := by unfold State.idleTransfer; split <;> rfl
@[simp] theorem State.idleTransfer_pins (n : Nat) (s : State) : (s.idleTransfer n).pins = s.pins := by unfold State.idleTransfer; split <;> rfl
@[simp] theorem State.idleTransfer_config (n : Nat) (s : State) : (s.idleTransfer n).config = s.config := by unfold State.idleTransfer; split <;> rfl
@[simp] theorem State.idleTransfer_time (n : Nat) (s : State) : (s.idleTransfer n).time = s.time := by unfold State.idleTransfer; split <;> rfl
@[simp] theorem State.idleTransfer_lines (n : Nat) (s : State) : (s.idleTransfer n).lines = s.lines := by unfold State.idleTransfer; split <;> rfl
@[simp] theorem State.idleTransfer_trips (n : Nat) (s : State) : (s.idleTransfer n).trips = s.trips := by unfold State.idleTransfer; split <;> rfl
@[simp] theorem State.idleTransfer_units (n : Nat) (s : State) : (s.idleTransfer n).units = s.units := by unfold State.idleTransfer; split <;> rfl
@[simp] theorem State.idleTransfer_tally (n : Nat) (s : State) : (s.idleTransfer n).tally = s.tally := by unfold State.idleTransfer; split <;> rfl
@[simp] theorem State.idleTransfer_store (n : Nat) (s : State) : (s.idleTransfer n).store = s.store := by unfold State.idleTransfer; split <;> rfl
@[simp] theorem State.idleTransfer_watch (n : Nat) (s : State) : (s.idleTransfer n).watch = s.watch := by unfold State.idleTransfer; split <;> rfl

/-! ### Tally Engine and Trip Table -/

@[simp] theorem State.onBound_pending (f : Fin 8 → AccountClass → Option (Account → Account × Word32)) (s : State) : (s.onBound f).pending = s.pending := by simp [State.onBound]
@[simp] theorem State.onBound_pins (f : Fin 8 → AccountClass → Option (Account → Account × Word32)) (s : State) : (s.onBound f).pins = s.pins := by simp [State.onBound]
@[simp] theorem State.onBound_config (f : Fin 8 → AccountClass → Option (Account → Account × Word32)) (s : State) : (s.onBound f).config = s.config := by simp [State.onBound]
@[simp] theorem State.onBound_time (f : Fin 8 → AccountClass → Option (Account → Account × Word32)) (s : State) : (s.onBound f).time = s.time := by simp [State.onBound]
@[simp] theorem State.onBound_lines (f : Fin 8 → AccountClass → Option (Account → Account × Word32)) (s : State) : (s.onBound f).lines = s.lines := by simp [State.onBound]
@[simp] theorem State.onBound_trips (f : Fin 8 → AccountClass → Option (Account → Account × Word32)) (s : State) : (s.onBound f).trips = s.trips := by simp [State.onBound]
@[simp] theorem State.onBound_units (f : Fin 8 → AccountClass → Option (Account → Account × Word32)) (s : State) : (s.onBound f).units = s.units := by simp [State.onBound]
@[simp] theorem State.onBound_store (f : Fin 8 → AccountClass → Option (Account → Account × Word32)) (s : State) : (s.onBound f).store = s.store := by simp [State.onBound]
@[simp] theorem State.onBound_watch (f : Fin 8 → AccountClass → Option (Account → Account × Word32)) (s : State) : (s.onBound f).watch = s.watch := by simp [State.onBound]
@[simp] theorem State.takeAssertion_pending (a : Assertion) (s : State) : (s.takeAssertion a).pending = s.pending := by simp [State.takeAssertion]
@[simp] theorem State.takeAssertion_pins (a : Assertion) (s : State) : (s.takeAssertion a).pins = s.pins := by simp [State.takeAssertion]
@[simp] theorem State.takeAssertion_config (a : Assertion) (s : State) : (s.takeAssertion a).config = s.config := by simp [State.takeAssertion]
@[simp] theorem State.takeAssertion_time (a : Assertion) (s : State) : (s.takeAssertion a).time = s.time := by simp [State.takeAssertion]
@[simp] theorem State.takeAssertion_lines (a : Assertion) (s : State) : (s.takeAssertion a).lines = s.lines := by simp [State.takeAssertion]
@[simp] theorem State.takeAssertion_units (a : Assertion) (s : State) : (s.takeAssertion a).units = s.units := by simp [State.takeAssertion]
@[simp] theorem State.takeAssertion_tally (a : Assertion) (s : State) : (s.takeAssertion a).tally = s.tally := by simp [State.takeAssertion]
@[simp] theorem State.takeAssertion_store (a : Assertion) (s : State) : (s.takeAssertion a).store = s.store := by simp [State.takeAssertion]
@[simp] theorem State.takeAssertion_watch (a : Assertion) (s : State) : (s.takeAssertion a).watch = s.watch := by simp [State.takeAssertion]
@[simp] theorem State.takeReport_pending (u : Fin 8) (r : Report) (s : State) : (s.takeReport u r).pending = s.pending := by unfold State.takeReport; (repeat' split) <;> simp
@[simp] theorem State.takeReport_pins (u : Fin 8) (r : Report) (s : State) : (s.takeReport u r).pins = s.pins := by unfold State.takeReport; (repeat' split) <;> simp
@[simp] theorem State.takeReport_config (u : Fin 8) (r : Report) (s : State) : (s.takeReport u r).config = s.config := by unfold State.takeReport; (repeat' split) <;> simp
@[simp] theorem State.takeReport_time (u : Fin 8) (r : Report) (s : State) : (s.takeReport u r).time = s.time := by unfold State.takeReport; (repeat' split) <;> simp
@[simp] theorem State.takeReport_lines (u : Fin 8) (r : Report) (s : State) : (s.takeReport u r).lines = s.lines := by unfold State.takeReport; (repeat' split) <;> simp
@[simp] theorem State.takeReport_trips (u : Fin 8) (r : Report) (s : State) : (s.takeReport u r).trips = s.trips := by unfold State.takeReport; (repeat' split) <;> simp
@[simp] theorem State.takeReport_units (u : Fin 8) (r : Report) (s : State) : (s.takeReport u r).units = s.units := by unfold State.takeReport; (repeat' split) <;> simp
@[simp] theorem State.takeReport_store (u : Fin 8) (r : Report) (s : State) : (s.takeReport u r).store = s.store := by unfold State.takeReport; (repeat' split) <;> simp
@[simp] theorem State.takeReport_watch (u : Fin 8) (r : Report) (s : State) : (s.takeReport u r).watch = s.watch := by unfold State.takeReport; (repeat' split) <;> simp
@[simp] theorem State.takeTripReport_pending (u : Fin 8) (m : UnitMode) (s : State) : (s.takeTripReport u m).pending = s.pending := by simp [State.takeTripReport]
@[simp] theorem State.takeTripReport_pins (u : Fin 8) (m : UnitMode) (s : State) : (s.takeTripReport u m).pins = s.pins := by simp [State.takeTripReport]
@[simp] theorem State.takeTripReport_config (u : Fin 8) (m : UnitMode) (s : State) : (s.takeTripReport u m).config = s.config := by simp [State.takeTripReport]
@[simp] theorem State.takeTripReport_time (u : Fin 8) (m : UnitMode) (s : State) : (s.takeTripReport u m).time = s.time := by simp [State.takeTripReport]
@[simp] theorem State.takeTripReport_lines (u : Fin 8) (m : UnitMode) (s : State) : (s.takeTripReport u m).lines = s.lines := by simp [State.takeTripReport]
@[simp] theorem State.takeTripReport_trips (u : Fin 8) (m : UnitMode) (s : State) : (s.takeTripReport u m).trips = s.trips := by simp [State.takeTripReport]
@[simp] theorem State.takeTripReport_units (u : Fin 8) (m : UnitMode) (s : State) : (s.takeTripReport u m).units = s.units := by simp [State.takeTripReport]
@[simp] theorem State.takeTripReport_store (u : Fin 8) (m : UnitMode) (s : State) : (s.takeTripReport u m).store = s.store := by simp [State.takeTripReport]
@[simp] theorem State.takeTripReport_watch (u : Fin 8) (m : UnitMode) (s : State) : (s.takeTripReport u m).watch = s.watch := by simp [State.takeTripReport]
@[simp] theorem State.tallyTick_pending (s : State) : (s.tallyTick).pending = s.pending := by simp [State.tallyTick]
@[simp] theorem State.tallyTick_pins (s : State) : (s.tallyTick).pins = s.pins := by simp [State.tallyTick]
@[simp] theorem State.tallyTick_config (s : State) : (s.tallyTick).config = s.config := by simp [State.tallyTick]
@[simp] theorem State.tallyTick_time (s : State) : (s.tallyTick).time = s.time := by simp [State.tallyTick]
@[simp] theorem State.tallyTick_lines (s : State) : (s.tallyTick).lines = s.lines := by simp [State.tallyTick]
@[simp] theorem State.tallyTick_trips (s : State) : (s.tallyTick).trips = s.trips := by simp [State.tallyTick]
@[simp] theorem State.tallyTick_units (s : State) : (s.tallyTick).units = s.units := by simp [State.tallyTick]
@[simp] theorem State.tallyTick_store (s : State) : (s.tallyTick).store = s.store := by simp [State.tallyTick]
@[simp] theorem State.tallyTick_watch (s : State) : (s.tallyTick).watch = s.watch := by simp [State.tallyTick]
@[simp] theorem State.credit_pending (s : State) : (s.credit).pending = s.pending := by simp [State.credit]
@[simp] theorem State.credit_pins (s : State) : (s.credit).pins = s.pins := by simp [State.credit]
@[simp] theorem State.credit_config (s : State) : (s.credit).config = s.config := by simp [State.credit]
@[simp] theorem State.credit_time (s : State) : (s.credit).time = s.time := by simp [State.credit]
@[simp] theorem State.credit_lines (s : State) : (s.credit).lines = s.lines := by simp [State.credit]
@[simp] theorem State.credit_trips (s : State) : (s.credit).trips = s.trips := by simp [State.credit]
@[simp] theorem State.credit_units (s : State) : (s.credit).units = s.units := by simp [State.credit]
@[simp] theorem State.credit_store (s : State) : (s.credit).store = s.store := by simp [State.credit]
@[simp] theorem State.credit_watch (s : State) : (s.credit).watch = s.watch := by simp [State.credit]

/-! ### Scanner -/

@[simp] theorem State.reportTrip_pending (l : Fin 32) (m : TripMode) (s : State) : (s.reportTrip l m).pending = s.pending := by unfold State.reportTrip; (repeat' split) <;> simp
@[simp] theorem State.reportTrip_pins (l : Fin 32) (m : TripMode) (s : State) : (s.reportTrip l m).pins = s.pins := by unfold State.reportTrip; (repeat' split) <;> simp
@[simp] theorem State.reportTrip_config (l : Fin 32) (m : TripMode) (s : State) : (s.reportTrip l m).config = s.config := by unfold State.reportTrip; (repeat' split) <;> simp
@[simp] theorem State.reportTrip_time (l : Fin 32) (m : TripMode) (s : State) : (s.reportTrip l m).time = s.time := by unfold State.reportTrip; (repeat' split) <;> simp
@[simp] theorem State.reportTrip_lines (l : Fin 32) (m : TripMode) (s : State) : (s.reportTrip l m).lines = s.lines := by unfold State.reportTrip; (repeat' split) <;> simp
@[simp] theorem State.reportTrip_trips (l : Fin 32) (m : TripMode) (s : State) : (s.reportTrip l m).trips = s.trips := by unfold State.reportTrip; (repeat' split) <;> simp
@[simp] theorem State.reportTrip_units (l : Fin 32) (m : TripMode) (s : State) : (s.reportTrip l m).units = s.units := by unfold State.reportTrip; (repeat' split) <;> simp
@[simp] theorem State.reportTrip_store (l : Fin 32) (m : TripMode) (s : State) : (s.reportTrip l m).store = s.store := by unfold State.reportTrip; (repeat' split) <;> simp
@[simp] theorem State.reportTrip_watch (l : Fin 32) (m : TripMode) (s : State) : (s.reportTrip l m).watch = s.watch := by unfold State.reportTrip; (repeat' split) <;> simp
@[simp] theorem State.handOn_pending (l : Fin 32) (e : LineEvent) (s : State) : (s.handOn l e).pending = s.pending := by unfold State.handOn; (repeat' split) <;> simp
@[simp] theorem State.handOn_pins (l : Fin 32) (e : LineEvent) (s : State) : (s.handOn l e).pins = s.pins := by unfold State.handOn; (repeat' split) <;> simp
@[simp] theorem State.handOn_config (l : Fin 32) (e : LineEvent) (s : State) : (s.handOn l e).config = s.config := by unfold State.handOn; (repeat' split) <;> simp
@[simp] theorem State.handOn_time (l : Fin 32) (e : LineEvent) (s : State) : (s.handOn l e).time = s.time := by unfold State.handOn; (repeat' split) <;> simp
@[simp] theorem State.handOn_units (l : Fin 32) (e : LineEvent) (s : State) : (s.handOn l e).units = s.units := by unfold State.handOn; (repeat' split) <;> simp
@[simp] theorem State.handOn_store (l : Fin 32) (e : LineEvent) (s : State) : (s.handOn l e).store = s.store := by unfold State.handOn; (repeat' split) <;> simp
@[simp] theorem State.handOn_watch (l : Fin 32) (e : LineEvent) (s : State) : (s.handOn l e).watch = s.watch := by unfold State.handOn; (repeat' split) <;> simp
@[simp] theorem State.sampleOne_pending (st : Stamp) (lv : Vector Bool 32) (l : Fin 32) (s : State) : (s.sampleOne st lv l).pending = s.pending := by unfold State.sampleOne; dsimp only; (repeat' split) <;> simp
@[simp] theorem State.sampleOne_pins (st : Stamp) (lv : Vector Bool 32) (l : Fin 32) (s : State) : (s.sampleOne st lv l).pins = s.pins := by unfold State.sampleOne; dsimp only; (repeat' split) <;> simp
@[simp] theorem State.sampleOne_config (st : Stamp) (lv : Vector Bool 32) (l : Fin 32) (s : State) : (s.sampleOne st lv l).config = s.config := by unfold State.sampleOne; dsimp only; (repeat' split) <;> simp
@[simp] theorem State.sampleOne_time (st : Stamp) (lv : Vector Bool 32) (l : Fin 32) (s : State) : (s.sampleOne st lv l).time = s.time := by unfold State.sampleOne; dsimp only; (repeat' split) <;> simp
@[simp] theorem State.sampleOne_units (st : Stamp) (lv : Vector Bool 32) (l : Fin 32) (s : State) : (s.sampleOne st lv l).units = s.units := by unfold State.sampleOne; dsimp only; (repeat' split) <;> simp
@[simp] theorem State.sampleOne_store (st : Stamp) (lv : Vector Bool 32) (l : Fin 32) (s : State) : (s.sampleOne st lv l).store = s.store := by unfold State.sampleOne; dsimp only; (repeat' split) <;> simp
@[simp] theorem State.sampleOne_watch (st : Stamp) (lv : Vector Bool 32) (l : Fin 32) (s : State) : (s.sampleOne st lv l).watch = s.watch := by unfold State.sampleOne; dsimp only; (repeat' split) <;> simp
@[simp] theorem State.sampleLines_pending (lv : Vector Bool 32) (fs : List (Fin 32)) (s : State) : (s.sampleLines lv fs).pending = s.pending := foldl_keeps (·.pending) _ (fun s i => by simp) s _
@[simp] theorem State.sampleLines_pins (lv : Vector Bool 32) (fs : List (Fin 32)) (s : State) : (s.sampleLines lv fs).pins = s.pins := foldl_keeps (·.pins) _ (fun s i => by simp) s _
@[simp] theorem State.sampleLines_config (lv : Vector Bool 32) (fs : List (Fin 32)) (s : State) : (s.sampleLines lv fs).config = s.config := foldl_keeps (·.config) _ (fun s i => by simp) s _
@[simp] theorem State.sampleLines_time (lv : Vector Bool 32) (fs : List (Fin 32)) (s : State) : (s.sampleLines lv fs).time = s.time := foldl_keeps (·.time) _ (fun s i => by simp) s _
@[simp] theorem State.sampleLines_units (lv : Vector Bool 32) (fs : List (Fin 32)) (s : State) : (s.sampleLines lv fs).units = s.units := foldl_keeps (·.units) _ (fun s i => by simp) s _
@[simp] theorem State.sampleLines_store (lv : Vector Bool 32) (fs : List (Fin 32)) (s : State) : (s.sampleLines lv fs).store = s.store := foldl_keeps (·.store) _ (fun s i => by simp) s _
@[simp] theorem State.sampleLines_watch (lv : Vector Bool 32) (fs : List (Fin 32)) (s : State) : (s.sampleLines lv fs).watch = s.watch := foldl_keeps (·.watch) _ (fun s i => by simp) s _
@[simp] theorem State.endTests_pending (d : TestInjection → Bool) (s : State) : (s.endTests d).pending = s.pending := foldl_keeps (·.pending) _ (fun s i => by split <;> simp) s _
@[simp] theorem State.endTests_pins (d : TestInjection → Bool) (s : State) : (s.endTests d).pins = s.pins := foldl_keeps (·.pins) _ (fun s i => by split <;> simp) s _
@[simp] theorem State.endTests_config (d : TestInjection → Bool) (s : State) : (s.endTests d).config = s.config := foldl_keeps (·.config) _ (fun s i => by split <;> simp) s _
@[simp] theorem State.endTests_time (d : TestInjection → Bool) (s : State) : (s.endTests d).time = s.time := foldl_keeps (·.time) _ (fun s i => by split <;> simp) s _
@[simp] theorem State.endTests_units (d : TestInjection → Bool) (s : State) : (s.endTests d).units = s.units := foldl_keeps (·.units) _ (fun s i => by split <;> simp) s _
@[simp] theorem State.endTests_tally (d : TestInjection → Bool) (s : State) : (s.endTests d).tally = s.tally := foldl_keeps (·.tally) _ (fun s i => by split <;> simp) s _
@[simp] theorem State.endTests_store (d : TestInjection → Bool) (s : State) : (s.endTests d).store = s.store := foldl_keeps (·.store) _ (fun s i => by split <;> simp) s _
@[simp] theorem State.endTests_watch (d : TestInjection → Bool) (s : State) : (s.endTests d).watch = s.watch := foldl_keeps (·.watch) _ (fun s i => by split <;> simp) s _
@[simp] theorem State.endTests_port (d : TestInjection → Bool) (s : State) : (s.endTests d).port = s.port := foldl_keeps (·.port) _ (fun s i => by split <;> simp) s _
@[simp] theorem State.scannerTick_pending (s : State) : (s.scannerTick).pending = s.pending := by simp [State.scannerTick]
@[simp] theorem State.scannerTick_pins (s : State) : (s.scannerTick).pins = s.pins := by simp [State.scannerTick]
@[simp] theorem State.scannerTick_config (s : State) : (s.scannerTick).config = s.config := by simp [State.scannerTick]
@[simp] theorem State.scannerTick_time (s : State) : (s.scannerTick).time = s.time := by simp [State.scannerTick]
@[simp] theorem State.scannerTick_units (s : State) : (s.scannerTick).units = s.units := by simp [State.scannerTick]
@[simp] theorem State.scannerTick_tally (s : State) : (s.scannerTick).tally = s.tally := by simp [State.scannerTick]
@[simp] theorem State.scannerTick_store (s : State) : (s.scannerTick).store = s.store := by simp [State.scannerTick]
@[simp] theorem State.scannerTick_watch (s : State) : (s.scannerTick).watch = s.watch := by simp [State.scannerTick]
@[simp] theorem State.scannerTick_port (s : State) : (s.scannerTick).port = s.port := by simp [State.scannerTick]
@[simp] theorem State.takeUpLines_pending (s : State) : (s.takeUpLines).pending = s.pending := by simp [State.takeUpLines]
@[simp] theorem State.takeUpLines_pins (s : State) : (s.takeUpLines).pins = s.pins := by simp [State.takeUpLines]
@[simp] theorem State.takeUpLines_config (s : State) : (s.takeUpLines).config = s.config := by simp [State.takeUpLines]
@[simp] theorem State.takeUpLines_time (s : State) : (s.takeUpLines).time = s.time := by simp [State.takeUpLines]
@[simp] theorem State.takeUpLines_units (s : State) : (s.takeUpLines).units = s.units := by simp [State.takeUpLines]
@[simp] theorem State.takeUpLines_tally (s : State) : (s.takeUpLines).tally = s.tally := by simp [State.takeUpLines]
@[simp] theorem State.takeUpLines_store (s : State) : (s.takeUpLines).store = s.store := by simp [State.takeUpLines]
@[simp] theorem State.takeUpLines_watch (s : State) : (s.takeUpLines).watch = s.watch := by simp [State.takeUpLines]
@[simp] theorem State.takeUpLines_port (s : State) : (s.takeUpLines).port = s.port := by simp [State.takeUpLines]

/-! ### Mode Tracker -/

@[simp] theorem State.sampleUnit_pending (ls : Vector UnitLines 8) (u : Fin 8) (s : State) : (s.sampleUnit ls u).pending = s.pending := (foldl_keeps (·.pending) _ (fun s i => by simp) _ _).trans rfl
@[simp] theorem State.sampleUnit_pins (ls : Vector UnitLines 8) (u : Fin 8) (s : State) : (s.sampleUnit ls u).pins = s.pins := (foldl_keeps (·.pins) _ (fun s i => by simp) _ _).trans rfl
@[simp] theorem State.sampleUnit_config (ls : Vector UnitLines 8) (u : Fin 8) (s : State) : (s.sampleUnit ls u).config = s.config := (foldl_keeps (·.config) _ (fun s i => by simp) _ _).trans rfl
@[simp] theorem State.sampleUnit_time (ls : Vector UnitLines 8) (u : Fin 8) (s : State) : (s.sampleUnit ls u).time = s.time := (foldl_keeps (·.time) _ (fun s i => by simp) _ _).trans rfl
@[simp] theorem State.sampleUnit_lines (ls : Vector UnitLines 8) (u : Fin 8) (s : State) : (s.sampleUnit ls u).lines = s.lines := (foldl_keeps (·.lines) _ (fun s i => by simp) _ _).trans rfl
@[simp] theorem State.sampleUnit_trips (ls : Vector UnitLines 8) (u : Fin 8) (s : State) : (s.sampleUnit ls u).trips = s.trips := (foldl_keeps (·.trips) _ (fun s i => by simp) _ _).trans rfl
@[simp] theorem State.sampleUnit_store (ls : Vector UnitLines 8) (u : Fin 8) (s : State) : (s.sampleUnit ls u).store = s.store := (foldl_keeps (·.store) _ (fun s i => by simp) _ _).trans rfl
@[simp] theorem State.sampleUnit_watch (ls : Vector UnitLines 8) (u : Fin 8) (s : State) : (s.sampleUnit ls u).watch = s.watch := (foldl_keeps (·.watch) _ (fun s i => by simp) _ _).trans rfl
@[simp] theorem State.sampleUnits_pending (ls : Vector UnitLines 8) (s : State) : (s.sampleUnits ls).pending = s.pending := foldl_keeps (·.pending) _ (fun s i => by simp) s _
@[simp] theorem State.sampleUnits_pins (ls : Vector UnitLines 8) (s : State) : (s.sampleUnits ls).pins = s.pins := foldl_keeps (·.pins) _ (fun s i => by simp) s _
@[simp] theorem State.sampleUnits_config (ls : Vector UnitLines 8) (s : State) : (s.sampleUnits ls).config = s.config := foldl_keeps (·.config) _ (fun s i => by simp) s _
@[simp] theorem State.sampleUnits_time (ls : Vector UnitLines 8) (s : State) : (s.sampleUnits ls).time = s.time := foldl_keeps (·.time) _ (fun s i => by simp) s _
@[simp] theorem State.sampleUnits_lines (ls : Vector UnitLines 8) (s : State) : (s.sampleUnits ls).lines = s.lines := foldl_keeps (·.lines) _ (fun s i => by simp) s _
@[simp] theorem State.sampleUnits_trips (ls : Vector UnitLines 8) (s : State) : (s.sampleUnits ls).trips = s.trips := foldl_keeps (·.trips) _ (fun s i => by simp) s _
@[simp] theorem State.sampleUnits_store (ls : Vector UnitLines 8) (s : State) : (s.sampleUnits ls).store = s.store := foldl_keeps (·.store) _ (fun s i => by simp) s _
@[simp] theorem State.sampleUnits_watch (ls : Vector UnitLines 8) (s : State) : (s.sampleUnits ls).watch = s.watch := foldl_keeps (·.watch) _ (fun s i => by simp) s _

/-! ### Store Controller -/

@[simp] theorem State.grantConfig_pending (s : State) : (s.grantConfig).pending = s.pending := by unfold State.grantConfig; (repeat' split) <;> simp
@[simp] theorem State.grantConfig_pins (s : State) : (s.grantConfig).pins = s.pins := by unfold State.grantConfig; (repeat' split) <;> simp
@[simp] theorem State.grantConfig_config (s : State) : (s.grantConfig).config = s.config := by unfold State.grantConfig; (repeat' split) <;> simp
@[simp] theorem State.grantConfig_time (s : State) : (s.grantConfig).time = s.time := by unfold State.grantConfig; (repeat' split) <;> simp
@[simp] theorem State.grantConfig_lines (s : State) : (s.grantConfig).lines = s.lines := by unfold State.grantConfig; (repeat' split) <;> simp
@[simp] theorem State.grantConfig_trips (s : State) : (s.grantConfig).trips = s.trips := by unfold State.grantConfig; (repeat' split) <;> simp
@[simp] theorem State.grantConfig_units (s : State) : (s.grantConfig).units = s.units := by unfold State.grantConfig; (repeat' split) <;> simp
@[simp] theorem State.grantConfig_tally (s : State) : (s.grantConfig).tally = s.tally := by unfold State.grantConfig; (repeat' split) <;> simp
@[simp] theorem State.grantConfig_watch (s : State) : (s.grantConfig).watch = s.watch := by unfold State.grantConfig; (repeat' split) <;> simp
@[simp] theorem State.grantConfig_port (s : State) : (s.grantConfig).port = s.port := by unfold State.grantConfig; (repeat' split) <;> simp
@[simp] theorem State.endWalk_pending (s : State) : (s.endWalk).pending = s.pending := by unfold State.endWalk State.visit; dsimp only; (repeat' split) <;> simp
@[simp] theorem State.endWalk_pins (s : State) : (s.endWalk).pins = s.pins := by unfold State.endWalk State.visit; dsimp only; (repeat' split) <;> simp
@[simp] theorem State.endWalk_config (s : State) : (s.endWalk).config = s.config := by unfold State.endWalk State.visit; dsimp only; (repeat' split) <;> simp
@[simp] theorem State.endWalk_time (s : State) : (s.endWalk).time = s.time := by unfold State.endWalk State.visit; dsimp only; (repeat' split) <;> simp
@[simp] theorem State.endWalk_lines (s : State) : (s.endWalk).lines = s.lines := by unfold State.endWalk State.visit; dsimp only; (repeat' split) <;> simp
@[simp] theorem State.endWalk_trips (s : State) : (s.endWalk).trips = s.trips := by unfold State.endWalk State.visit; dsimp only; (repeat' split) <;> simp
@[simp] theorem State.endWalk_units (s : State) : (s.endWalk).units = s.units := by unfold State.endWalk State.visit; dsimp only; (repeat' split) <;> simp
@[simp] theorem State.endWalk_watch (s : State) : (s.endWalk).watch = s.watch := by unfold State.endWalk State.visit; dsimp only; (repeat' split) <;> simp
@[simp] theorem State.endWalk_port (s : State) : (s.endWalk).port = s.port := by unfold State.endWalk State.visit; dsimp only; (repeat' split) <;> simp
@[simp] theorem State.goOn_pending (i : Nat) (s : State) : (s.goOn i).pending = s.pending := by unfold State.goOn State.visit; dsimp only; (repeat' split) <;> simp
@[simp] theorem State.goOn_pins (i : Nat) (s : State) : (s.goOn i).pins = s.pins := by unfold State.goOn State.visit; dsimp only; (repeat' split) <;> simp
@[simp] theorem State.goOn_config (i : Nat) (s : State) : (s.goOn i).config = s.config := by unfold State.goOn State.visit; dsimp only; (repeat' split) <;> simp
@[simp] theorem State.goOn_time (i : Nat) (s : State) : (s.goOn i).time = s.time := by unfold State.goOn State.visit; dsimp only; (repeat' split) <;> simp
@[simp] theorem State.goOn_lines (i : Nat) (s : State) : (s.goOn i).lines = s.lines := by unfold State.goOn State.visit; dsimp only; (repeat' split) <;> simp
@[simp] theorem State.goOn_trips (i : Nat) (s : State) : (s.goOn i).trips = s.trips := by unfold State.goOn State.visit; dsimp only; (repeat' split) <;> simp
@[simp] theorem State.goOn_units (i : Nat) (s : State) : (s.goOn i).units = s.units := by unfold State.goOn State.visit; dsimp only; (repeat' split) <;> simp
@[simp] theorem State.goOn_watch (i : Nat) (s : State) : (s.goOn i).watch = s.watch := by unfold State.goOn State.visit; dsimp only; (repeat' split) <;> simp
@[simp] theorem State.goOn_port (i : Nat) (s : State) : (s.goOn i).port = s.port := by unfold State.goOn State.visit; dsimp only; (repeat' split) <;> simp
@[simp] theorem State.trigger_pending (s : State) : (s.trigger).pending = s.pending := by unfold State.trigger; (repeat' split) <;> simp
@[simp] theorem State.trigger_pins (s : State) : (s.trigger).pins = s.pins := by unfold State.trigger; (repeat' split) <;> simp
@[simp] theorem State.trigger_config (s : State) : (s.trigger).config = s.config := by unfold State.trigger; (repeat' split) <;> simp
@[simp] theorem State.trigger_time (s : State) : (s.trigger).time = s.time := by unfold State.trigger; (repeat' split) <;> simp
@[simp] theorem State.trigger_lines (s : State) : (s.trigger).lines = s.lines := by unfold State.trigger; (repeat' split) <;> simp
@[simp] theorem State.trigger_trips (s : State) : (s.trigger).trips = s.trips := by unfold State.trigger; (repeat' split) <;> simp
@[simp] theorem State.trigger_units (s : State) : (s.trigger).units = s.units := by unfold State.trigger; (repeat' split) <;> simp
@[simp] theorem State.trigger_watch (s : State) : (s.trigger).watch = s.watch := by unfold State.trigger; (repeat' split) <;> simp
@[simp] theorem State.trigger_port (s : State) : (s.trigger).port = s.port := by unfold State.trigger; (repeat' split) <;> simp
@[simp] theorem State.beginFinal_pending (s : State) : (s.beginFinal).pending = s.pending := by simp [State.beginFinal]
@[simp] theorem State.beginFinal_pins (s : State) : (s.beginFinal).pins = s.pins := by simp [State.beginFinal]
@[simp] theorem State.beginFinal_config (s : State) : (s.beginFinal).config = s.config := by simp [State.beginFinal]
@[simp] theorem State.beginFinal_time (s : State) : (s.beginFinal).time = s.time := by simp [State.beginFinal]
@[simp] theorem State.beginFinal_lines (s : State) : (s.beginFinal).lines = s.lines := by simp [State.beginFinal]
@[simp] theorem State.beginFinal_trips (s : State) : (s.beginFinal).trips = s.trips := by simp [State.beginFinal]
@[simp] theorem State.beginFinal_units (s : State) : (s.beginFinal).units = s.units := by simp [State.beginFinal]
@[simp] theorem State.beginFinal_watch (s : State) : (s.beginFinal).watch = s.watch := by simp [State.beginFinal]
@[simp] theorem State.beginFinal_port (s : State) : (s.beginFinal).port = s.port := by simp [State.beginFinal]
@[simp] theorem State.takeWarning_pending (s : State) : (s.takeWarning).pending = s.pending := by unfold State.takeWarning; (repeat' split) <;> simp
@[simp] theorem State.takeWarning_pins (s : State) : (s.takeWarning).pins = s.pins := by unfold State.takeWarning; (repeat' split) <;> simp
@[simp] theorem State.takeWarning_config (s : State) : (s.takeWarning).config = s.config := by unfold State.takeWarning; (repeat' split) <;> simp
@[simp] theorem State.takeWarning_time (s : State) : (s.takeWarning).time = s.time := by unfold State.takeWarning; (repeat' split) <;> simp
@[simp] theorem State.takeWarning_lines (s : State) : (s.takeWarning).lines = s.lines := by unfold State.takeWarning; (repeat' split) <;> simp
@[simp] theorem State.takeWarning_trips (s : State) : (s.takeWarning).trips = s.trips := by unfold State.takeWarning; (repeat' split) <;> simp
@[simp] theorem State.takeWarning_units (s : State) : (s.takeWarning).units = s.units := by unfold State.takeWarning; (repeat' split) <;> simp
@[simp] theorem State.takeWarning_watch (s : State) : (s.takeWarning).watch = s.watch := by unfold State.takeWarning; (repeat' split) <;> simp
@[simp] theorem State.takeWarning_port (s : State) : (s.takeWarning).port = s.port := by unfold State.takeWarning; (repeat' split) <;> simp
@[simp] theorem State.releaseWalk_pending (s : State) : (s.releaseWalk).pending = s.pending := by unfold State.releaseWalk; (repeat' split) <;> simp
@[simp] theorem State.releaseWalk_pins (s : State) : (s.releaseWalk).pins = s.pins := by unfold State.releaseWalk; (repeat' split) <;> simp
@[simp] theorem State.releaseWalk_config (s : State) : (s.releaseWalk).config = s.config := by unfold State.releaseWalk; (repeat' split) <;> simp
@[simp] theorem State.releaseWalk_time (s : State) : (s.releaseWalk).time = s.time := by unfold State.releaseWalk; (repeat' split) <;> simp
@[simp] theorem State.releaseWalk_lines (s : State) : (s.releaseWalk).lines = s.lines := by unfold State.releaseWalk; (repeat' split) <;> simp
@[simp] theorem State.releaseWalk_trips (s : State) : (s.releaseWalk).trips = s.trips := by unfold State.releaseWalk; (repeat' split) <;> simp
@[simp] theorem State.releaseWalk_units (s : State) : (s.releaseWalk).units = s.units := by unfold State.releaseWalk; (repeat' split) <;> simp
@[simp] theorem State.releaseWalk_tally (s : State) : (s.releaseWalk).tally = s.tally := by unfold State.releaseWalk; (repeat' split) <;> simp
@[simp] theorem State.releaseWalk_watch (s : State) : (s.releaseWalk).watch = s.watch := by unfold State.releaseWalk; (repeat' split) <;> simp
@[simp] theorem State.releaseWalk_port (s : State) : (s.releaseWalk).port = s.port := by unfold State.releaseWalk; (repeat' split) <;> simp
@[simp] theorem State.afterImage_pending (i : Fin 32) (s : State) : (s.afterImage i).pending = s.pending := by unfold State.afterImage; (repeat' split) <;> simp
@[simp] theorem State.afterImage_pins (i : Fin 32) (s : State) : (s.afterImage i).pins = s.pins := by unfold State.afterImage; (repeat' split) <;> simp
@[simp] theorem State.afterImage_config (i : Fin 32) (s : State) : (s.afterImage i).config = s.config := by unfold State.afterImage; (repeat' split) <;> simp
@[simp] theorem State.afterImage_time (i : Fin 32) (s : State) : (s.afterImage i).time = s.time := by unfold State.afterImage; (repeat' split) <;> simp
@[simp] theorem State.afterImage_lines (i : Fin 32) (s : State) : (s.afterImage i).lines = s.lines := by unfold State.afterImage; (repeat' split) <;> simp
@[simp] theorem State.afterImage_trips (i : Fin 32) (s : State) : (s.afterImage i).trips = s.trips := by unfold State.afterImage; (repeat' split) <;> simp
@[simp] theorem State.afterImage_units (i : Fin 32) (s : State) : (s.afterImage i).units = s.units := by unfold State.afterImage; (repeat' split) <;> simp
@[simp] theorem State.afterImage_watch (i : Fin 32) (s : State) : (s.afterImage i).watch = s.watch := by unfold State.afterImage; (repeat' split) <;> simp
@[simp] theorem State.afterImage_port (i : Fin 32) (s : State) : (s.afterImage i).port = s.port := by unfold State.afterImage; (repeat' split) <;> simp
@[simp] theorem State.afterConfig_pending (s : State) : (s.afterConfig).pending = s.pending := by unfold State.afterConfig; (repeat' split) <;> simp
@[simp] theorem State.afterConfig_pins (s : State) : (s.afterConfig).pins = s.pins := by unfold State.afterConfig; (repeat' split) <;> simp
@[simp] theorem State.afterConfig_config (s : State) : (s.afterConfig).config = s.config := by unfold State.afterConfig; (repeat' split) <;> simp
@[simp] theorem State.afterConfig_time (s : State) : (s.afterConfig).time = s.time := by unfold State.afterConfig; (repeat' split) <;> simp
@[simp] theorem State.afterConfig_lines (s : State) : (s.afterConfig).lines = s.lines := by unfold State.afterConfig; (repeat' split) <;> simp
@[simp] theorem State.afterConfig_trips (s : State) : (s.afterConfig).trips = s.trips := by unfold State.afterConfig; (repeat' split) <;> simp
@[simp] theorem State.afterConfig_units (s : State) : (s.afterConfig).units = s.units := by unfold State.afterConfig; (repeat' split) <;> simp
@[simp] theorem State.afterConfig_watch (s : State) : (s.afterConfig).watch = s.watch := by unfold State.afterConfig; (repeat' split) <;> simp
@[simp] theorem State.afterConfig_port (s : State) : (s.afterConfig).port = s.port := by unfold State.afterConfig; (repeat' split) <;> simp
@[simp] theorem State.imageEnd_pending (v : ImageVerify) (s : State) : (s.imageEnd v).pending = s.pending := by unfold State.imageEnd; (repeat' split) <;> simp
@[simp] theorem State.imageEnd_pins (v : ImageVerify) (s : State) : (s.imageEnd v).pins = s.pins := by unfold State.imageEnd; (repeat' split) <;> simp
@[simp] theorem State.imageEnd_config (v : ImageVerify) (s : State) : (s.imageEnd v).config = s.config := by unfold State.imageEnd; (repeat' split) <;> simp
@[simp] theorem State.imageEnd_time (v : ImageVerify) (s : State) : (s.imageEnd v).time = s.time := by unfold State.imageEnd; (repeat' split) <;> simp
@[simp] theorem State.imageEnd_lines (v : ImageVerify) (s : State) : (s.imageEnd v).lines = s.lines := by unfold State.imageEnd; (repeat' split) <;> simp
@[simp] theorem State.imageEnd_trips (v : ImageVerify) (s : State) : (s.imageEnd v).trips = s.trips := by unfold State.imageEnd; (repeat' split) <;> simp
@[simp] theorem State.imageEnd_units (v : ImageVerify) (s : State) : (s.imageEnd v).units = s.units := by unfold State.imageEnd; (repeat' split) <;> simp
@[simp] theorem State.imageEnd_watch (v : ImageVerify) (s : State) : (s.imageEnd v).watch = s.watch := by unfold State.imageEnd; (repeat' split) <;> simp
@[simp] theorem State.imageEnd_port (v : ImageVerify) (s : State) : (s.imageEnd v).port = s.port := by unfold State.imageEnd; (repeat' split) <;> simp
@[simp] theorem State.configEnd_pending (v : ConfigVerify) (s : State) : ((s.configEnd v).1).pending = s.pending := by unfold State.configEnd; (repeat' split) <;> rfl
@[simp] theorem State.configEnd_pins (v : ConfigVerify) (s : State) : ((s.configEnd v).1).pins = s.pins := by unfold State.configEnd; (repeat' split) <;> rfl
@[simp] theorem State.configEnd_config (v : ConfigVerify) (s : State) : ((s.configEnd v).1).config = s.config := by unfold State.configEnd; (repeat' split) <;> rfl
@[simp] theorem State.configEnd_time (v : ConfigVerify) (s : State) : ((s.configEnd v).1).time = s.time := by unfold State.configEnd; (repeat' split) <;> rfl
@[simp] theorem State.configEnd_lines (v : ConfigVerify) (s : State) : ((s.configEnd v).1).lines = s.lines := by unfold State.configEnd; (repeat' split) <;> rfl
@[simp] theorem State.configEnd_trips (v : ConfigVerify) (s : State) : ((s.configEnd v).1).trips = s.trips := by unfold State.configEnd; (repeat' split) <;> rfl
@[simp] theorem State.configEnd_units (v : ConfigVerify) (s : State) : ((s.configEnd v).1).units = s.units := by unfold State.configEnd; (repeat' split) <;> rfl
@[simp] theorem State.configEnd_tally (v : ConfigVerify) (s : State) : ((s.configEnd v).1).tally = s.tally := by unfold State.configEnd; (repeat' split) <;> rfl
@[simp] theorem State.configEnd_watch (v : ConfigVerify) (s : State) : ((s.configEnd v).1).watch = s.watch := by unfold State.configEnd; (repeat' split) <;> rfl
@[simp] theorem State.configEnd_port (v : ConfigVerify) (s : State) : ((s.configEnd v).1).port = s.port := by unfold State.configEnd; (repeat' split) <;> rfl
@[simp] theorem State.stopStore_pending (im : Image) (cf : ConfigImage) (s : State) : (s.stopStore im cf).pending = s.pending := by unfold State.stopStore; dsimp only; (repeat' split) <;> rfl
@[simp] theorem State.stopStore_pins (im : Image) (cf : ConfigImage) (s : State) : (s.stopStore im cf).pins = s.pins := by unfold State.stopStore; dsimp only; (repeat' split) <;> rfl
@[simp] theorem State.stopStore_config (im : Image) (cf : ConfigImage) (s : State) : (s.stopStore im cf).config = s.config := by unfold State.stopStore; dsimp only; (repeat' split) <;> rfl
@[simp] theorem State.stopStore_time (im : Image) (cf : ConfigImage) (s : State) : (s.stopStore im cf).time = s.time := by unfold State.stopStore; dsimp only; (repeat' split) <;> rfl
@[simp] theorem State.stopStore_lines (im : Image) (cf : ConfigImage) (s : State) : (s.stopStore im cf).lines = s.lines := by unfold State.stopStore; dsimp only; (repeat' split) <;> rfl
@[simp] theorem State.stopStore_trips (im : Image) (cf : ConfigImage) (s : State) : (s.stopStore im cf).trips = s.trips := by unfold State.stopStore; dsimp only; (repeat' split) <;> rfl
@[simp] theorem State.stopStore_units (im : Image) (cf : ConfigImage) (s : State) : (s.stopStore im cf).units = s.units := by unfold State.stopStore; dsimp only; (repeat' split) <;> rfl
@[simp] theorem State.stopStore_watch (im : Image) (cf : ConfigImage) (s : State) : (s.stopStore im cf).watch = s.watch := by unfold State.stopStore; dsimp only; (repeat' split) <;> rfl
@[simp] theorem State.stopStore_port (im : Image) (cf : ConfigImage) (s : State) : (s.stopStore im cf).port = s.port := by unfold State.stopStore; dsimp only; (repeat' split) <;> rfl
@[simp] theorem State.storeTick_pending (s : State) : (s.storeTick).pending = s.pending := by unfold State.storeTick; (repeat' split) <;> simp
@[simp] theorem State.storeTick_pins (s : State) : (s.storeTick).pins = s.pins := by unfold State.storeTick; (repeat' split) <;> simp
@[simp] theorem State.storeTick_config (s : State) : (s.storeTick).config = s.config := by unfold State.storeTick; (repeat' split) <;> simp
@[simp] theorem State.storeTick_time (s : State) : (s.storeTick).time = s.time := by unfold State.storeTick; (repeat' split) <;> simp
@[simp] theorem State.storeTick_lines (s : State) : (s.storeTick).lines = s.lines := by unfold State.storeTick; (repeat' split) <;> simp
@[simp] theorem State.storeTick_trips (s : State) : (s.storeTick).trips = s.trips := by unfold State.storeTick; (repeat' split) <;> simp
@[simp] theorem State.storeTick_units (s : State) : (s.storeTick).units = s.units := by unfold State.storeTick; (repeat' split) <;> simp
@[simp] theorem State.storeTick_watch (s : State) : (s.storeTick).watch = s.watch := by unfold State.storeTick; (repeat' split) <;> simp
@[simp] theorem State.storeTick_port (s : State) : (s.storeTick).port = s.port := by unfold State.storeTick; (repeat' split) <;> simp
@[simp] theorem State.startTrigger_pending (s : State) : (s.startTrigger).pending = s.pending := by unfold State.startTrigger; (repeat' split) <;> simp
@[simp] theorem State.startTrigger_pins (s : State) : (s.startTrigger).pins = s.pins := by unfold State.startTrigger; (repeat' split) <;> simp
@[simp] theorem State.startTrigger_config (s : State) : (s.startTrigger).config = s.config := by unfold State.startTrigger; (repeat' split) <;> simp
@[simp] theorem State.startTrigger_time (s : State) : (s.startTrigger).time = s.time := by unfold State.startTrigger; (repeat' split) <;> simp
@[simp] theorem State.startTrigger_lines (s : State) : (s.startTrigger).lines = s.lines := by unfold State.startTrigger; (repeat' split) <;> simp
@[simp] theorem State.startTrigger_trips (s : State) : (s.startTrigger).trips = s.trips := by unfold State.startTrigger; (repeat' split) <;> simp
@[simp] theorem State.startTrigger_units (s : State) : (s.startTrigger).units = s.units := by unfold State.startTrigger; (repeat' split) <;> simp
@[simp] theorem State.startTrigger_watch (s : State) : (s.startTrigger).watch = s.watch := by unfold State.startTrigger; (repeat' split) <;> simp
@[simp] theorem State.startTrigger_port (s : State) : (s.startTrigger).port = s.port := by unfold State.startTrigger; (repeat' split) <;> simp
@[simp] theorem State.askConfigWrite_pending (s : State) : (s.askConfigWrite).pending = s.pending := by simp [State.askConfigWrite]
@[simp] theorem State.askConfigWrite_pins (s : State) : (s.askConfigWrite).pins = s.pins := by simp [State.askConfigWrite]
@[simp] theorem State.askConfigWrite_config (s : State) : (s.askConfigWrite).config = s.config := by simp [State.askConfigWrite]
@[simp] theorem State.askConfigWrite_time (s : State) : (s.askConfigWrite).time = s.time := by simp [State.askConfigWrite]
@[simp] theorem State.askConfigWrite_lines (s : State) : (s.askConfigWrite).lines = s.lines := by simp [State.askConfigWrite]
@[simp] theorem State.askConfigWrite_trips (s : State) : (s.askConfigWrite).trips = s.trips := by simp [State.askConfigWrite]
@[simp] theorem State.askConfigWrite_units (s : State) : (s.askConfigWrite).units = s.units := by simp [State.askConfigWrite]
@[simp] theorem State.askConfigWrite_tally (s : State) : (s.askConfigWrite).tally = s.tally := by simp [State.askConfigWrite]
@[simp] theorem State.askConfigWrite_watch (s : State) : (s.askConfigWrite).watch = s.watch := by simp [State.askConfigWrite]
@[simp] theorem State.askConfigWrite_port (s : State) : (s.askConfigWrite).port = s.port := by simp [State.askConfigWrite]
@[simp] theorem State.checkConfig_pending (s : State) : (s.checkConfig).pending = s.pending := by unfold State.checkConfig; (repeat' split) <;> simp
@[simp] theorem State.checkConfig_pins (s : State) : (s.checkConfig).pins = s.pins := by unfold State.checkConfig; (repeat' split) <;> simp
@[simp] theorem State.checkConfig_config (s : State) : (s.checkConfig).config = s.config := by unfold State.checkConfig; (repeat' split) <;> simp
@[simp] theorem State.checkConfig_time (s : State) : (s.checkConfig).time = s.time := by unfold State.checkConfig; (repeat' split) <;> simp
@[simp] theorem State.checkConfig_lines (s : State) : (s.checkConfig).lines = s.lines := by unfold State.checkConfig; (repeat' split) <;> simp
@[simp] theorem State.checkConfig_trips (s : State) : (s.checkConfig).trips = s.trips := by unfold State.checkConfig; (repeat' split) <;> simp
@[simp] theorem State.checkConfig_units (s : State) : (s.checkConfig).units = s.units := by unfold State.checkConfig; (repeat' split) <;> simp
@[simp] theorem State.checkConfig_tally (s : State) : (s.checkConfig).tally = s.tally := by unfold State.checkConfig; (repeat' split) <;> simp
@[simp] theorem State.checkConfig_watch (s : State) : (s.checkConfig).watch = s.watch := by unfold State.checkConfig; (repeat' split) <;> simp
@[simp] theorem State.checkConfig_port (s : State) : (s.checkConfig).port = s.port := by unfold State.checkConfig; (repeat' split) <;> simp
@[simp] theorem State.stopBlocks_pending (im : Image) (cf : ConfigImage) (s : State) : (s.stopBlocks im cf).pending = s.pending := by simp [State.stopBlocks]
@[simp] theorem State.stopBlocks_pins (im : Image) (cf : ConfigImage) (s : State) : (s.stopBlocks im cf).pins = s.pins := by simp [State.stopBlocks]
@[simp] theorem State.stopBlocks_config (im : Image) (cf : ConfigImage) (s : State) : (s.stopBlocks im cf).config = s.config := by simp [State.stopBlocks]
@[simp] theorem State.stopBlocks_time (im : Image) (cf : ConfigImage) (s : State) : (s.stopBlocks im cf).time = s.time := by simp [State.stopBlocks]
@[simp] theorem State.stopBlocks_lines (im : Image) (cf : ConfigImage) (s : State) : (s.stopBlocks im cf).lines = s.lines := by simp [State.stopBlocks]
@[simp] theorem State.stopBlocks_trips (im : Image) (cf : ConfigImage) (s : State) : (s.stopBlocks im cf).trips = s.trips := by simp [State.stopBlocks]
@[simp] theorem State.stopBlocks_units (im : Image) (cf : ConfigImage) (s : State) : (s.stopBlocks im cf).units = s.units := by simp [State.stopBlocks]
@[simp] theorem State.stopBlocks_watch (im : Image) (cf : ConfigImage) (s : State) : (s.stopBlocks im cf).watch = s.watch := by simp [State.stopBlocks]

/-! ### Watch Controller -/

@[simp] theorem State.openHandover_pending (o : Origin) (c : Fin 16) (w : Nat) (wn : Nat) (s : State) : (s.openHandover o c w wn).pending = s.pending := by simp [State.openHandover]
@[simp] theorem State.openHandover_pins (o : Origin) (c : Fin 16) (w : Nat) (wn : Nat) (s : State) : (s.openHandover o c w wn).pins = s.pins := by simp [State.openHandover]
@[simp] theorem State.openHandover_config (o : Origin) (c : Fin 16) (w : Nat) (wn : Nat) (s : State) : (s.openHandover o c w wn).config = s.config := by simp [State.openHandover]
@[simp] theorem State.openHandover_time (o : Origin) (c : Fin 16) (w : Nat) (wn : Nat) (s : State) : (s.openHandover o c w wn).time = s.time := by simp [State.openHandover]
@[simp] theorem State.openHandover_lines (o : Origin) (c : Fin 16) (w : Nat) (wn : Nat) (s : State) : (s.openHandover o c w wn).lines = s.lines := by simp [State.openHandover]
@[simp] theorem State.openHandover_trips (o : Origin) (c : Fin 16) (w : Nat) (wn : Nat) (s : State) : (s.openHandover o c w wn).trips = s.trips := by simp [State.openHandover]
@[simp] theorem State.openHandover_units (o : Origin) (c : Fin 16) (w : Nat) (wn : Nat) (s : State) : (s.openHandover o c w wn).units = s.units := by simp [State.openHandover]
@[simp] theorem State.openHandover_tally (o : Origin) (c : Fin 16) (w : Nat) (wn : Nat) (s : State) : (s.openHandover o c w wn).tally = s.tally := by simp [State.openHandover]
@[simp] theorem State.openHandover_store (o : Origin) (c : Fin 16) (w : Nat) (wn : Nat) (s : State) : (s.openHandover o c w wn).store = s.store := by simp [State.openHandover]
@[simp] theorem State.makePending_pending (i : Fin 6) (s : State) : (s.makePending i).pending = s.pending := by unfold State.makePending; (repeat' split) <;> simp
@[simp] theorem State.makePending_pins (i : Fin 6) (s : State) : (s.makePending i).pins = s.pins := by unfold State.makePending; (repeat' split) <;> simp
@[simp] theorem State.makePending_config (i : Fin 6) (s : State) : (s.makePending i).config = s.config := by unfold State.makePending; (repeat' split) <;> simp
@[simp] theorem State.makePending_time (i : Fin 6) (s : State) : (s.makePending i).time = s.time := by unfold State.makePending; (repeat' split) <;> simp
@[simp] theorem State.makePending_lines (i : Fin 6) (s : State) : (s.makePending i).lines = s.lines := by unfold State.makePending; (repeat' split) <;> simp
@[simp] theorem State.makePending_trips (i : Fin 6) (s : State) : (s.makePending i).trips = s.trips := by unfold State.makePending; (repeat' split) <;> simp
@[simp] theorem State.makePending_units (i : Fin 6) (s : State) : (s.makePending i).units = s.units := by unfold State.makePending; (repeat' split) <;> simp
@[simp] theorem State.makePending_tally (i : Fin 6) (s : State) : (s.makePending i).tally = s.tally := by unfold State.makePending; (repeat' split) <;> simp
@[simp] theorem State.makePending_store (i : Fin 6) (s : State) : (s.makePending i).store = s.store := by unfold State.makePending; (repeat' split) <;> simp
@[simp] theorem State.takeSlot_pending (i : Fin 6) (d : Int) (s : State) : (s.takeSlot i d).pending = s.pending := by unfold State.takeSlot; dsimp only; (repeat' split) <;> simp
@[simp] theorem State.takeSlot_pins (i : Fin 6) (d : Int) (s : State) : (s.takeSlot i d).pins = s.pins := by unfold State.takeSlot; dsimp only; (repeat' split) <;> simp
@[simp] theorem State.takeSlot_config (i : Fin 6) (d : Int) (s : State) : (s.takeSlot i d).config = s.config := by unfold State.takeSlot; dsimp only; (repeat' split) <;> simp
@[simp] theorem State.takeSlot_time (i : Fin 6) (d : Int) (s : State) : (s.takeSlot i d).time = s.time := by unfold State.takeSlot; dsimp only; (repeat' split) <;> simp
@[simp] theorem State.takeSlot_lines (i : Fin 6) (d : Int) (s : State) : (s.takeSlot i d).lines = s.lines := by unfold State.takeSlot; dsimp only; (repeat' split) <;> simp
@[simp] theorem State.takeSlot_trips (i : Fin 6) (d : Int) (s : State) : (s.takeSlot i d).trips = s.trips := by unfold State.takeSlot; dsimp only; (repeat' split) <;> simp
@[simp] theorem State.takeSlot_units (i : Fin 6) (d : Int) (s : State) : (s.takeSlot i d).units = s.units := by unfold State.takeSlot; dsimp only; (repeat' split) <;> simp
@[simp] theorem State.takeSlot_tally (i : Fin 6) (d : Int) (s : State) : (s.takeSlot i d).tally = s.tally := by unfold State.takeSlot; dsimp only; (repeat' split) <;> simp
@[simp] theorem State.takeSlot_store (i : Fin 6) (d : Int) (s : State) : (s.takeSlot i d).store = s.store := by unfold State.takeSlot; dsimp only; (repeat' split) <;> simp
@[simp] theorem State.trySlot_pending (t : LocalTime) (i : Fin 6) (s : State) : (s.trySlot t i).pending = s.pending := by unfold State.trySlot; (repeat' split) <;> simp
@[simp] theorem State.trySlot_pins (t : LocalTime) (i : Fin 6) (s : State) : (s.trySlot t i).pins = s.pins := by unfold State.trySlot; (repeat' split) <;> simp
@[simp] theorem State.trySlot_config (t : LocalTime) (i : Fin 6) (s : State) : (s.trySlot t i).config = s.config := by unfold State.trySlot; (repeat' split) <;> simp
@[simp] theorem State.trySlot_time (t : LocalTime) (i : Fin 6) (s : State) : (s.trySlot t i).time = s.time := by unfold State.trySlot; (repeat' split) <;> simp
@[simp] theorem State.trySlot_lines (t : LocalTime) (i : Fin 6) (s : State) : (s.trySlot t i).lines = s.lines := by unfold State.trySlot; (repeat' split) <;> simp
@[simp] theorem State.trySlot_trips (t : LocalTime) (i : Fin 6) (s : State) : (s.trySlot t i).trips = s.trips := by unfold State.trySlot; (repeat' split) <;> simp
@[simp] theorem State.trySlot_units (t : LocalTime) (i : Fin 6) (s : State) : (s.trySlot t i).units = s.units := by unfold State.trySlot; (repeat' split) <;> simp
@[simp] theorem State.trySlot_tally (t : LocalTime) (i : Fin 6) (s : State) : (s.trySlot t i).tally = s.tally := by unfold State.trySlot; (repeat' split) <;> simp
@[simp] theorem State.trySlot_store (t : LocalTime) (i : Fin 6) (s : State) : (s.trySlot t i).store = s.store := by unfold State.trySlot; (repeat' split) <;> simp
@[simp] theorem State.takeMinute_pending (t : LocalTime) (s : State) : (s.takeMinute t).pending = s.pending := by unfold State.takeMinute; split; exacts [foldl_keeps (·.pending) _ (fun s i => by simp) s _, rfl]
@[simp] theorem State.takeMinute_pins (t : LocalTime) (s : State) : (s.takeMinute t).pins = s.pins := by unfold State.takeMinute; split; exacts [foldl_keeps (·.pins) _ (fun s i => by simp) s _, rfl]
@[simp] theorem State.takeMinute_config (t : LocalTime) (s : State) : (s.takeMinute t).config = s.config := by unfold State.takeMinute; split; exacts [foldl_keeps (·.config) _ (fun s i => by simp) s _, rfl]
@[simp] theorem State.takeMinute_time (t : LocalTime) (s : State) : (s.takeMinute t).time = s.time := by unfold State.takeMinute; split; exacts [foldl_keeps (·.time) _ (fun s i => by simp) s _, rfl]
@[simp] theorem State.takeMinute_lines (t : LocalTime) (s : State) : (s.takeMinute t).lines = s.lines := by unfold State.takeMinute; split; exacts [foldl_keeps (·.lines) _ (fun s i => by simp) s _, rfl]
@[simp] theorem State.takeMinute_trips (t : LocalTime) (s : State) : (s.takeMinute t).trips = s.trips := by unfold State.takeMinute; split; exacts [foldl_keeps (·.trips) _ (fun s i => by simp) s _, rfl]
@[simp] theorem State.takeMinute_units (t : LocalTime) (s : State) : (s.takeMinute t).units = s.units := by unfold State.takeMinute; split; exacts [foldl_keeps (·.units) _ (fun s i => by simp) s _, rfl]
@[simp] theorem State.takeMinute_tally (t : LocalTime) (s : State) : (s.takeMinute t).tally = s.tally := by unfold State.takeMinute; split; exacts [foldl_keeps (·.tally) _ (fun s i => by simp) s _, rfl]
@[simp] theorem State.takeMinute_store (t : LocalTime) (s : State) : (s.takeMinute t).store = s.store := by unfold State.takeMinute; split; exacts [foldl_keeps (·.store) _ (fun s i => by simp) s _, rfl]
@[simp] theorem State.presentMinute_pending (s : State) : (s.presentMinute).pending = s.pending := by unfold State.presentMinute; (repeat' split) <;> simp
@[simp] theorem State.presentMinute_pins (s : State) : (s.presentMinute).pins = s.pins := by unfold State.presentMinute; (repeat' split) <;> simp
@[simp] theorem State.presentMinute_config (s : State) : (s.presentMinute).config = s.config := by unfold State.presentMinute; (repeat' split) <;> simp
@[simp] theorem State.presentMinute_lines (s : State) : (s.presentMinute).lines = s.lines := by unfold State.presentMinute; (repeat' split) <;> simp
@[simp] theorem State.presentMinute_trips (s : State) : (s.presentMinute).trips = s.trips := by unfold State.presentMinute; (repeat' split) <;> simp
@[simp] theorem State.presentMinute_units (s : State) : (s.presentMinute).units = s.units := by unfold State.presentMinute; (repeat' split) <;> simp
@[simp] theorem State.presentMinute_tally (s : State) : (s.presentMinute).tally = s.tally := by unfold State.presentMinute; (repeat' split) <;> simp
@[simp] theorem State.presentMinute_store (s : State) : (s.presentMinute).store = s.store := by unfold State.presentMinute; (repeat' split) <;> simp
@[simp] theorem State.handlePending_pending (s : State) : (s.handlePending).pending = s.pending := by unfold State.handlePending; dsimp only; (repeat' split) <;> simp
@[simp] theorem State.handlePending_pins (s : State) : (s.handlePending).pins = s.pins := by unfold State.handlePending; dsimp only; (repeat' split) <;> simp
@[simp] theorem State.handlePending_config (s : State) : (s.handlePending).config = s.config := by unfold State.handlePending; dsimp only; (repeat' split) <;> simp
@[simp] theorem State.handlePending_time (s : State) : (s.handlePending).time = s.time := by unfold State.handlePending; dsimp only; (repeat' split) <;> simp
@[simp] theorem State.handlePending_lines (s : State) : (s.handlePending).lines = s.lines := by unfold State.handlePending; dsimp only; (repeat' split) <;> simp
@[simp] theorem State.handlePending_trips (s : State) : (s.handlePending).trips = s.trips := by unfold State.handlePending; dsimp only; (repeat' split) <;> simp
@[simp] theorem State.handlePending_units (s : State) : (s.handlePending).units = s.units := by unfold State.handlePending; dsimp only; (repeat' split) <;> simp
@[simp] theorem State.handlePending_tally (s : State) : (s.handlePending).tally = s.tally := by unfold State.handlePending; dsimp only; (repeat' split) <;> simp
@[simp] theorem State.handlePending_store (s : State) : (s.handlePending).store = s.store := by unfold State.handlePending; dsimp only; (repeat' split) <;> simp
@[simp] theorem State.boundary_pending (st : Stamp) (c : Fin 16) (s : State) : (s.boundary st c).pending = s.pending := by simp [State.boundary]
@[simp] theorem State.boundary_pins (st : Stamp) (c : Fin 16) (s : State) : (s.boundary st c).pins = s.pins := by simp [State.boundary]
@[simp] theorem State.boundary_config (st : Stamp) (c : Fin 16) (s : State) : (s.boundary st c).config = s.config := by simp [State.boundary]
@[simp] theorem State.boundary_time (st : Stamp) (c : Fin 16) (s : State) : (s.boundary st c).time = s.time := by simp [State.boundary]
@[simp] theorem State.boundary_lines (st : Stamp) (c : Fin 16) (s : State) : (s.boundary st c).lines = s.lines := by simp [State.boundary]
@[simp] theorem State.boundary_trips (st : Stamp) (c : Fin 16) (s : State) : (s.boundary st c).trips = s.trips := by simp [State.boundary]
@[simp] theorem State.boundary_units (st : Stamp) (c : Fin 16) (s : State) : (s.boundary st c).units = s.units := by simp [State.boundary]
@[simp] theorem State.boundary_port (st : Stamp) (c : Fin 16) (s : State) : (s.boundary st c).port = s.port := by simp [State.boundary]
@[simp] theorem State.warningExpiry_pending (s : State) : (s.warningExpiry).pending = s.pending := by unfold State.warningExpiry; (repeat' split) <;> simp
@[simp] theorem State.warningExpiry_pins (s : State) : (s.warningExpiry).pins = s.pins := by unfold State.warningExpiry; (repeat' split) <;> simp
@[simp] theorem State.warningExpiry_config (s : State) : (s.warningExpiry).config = s.config := by unfold State.warningExpiry; (repeat' split) <;> simp
@[simp] theorem State.warningExpiry_time (s : State) : (s.warningExpiry).time = s.time := by unfold State.warningExpiry; (repeat' split) <;> simp
@[simp] theorem State.warningExpiry_lines (s : State) : (s.warningExpiry).lines = s.lines := by unfold State.warningExpiry; (repeat' split) <;> simp
@[simp] theorem State.warningExpiry_trips (s : State) : (s.warningExpiry).trips = s.trips := by unfold State.warningExpiry; (repeat' split) <;> simp
@[simp] theorem State.warningExpiry_units (s : State) : (s.warningExpiry).units = s.units := by unfold State.warningExpiry; (repeat' split) <;> simp
@[simp] theorem State.warningExpiry_tally (s : State) : (s.warningExpiry).tally = s.tally := by unfold State.warningExpiry; (repeat' split) <;> simp
@[simp] theorem State.warningExpiry_store (s : State) : (s.warningExpiry).store = s.store := by unfold State.warningExpiry; (repeat' split) <;> simp
@[simp] theorem State.windowExpiry_pending (s : State) : (s.windowExpiry).pending = s.pending := by unfold State.windowExpiry; (repeat' split) <;> simp
@[simp] theorem State.windowExpiry_pins (s : State) : (s.windowExpiry).pins = s.pins := by unfold State.windowExpiry; (repeat' split) <;> simp
@[simp] theorem State.windowExpiry_config (s : State) : (s.windowExpiry).config = s.config := by unfold State.windowExpiry; (repeat' split) <;> simp
@[simp] theorem State.windowExpiry_time (s : State) : (s.windowExpiry).time = s.time := by unfold State.windowExpiry; (repeat' split) <;> simp
@[simp] theorem State.windowExpiry_lines (s : State) : (s.windowExpiry).lines = s.lines := by unfold State.windowExpiry; (repeat' split) <;> simp
@[simp] theorem State.windowExpiry_trips (s : State) : (s.windowExpiry).trips = s.trips := by unfold State.windowExpiry; (repeat' split) <;> simp
@[simp] theorem State.windowExpiry_units (s : State) : (s.windowExpiry).units = s.units := by unfold State.windowExpiry; (repeat' split) <;> simp
@[simp] theorem State.windowExpiry_tally (s : State) : (s.windowExpiry).tally = s.tally := by unfold State.windowExpiry; (repeat' split) <;> simp
@[simp] theorem State.windowExpiry_store (s : State) : (s.windowExpiry).store = s.store := by unfold State.windowExpiry; (repeat' split) <;> simp
@[simp] theorem State.windowExpiry_port (s : State) : (s.windowExpiry).port = s.port := by unfold State.windowExpiry; (repeat' split) <;> simp
@[simp] theorem State.watchTick_pending (s : State) : (s.watchTick).pending = s.pending := by simp [State.watchTick]
@[simp] theorem State.watchTick_pins (s : State) : (s.watchTick).pins = s.pins := by simp [State.watchTick]
@[simp] theorem State.watchTick_config (s : State) : (s.watchTick).config = s.config := by simp [State.watchTick]
@[simp] theorem State.watchTick_time (s : State) : (s.watchTick).time = s.time := by simp [State.watchTick]
@[simp] theorem State.watchTick_lines (s : State) : (s.watchTick).lines = s.lines := by simp [State.watchTick]
@[simp] theorem State.watchTick_trips (s : State) : (s.watchTick).trips = s.trips := by simp [State.watchTick]
@[simp] theorem State.watchTick_units (s : State) : (s.watchTick).units = s.units := by simp [State.watchTick]
@[simp] theorem State.watchTick_tally (s : State) : (s.watchTick).tally = s.tally := by simp [State.watchTick]
@[simp] theorem State.watchTick_store (s : State) : (s.watchTick).store = s.store := by simp [State.watchTick]
@[simp] theorem State.takeUpWatch_pending (s : State) : (s.takeUpWatch).pending = s.pending := by unfold State.takeUpWatch; dsimp only; split <;> simp
@[simp] theorem State.takeUpWatch_pins (s : State) : (s.takeUpWatch).pins = s.pins := by unfold State.takeUpWatch; dsimp only; split <;> simp
@[simp] theorem State.takeUpWatch_config (s : State) : (s.takeUpWatch).config = s.config := by unfold State.takeUpWatch; dsimp only; split <;> simp
@[simp] theorem State.takeUpWatch_time (s : State) : (s.takeUpWatch).time = s.time := by unfold State.takeUpWatch; dsimp only; split <;> simp
@[simp] theorem State.takeUpWatch_lines (s : State) : (s.takeUpWatch).lines = s.lines := by unfold State.takeUpWatch; dsimp only; split <;> simp
@[simp] theorem State.takeUpWatch_trips (s : State) : (s.takeUpWatch).trips = s.trips := by unfold State.takeUpWatch; dsimp only; split <;> simp
@[simp] theorem State.takeUpWatch_units (s : State) : (s.takeUpWatch).units = s.units := by unfold State.takeUpWatch; dsimp only; split <;> simp
@[simp] theorem State.takeUpWatch_tally (s : State) : (s.takeUpWatch).tally = s.tally := by unfold State.takeUpWatch; dsimp only; split <;> simp
@[simp] theorem State.takeUpWatch_store (s : State) : (s.takeUpWatch).store = s.store := by unfold State.takeUpWatch; dsimp only; split <;> simp

/-! ### Time Base -/

@[simp] theorem State.applyStep_pending (o : Int) (s : State) : (s.applyStep o).pending = s.pending := by simp [State.applyStep]
@[simp] theorem State.applyStep_pins (o : Int) (s : State) : (s.applyStep o).pins = s.pins := by simp [State.applyStep]
@[simp] theorem State.applyStep_config (o : Int) (s : State) : (s.applyStep o).config = s.config := by simp [State.applyStep]
@[simp] theorem State.applyStep_lines (o : Int) (s : State) : (s.applyStep o).lines = s.lines := by simp [State.applyStep]
@[simp] theorem State.applyStep_trips (o : Int) (s : State) : (s.applyStep o).trips = s.trips := by simp [State.applyStep]
@[simp] theorem State.applyStep_units (o : Int) (s : State) : (s.applyStep o).units = s.units := by simp [State.applyStep]
@[simp] theorem State.applyStep_tally (o : Int) (s : State) : (s.applyStep o).tally = s.tally := by simp [State.applyStep]
@[simp] theorem State.applyStep_store (o : Int) (s : State) : (s.applyStep o).store = s.store := by simp [State.applyStep]
@[simp] theorem State.handoverSignal_pending (s : State) : (s.handoverSignal).pending = s.pending := by unfold State.handoverSignal; (repeat' split) <;> simp
@[simp] theorem State.handoverSignal_pins (s : State) : (s.handoverSignal).pins = s.pins := by unfold State.handoverSignal; (repeat' split) <;> simp
@[simp] theorem State.handoverSignal_config (s : State) : (s.handoverSignal).config = s.config := by unfold State.handoverSignal; (repeat' split) <;> simp
@[simp] theorem State.handoverSignal_lines (s : State) : (s.handoverSignal).lines = s.lines := by unfold State.handoverSignal; (repeat' split) <;> simp
@[simp] theorem State.handoverSignal_trips (s : State) : (s.handoverSignal).trips = s.trips := by unfold State.handoverSignal; (repeat' split) <;> simp
@[simp] theorem State.handoverSignal_units (s : State) : (s.handoverSignal).units = s.units := by unfold State.handoverSignal; (repeat' split) <;> simp
@[simp] theorem State.handoverSignal_tally (s : State) : (s.handoverSignal).tally = s.tally := by unfold State.handoverSignal; (repeat' split) <;> simp
@[simp] theorem State.handoverSignal_store (s : State) : (s.handoverSignal).store = s.store := by unfold State.handoverSignal; (repeat' split) <;> simp
@[simp] theorem State.endHandover_pending (s : State) : (s.endHandover).pending = s.pending := by simp [State.endHandover]
@[simp] theorem State.endHandover_pins (s : State) : (s.endHandover).pins = s.pins := by simp [State.endHandover]
@[simp] theorem State.endHandover_config (s : State) : (s.endHandover).config = s.config := by simp [State.endHandover]
@[simp] theorem State.endHandover_lines (s : State) : (s.endHandover).lines = s.lines := by simp [State.endHandover]
@[simp] theorem State.endHandover_trips (s : State) : (s.endHandover).trips = s.trips := by simp [State.endHandover]
@[simp] theorem State.endHandover_units (s : State) : (s.endHandover).units = s.units := by simp [State.endHandover]
@[simp] theorem State.endHandover_tally (s : State) : (s.endHandover).tally = s.tally := by simp [State.endHandover]
@[simp] theorem State.endHandover_store (s : State) : (s.endHandover).store = s.store := by simp [State.endHandover]
@[simp] theorem State.strandedStep_pending (s : State) : (s.strandedStep).pending = s.pending := by unfold State.strandedStep; (repeat' split) <;> simp
@[simp] theorem State.strandedStep_pins (s : State) : (s.strandedStep).pins = s.pins := by unfold State.strandedStep; (repeat' split) <;> simp
@[simp] theorem State.strandedStep_config (s : State) : (s.strandedStep).config = s.config := by unfold State.strandedStep; (repeat' split) <;> simp
@[simp] theorem State.strandedStep_lines (s : State) : (s.strandedStep).lines = s.lines := by unfold State.strandedStep; (repeat' split) <;> simp
@[simp] theorem State.strandedStep_trips (s : State) : (s.strandedStep).trips = s.trips := by unfold State.strandedStep; (repeat' split) <;> simp
@[simp] theorem State.strandedStep_units (s : State) : (s.strandedStep).units = s.units := by unfold State.strandedStep; (repeat' split) <;> simp
@[simp] theorem State.strandedStep_tally (s : State) : (s.strandedStep).tally = s.tally := by unfold State.strandedStep; (repeat' split) <;> simp
@[simp] theorem State.strandedStep_store (s : State) : (s.strandedStep).store = s.store := by unfold State.strandedStep; (repeat' split) <;> simp
@[simp] theorem State.tick_pending (s : State) : (s.tick).pending = s.pending := by simp [State.tick]
@[simp] theorem State.tick_pins (s : State) : (s.tick).pins = s.pins := by simp [State.tick]
@[simp] theorem State.tick_config (s : State) : (s.tick).config = s.config := by simp [State.tick]
@[simp] theorem State.tick_time (s : State) : (s.tick).time = s.time := by simp [State.tick]
@[simp] theorem State.tick_units (s : State) : (s.tick).units = s.units := by simp [State.tick]
@[simp] theorem State.presentIfMoved_pending (s : State) : (s.presentIfMoved).pending = s.pending := by unfold State.presentIfMoved; (repeat' split) <;> simp
@[simp] theorem State.presentIfMoved_pins (s : State) : (s.presentIfMoved).pins = s.pins := by unfold State.presentIfMoved; (repeat' split) <;> simp
@[simp] theorem State.presentIfMoved_config (s : State) : (s.presentIfMoved).config = s.config := by unfold State.presentIfMoved; (repeat' split) <;> simp
@[simp] theorem State.presentIfMoved_lines (s : State) : (s.presentIfMoved).lines = s.lines := by unfold State.presentIfMoved; (repeat' split) <;> simp
@[simp] theorem State.presentIfMoved_trips (s : State) : (s.presentIfMoved).trips = s.trips := by unfold State.presentIfMoved; (repeat' split) <;> simp
@[simp] theorem State.presentIfMoved_units (s : State) : (s.presentIfMoved).units = s.units := by unfold State.presentIfMoved; (repeat' split) <;> simp
@[simp] theorem State.presentIfMoved_tally (s : State) : (s.presentIfMoved).tally = s.tally := by unfold State.presentIfMoved; (repeat' split) <;> simp
@[simp] theorem State.presentIfMoved_store (s : State) : (s.presentIfMoved).store = s.store := by unfold State.presentIfMoved; (repeat' split) <;> simp
@[simp] theorem State.completeSwitch_pending (s : State) : (s.completeSwitch).pending = s.pending := by unfold State.completeSwitch; (repeat' split) <;> simp
@[simp] theorem State.completeSwitch_pins (s : State) : (s.completeSwitch).pins = s.pins := by unfold State.completeSwitch; (repeat' split) <;> simp
@[simp] theorem State.completeSwitch_config (s : State) : (s.completeSwitch).config = s.config := by unfold State.completeSwitch; (repeat' split) <;> simp
@[simp] theorem State.completeSwitch_lines (s : State) : (s.completeSwitch).lines = s.lines := by unfold State.completeSwitch; (repeat' split) <;> simp
@[simp] theorem State.completeSwitch_trips (s : State) : (s.completeSwitch).trips = s.trips := by unfold State.completeSwitch; (repeat' split) <;> simp
@[simp] theorem State.completeSwitch_units (s : State) : (s.completeSwitch).units = s.units := by unfold State.completeSwitch; (repeat' split) <;> simp
@[simp] theorem State.completeSwitch_tally (s : State) : (s.completeSwitch).tally = s.tally := by unfold State.completeSwitch; (repeat' split) <;> simp
@[simp] theorem State.completeSwitch_store (s : State) : (s.completeSwitch).store = s.store := by unfold State.completeSwitch; (repeat' split) <;> simp
@[simp] theorem State.completeSwitch_watch (s : State) : (s.completeSwitch).watch = s.watch := by unfold State.completeSwitch; (repeat' split) <;> simp
@[simp] theorem State.completeOnBoundary_pending (s : State) : (s.completeOnBoundary).pending = s.pending := by unfold State.completeOnBoundary; (repeat' split) <;> simp
@[simp] theorem State.completeOnBoundary_pins (s : State) : (s.completeOnBoundary).pins = s.pins := by unfold State.completeOnBoundary; (repeat' split) <;> simp
@[simp] theorem State.completeOnBoundary_config (s : State) : (s.completeOnBoundary).config = s.config := by unfold State.completeOnBoundary; (repeat' split) <;> simp
@[simp] theorem State.completeOnBoundary_lines (s : State) : (s.completeOnBoundary).lines = s.lines := by unfold State.completeOnBoundary; (repeat' split) <;> simp
@[simp] theorem State.completeOnBoundary_trips (s : State) : (s.completeOnBoundary).trips = s.trips := by unfold State.completeOnBoundary; (repeat' split) <;> simp
@[simp] theorem State.completeOnBoundary_units (s : State) : (s.completeOnBoundary).units = s.units := by unfold State.completeOnBoundary; (repeat' split) <;> simp
@[simp] theorem State.completeOnBoundary_tally (s : State) : (s.completeOnBoundary).tally = s.tally := by unfold State.completeOnBoundary; (repeat' split) <;> simp
@[simp] theorem State.completeOnBoundary_store (s : State) : (s.completeOnBoundary).store = s.store := by unfold State.completeOnBoundary; (repeat' split) <;> simp
@[simp] theorem State.completeOnBoundary_watch (s : State) : (s.completeOnBoundary).watch = s.watch := by unfold State.completeOnBoundary; (repeat' split) <;> simp
@[simp] theorem State.countBoundary_pending (p : Nat) (al : Bool) (s : State) : (s.countBoundary p al).pending = s.pending := by unfold State.countBoundary; dsimp only; split <;> simp
@[simp] theorem State.countBoundary_pins (p : Nat) (al : Bool) (s : State) : (s.countBoundary p al).pins = s.pins := by unfold State.countBoundary; dsimp only; split <;> simp
@[simp] theorem State.countBoundary_config (p : Nat) (al : Bool) (s : State) : (s.countBoundary p al).config = s.config := by unfold State.countBoundary; dsimp only; split <;> simp
@[simp] theorem State.countBoundary_units (p : Nat) (al : Bool) (s : State) : (s.countBoundary p al).units = s.units := by unfold State.countBoundary; dsimp only; split <;> simp
@[simp] theorem State.refFailure_pending (s : State) : (s.refFailure).pending = s.pending := by unfold State.refFailure; dsimp only; split <;> simp
@[simp] theorem State.refFailure_pins (s : State) : (s.refFailure).pins = s.pins := by unfold State.refFailure; dsimp only; split <;> simp
@[simp] theorem State.refFailure_config (s : State) : (s.refFailure).config = s.config := by unfold State.refFailure; dsimp only; split <;> simp
@[simp] theorem State.refFailure_lines (s : State) : (s.refFailure).lines = s.lines := by unfold State.refFailure; dsimp only; split <;> simp
@[simp] theorem State.refFailure_trips (s : State) : (s.refFailure).trips = s.trips := by unfold State.refFailure; dsimp only; split <;> simp
@[simp] theorem State.refFailure_units (s : State) : (s.refFailure).units = s.units := by unfold State.refFailure; dsimp only; split <;> simp
@[simp] theorem State.refFailure_tally (s : State) : (s.refFailure).tally = s.tally := by unfold State.refFailure; dsimp only; split <;> simp
@[simp] theorem State.refFailure_store (s : State) : (s.refFailure).store = s.store := by unfold State.refFailure; dsimp only; split <;> simp
@[simp] theorem State.refFailure_watch (s : State) : (s.refFailure).watch = s.watch := by unfold State.refFailure; dsimp only; split <;> simp
@[simp] theorem State.completeToRef_pending (s : State) : (s.completeToRef).pending = s.pending := by unfold State.completeToRef; dsimp only; split <;> simp
@[simp] theorem State.completeToRef_pins (s : State) : (s.completeToRef).pins = s.pins := by unfold State.completeToRef; dsimp only; split <;> simp
@[simp] theorem State.completeToRef_config (s : State) : (s.completeToRef).config = s.config := by unfold State.completeToRef; dsimp only; split <;> simp
@[simp] theorem State.completeToRef_units (s : State) : (s.completeToRef).units = s.units := by unfold State.completeToRef; dsimp only; split <;> simp
@[simp] theorem State.goodPulse_pending (s : State) : (s.goodPulse).pending = s.pending := by unfold State.goodPulse; dsimp only; (repeat' split) <;> simp
@[simp] theorem State.goodPulse_pins (s : State) : (s.goodPulse).pins = s.pins := by unfold State.goodPulse; dsimp only; (repeat' split) <;> simp
@[simp] theorem State.goodPulse_config (s : State) : (s.goodPulse).config = s.config := by unfold State.goodPulse; dsimp only; (repeat' split) <;> simp
@[simp] theorem State.goodPulse_units (s : State) : (s.goodPulse).units = s.units := by unfold State.goodPulse; dsimp only; (repeat' split) <;> simp
@[simp] theorem State.badPulse_pending (s : State) : (s.badPulse).pending = s.pending := by unfold State.badPulse; dsimp only; split <;> simp
@[simp] theorem State.badPulse_pins (s : State) : (s.badPulse).pins = s.pins := by unfold State.badPulse; dsimp only; split <;> simp
@[simp] theorem State.badPulse_config (s : State) : (s.badPulse).config = s.config := by unfold State.badPulse; dsimp only; split <;> simp
@[simp] theorem State.badPulse_lines (s : State) : (s.badPulse).lines = s.lines := by unfold State.badPulse; dsimp only; split <;> simp
@[simp] theorem State.badPulse_trips (s : State) : (s.badPulse).trips = s.trips := by unfold State.badPulse; dsimp only; split <;> simp
@[simp] theorem State.badPulse_units (s : State) : (s.badPulse).units = s.units := by unfold State.badPulse; dsimp only; split <;> simp
@[simp] theorem State.badPulse_tally (s : State) : (s.badPulse).tally = s.tally := by unfold State.badPulse; dsimp only; split <;> simp
@[simp] theorem State.badPulse_store (s : State) : (s.badPulse).store = s.store := by unfold State.badPulse; dsimp only; split <;> simp
@[simp] theorem State.badPulse_watch (s : State) : (s.badPulse).watch = s.watch := by unfold State.badPulse; dsimp only; split <;> simp
@[simp] theorem State.pulse_pending (s : State) : (s.pulse).pending = s.pending := by unfold State.pulse; dsimp only; (repeat' split) <;> simp
@[simp] theorem State.pulse_pins (s : State) : (s.pulse).pins = s.pins := by unfold State.pulse; dsimp only; (repeat' split) <;> simp
@[simp] theorem State.pulse_config (s : State) : (s.pulse).config = s.config := by unfold State.pulse; dsimp only; (repeat' split) <;> simp
@[simp] theorem State.pulse_units (s : State) : (s.pulse).units = s.units := by unfold State.pulse; dsimp only; (repeat' split) <;> simp
@[simp] theorem State.flywheel_pending (a : Nat) (s : State) : (s.flywheel a).pending = s.pending := by simp [State.flywheel]
@[simp] theorem State.flywheel_pins (a : Nat) (s : State) : (s.flywheel a).pins = s.pins := by simp [State.flywheel]
@[simp] theorem State.flywheel_config (a : Nat) (s : State) : (s.flywheel a).config = s.config := by simp [State.flywheel]
@[simp] theorem State.flywheel_units (a : Nat) (s : State) : (s.flywheel a).units = s.units := by simp [State.flywheel]
@[simp] theorem State.crystalReady_pending (s : State) : (s.crystalReady).pending = s.pending := by unfold State.crystalReady; dsimp only; (repeat' split) <;> simp
@[simp] theorem State.crystalReady_pins (s : State) : (s.crystalReady).pins = s.pins := by unfold State.crystalReady; dsimp only; (repeat' split) <;> simp
@[simp] theorem State.crystalReady_config (s : State) : (s.crystalReady).config = s.config := by unfold State.crystalReady; dsimp only; (repeat' split) <;> simp
@[simp] theorem State.crystalReady_lines (s : State) : (s.crystalReady).lines = s.lines := by unfold State.crystalReady; dsimp only; (repeat' split) <;> simp
@[simp] theorem State.crystalReady_trips (s : State) : (s.crystalReady).trips = s.trips := by unfold State.crystalReady; dsimp only; (repeat' split) <;> simp
@[simp] theorem State.crystalReady_units (s : State) : (s.crystalReady).units = s.units := by unfold State.crystalReady; dsimp only; (repeat' split) <;> simp
@[simp] theorem State.crystalReady_tally (s : State) : (s.crystalReady).tally = s.tally := by unfold State.crystalReady; dsimp only; (repeat' split) <;> simp
@[simp] theorem State.crystalReady_store (s : State) : (s.crystalReady).store = s.store := by unfold State.crystalReady; dsimp only; (repeat' split) <;> simp
@[simp] theorem State.crystalReady_watch (s : State) : (s.crystalReady).watch = s.watch := by unfold State.crystalReady; dsimp only; (repeat' split) <;> simp
@[simp] theorem State.crystalStop_pending (s : State) : (s.crystalStop).pending = s.pending := by unfold State.crystalStop; dsimp only; (repeat' split) <;> simp
@[simp] theorem State.crystalStop_pins (s : State) : (s.crystalStop).pins = s.pins := by unfold State.crystalStop; dsimp only; (repeat' split) <;> simp
@[simp] theorem State.crystalStop_config (s : State) : (s.crystalStop).config = s.config := by unfold State.crystalStop; dsimp only; (repeat' split) <;> simp
@[simp] theorem State.crystalStop_lines (s : State) : (s.crystalStop).lines = s.lines := by unfold State.crystalStop; dsimp only; (repeat' split) <;> simp
@[simp] theorem State.crystalStop_trips (s : State) : (s.crystalStop).trips = s.trips := by unfold State.crystalStop; dsimp only; (repeat' split) <;> simp
@[simp] theorem State.crystalStop_units (s : State) : (s.crystalStop).units = s.units := by unfold State.crystalStop; dsimp only; (repeat' split) <;> simp
@[simp] theorem State.crystalStop_tally (s : State) : (s.crystalStop).tally = s.tally := by unfold State.crystalStop; dsimp only; (repeat' split) <;> simp
@[simp] theorem State.crystalStop_store (s : State) : (s.crystalStop).store = s.store := by unfold State.crystalStop; dsimp only; (repeat' split) <;> simp
@[simp] theorem State.crystalStop_watch (s : State) : (s.crystalStop).watch = s.watch := by unfold State.crystalStop; dsimp only; (repeat' split) <;> simp

/-! ### Watch requests -/

@[simp] theorem State.takeWatch_pending (c : Fin 16) (s : State) : (s.takeWatch c).pending = s.pending := by simp [State.takeWatch]
@[simp] theorem State.takeWatch_pins (c : Fin 16) (s : State) : (s.takeWatch c).pins = s.pins := by simp [State.takeWatch]
@[simp] theorem State.takeWatch_config (c : Fin 16) (s : State) : (s.takeWatch c).config = s.config := by simp [State.takeWatch]
@[simp] theorem State.takeWatch_time (c : Fin 16) (s : State) : (s.takeWatch c).time = s.time := by simp [State.takeWatch]
@[simp] theorem State.takeWatch_lines (c : Fin 16) (s : State) : (s.takeWatch c).lines = s.lines := by simp [State.takeWatch]
@[simp] theorem State.takeWatch_trips (c : Fin 16) (s : State) : (s.takeWatch c).trips = s.trips := by simp [State.takeWatch]
@[simp] theorem State.takeWatch_units (c : Fin 16) (s : State) : (s.takeWatch c).units = s.units := by simp [State.takeWatch]
@[simp] theorem State.takeWatch_port (c : Fin 16) (s : State) : (s.takeWatch c).port = s.port := by simp [State.takeWatch]
@[simp] theorem State.complete_pending (s : State) : (s.complete).pending = s.pending := by simp [State.complete]
@[simp] theorem State.complete_pins (s : State) : (s.complete).pins = s.pins := by simp [State.complete]
@[simp] theorem State.complete_config (s : State) : (s.complete).config = s.config := by simp [State.complete]
@[simp] theorem State.complete_lines (s : State) : (s.complete).lines = s.lines := by simp [State.complete]
@[simp] theorem State.complete_trips (s : State) : (s.complete).trips = s.trips := by simp [State.complete]
@[simp] theorem State.complete_units (s : State) : (s.complete).units = s.units := by simp [State.complete]
@[simp] theorem State.abort_pending (s : State) : (s.abort).pending = s.pending := by simp [State.abort]
@[simp] theorem State.abort_pins (s : State) : (s.abort).pins = s.pins := by simp [State.abort]
@[simp] theorem State.abort_config (s : State) : (s.abort).config = s.config := by simp [State.abort]
@[simp] theorem State.abort_lines (s : State) : (s.abort).lines = s.lines := by simp [State.abort]
@[simp] theorem State.abort_trips (s : State) : (s.abort).trips = s.trips := by simp [State.abort]
@[simp] theorem State.abort_units (s : State) : (s.abort).units = s.units := by simp [State.abort]
@[simp] theorem State.abort_tally (s : State) : (s.abort).tally = s.tally := by simp [State.abort]
@[simp] theorem State.abort_store (s : State) : (s.abort).store = s.store := by simp [State.abort]

/-! ### Warning and configuration -/

@[simp] theorem State.beginFreeze_pending (s : State) : (s.beginFreeze).pending = s.pending := by simp [State.beginFreeze]
@[simp] theorem State.beginFreeze_pins (s : State) : (s.beginFreeze).pins = s.pins := by simp [State.beginFreeze]
@[simp] theorem State.beginFreeze_config (s : State) : (s.beginFreeze).config = s.config := by simp [State.beginFreeze]
@[simp] theorem State.beginFreeze_time (s : State) : (s.beginFreeze).time = s.time := by simp [State.beginFreeze]
@[simp] theorem State.beginFreeze_lines (s : State) : (s.beginFreeze).lines = s.lines := by simp [State.beginFreeze]
@[simp] theorem State.beginFreeze_trips (s : State) : (s.beginFreeze).trips = s.trips := by simp [State.beginFreeze]
@[simp] theorem State.beginFreeze_units (s : State) : (s.beginFreeze).units = s.units := by simp [State.beginFreeze]
@[simp] theorem State.beginFreeze_watch (s : State) : (s.beginFreeze).watch = s.watch := by simp [State.beginFreeze]
@[simp] theorem State.beginFreeze_port (s : State) : (s.beginFreeze).port = s.port := by simp [State.beginFreeze]
@[simp] theorem State.configWriteEnd_pending (v : ConfigVerify) (s : State) : (s.configWriteEnd v).pending = s.pending := by
 have k := State.configEnd_pending v s
 unfold State.configWriteEnd
 rcases e : s.configEnd v with ⟨a, _ | b⟩ <;> rw [e] at k <;> simpa using k
@[simp] theorem State.configWriteEnd_pins (v : ConfigVerify) (s : State) : (s.configWriteEnd v).pins = s.pins := by
 have k := State.configEnd_pins v s
 unfold State.configWriteEnd
 rcases e : s.configEnd v with ⟨a, _ | b⟩ <;> rw [e] at k <;> simpa using k
@[simp] theorem State.configWriteEnd_config (v : ConfigVerify) (s : State) : (s.configWriteEnd v).config = s.config := by
 have k := State.configEnd_config v s
 unfold State.configWriteEnd
 rcases e : s.configEnd v with ⟨a, _ | b⟩ <;> rw [e] at k <;> simpa using k
@[simp] theorem State.configWriteEnd_time (v : ConfigVerify) (s : State) : (s.configWriteEnd v).time = s.time := by
 have k := State.configEnd_time v s
 unfold State.configWriteEnd
 rcases e : s.configEnd v with ⟨a, _ | b⟩ <;> rw [e] at k <;> simpa using k
@[simp] theorem State.configWriteEnd_lines (v : ConfigVerify) (s : State) : (s.configWriteEnd v).lines = s.lines := by
 have k := State.configEnd_lines v s
 unfold State.configWriteEnd
 rcases e : s.configEnd v with ⟨a, _ | b⟩ <;> rw [e] at k <;> simpa using k
@[simp] theorem State.configWriteEnd_trips (v : ConfigVerify) (s : State) : (s.configWriteEnd v).trips = s.trips := by
 have k := State.configEnd_trips v s
 unfold State.configWriteEnd
 rcases e : s.configEnd v with ⟨a, _ | b⟩ <;> rw [e] at k <;> simpa using k
@[simp] theorem State.configWriteEnd_units (v : ConfigVerify) (s : State) : (s.configWriteEnd v).units = s.units := by
 have k := State.configEnd_units v s
 unfold State.configWriteEnd
 rcases e : s.configEnd v with ⟨a, _ | b⟩ <;> rw [e] at k <;> simpa using k
@[simp] theorem State.configWriteEnd_watch (v : ConfigVerify) (s : State) : (s.configWriteEnd v).watch = s.watch := by
 have k := State.configEnd_watch v s
 unfold State.configWriteEnd
 rcases e : s.configEnd v with ⟨a, _ | b⟩ <;> rw [e] at k <;> simpa using k

/-! ### What an accrual does to the figures of an account (R107 to R110) -/

@[simp] theorem Account.evaluate_figures (a : Account) : a.evaluate.1.figures = a.figures := by unfold Account.evaluate; split <;> rfl
@[simp] theorem Account.evaluate_fraction (a : Account) : a.evaluate.1.fraction = a.fraction := by unfold Account.evaluate; split <;> rfl
@[simp] theorem Account.evaluate_serial (a : Account) : a.evaluate.1.serial = a.serial := by unfold Account.evaluate; split <;> rfl
@[simp] theorem Account.evaluateIfMoved_figures (a b : Account) : (a.evaluateIfMoved b).1.figures = a.figures := by
  unfold Account.evaluateIfMoved; split <;> simp
@[simp] theorem Account.evaluateIfMoved_fraction (a b : Account) : (a.evaluateIfMoved b).1.fraction = a.fraction := by
  unfold Account.evaluateIfMoved; split <;> simp
@[simp] theorem Account.evaluateIfMoved_serial (a b : Account) : (a.evaluateIfMoved b).1.serial = a.serial := by
  unfold Account.evaluateIfMoved; split <;> simp
/-- A start counts for its mode and earns the start equivalent (R108). -/
theorem accrueStart_figures (cfg : LiveConfig) (c : AccountClass) (m : RunMode) (a : Account) :
    (accrueStart cfg c m a).1.figures = { a.figures with
      starts := a.figures.starts.add m 1
      equivalent := satAdd Config.elapsedTop a.figures.equivalent (perClassMode cfg.startEquivalent c m) } := by
  simp [accrueStart, Account.earn]
/-- A mode change counts and earns the change equivalent (R108). -/
theorem accrueChange_figures (cfg : LiveConfig) (c : AccountClass) (a : Account) :
    (accrueChange cfg c a).1.figures = { a.figures with
      changes := count1 a.figures.changes
      equivalent := satAdd Config.elapsedTop a.figures.equivalent (perClass cfg.changeEquivalent c) } := by
  simp [accrueChange, Account.earn]
/-- A closing counts and earns the close equivalent on a BREAKER account (R109). -/
theorem accrueClosing_figures (cfg : LiveConfig) (a : Account) :
    (accrueClosing cfg .breaker a).1.figures = { a.figures with
      closings := count1 a.figures.closings
      equivalent := satAdd Config.elapsedTop a.figures.equivalent (perClass cfg.closeEquivalent .breaker) } := by
  simp [accrueClosing, Account.earn]
/-- A trip counts, and earns the trip equivalent where it carries a running mode (R110). -/
theorem accrueTrip_figures (cfg : LiveConfig) (mode : UnitMode) (c : AccountClass) (a : Account) :
    (accrueTrip cfg mode c a).1.figures = { a.figures with
      trips := count1 a.figures.trips
      equivalent := if mode.running.isSome then satAdd Config.elapsedTop a.figures.equivalent (perClass cfg.tripEquivalent c)
        else a.figures.equivalent } := by
  unfold accrueTrip; split <;> simp_all [Account.earn]

end Sys2Proof.Machine
end

