-- ==== Sys2Proof/Laws/Requests.lean ====
section
/-! SUPPORT. What a request command does, once for all of them: ignored, refused by its level, or answered by its owning block; and what
placing a reply and raising a condition leave in the port. -/

namespace Sys2Proof.Machine

/-- A request whose frame finds no reply slot free is ignored whole (R163). -/
theorem State.request_ignored (h : Header) (kind level : Nat) (act : Act) (s : State) (free : s.freeReply = none) :
    s.request h kind level act = s.pass h.dt := by
  simp [State.request, State.takeRequest, free]

/-- The port takes no request while the part is off, starting or in reset (R161). -/
theorem State.request_down (h : Header) (kind level : Nat) (act : Act) (s : State) (down : s.up = false) :
    s.request h kind level act = s.pass h.dt := by
  simp [State.request, down]

/-- A request of a requester whose level does not reach is refused with PRIVILEGE (R164). -/
theorem State.request_privilege (h : Header) (kind level : Nat) (act : Act) (s : State) (i : Fin 2) (up : s.up = true)
    (free : s.freeReply = some i) (low : level < s.port.levels[h.requester].val) :
    s.request h kind level act = (s.pass h.dt).place i ⟨⟨h.requester, h.tag, kind⟩, .privilege, []⟩ := by
  have low' : level < ((s.pass h.dt).port.levels[h.requester]).val := low
  simp only [State.request, State.pass_up, up, if_true, State.takeRequest, State.pass_freeReply, free, low', State.fill]

/-- A request that passes the port's checks is taken by its owning block, whose answer fills the reserved slot (R164, R165). -/
theorem State.request_taken (h : Header) (kind level : Nat) (act : Act) (s : State) (i : Fin 2) (up : s.up = true)
    (free : s.freeReply = some i) (reach : s.port.levels[h.requester].val ≤ level) :
    s.request h kind level act =
      (act ⟨h.requester, s.port.levels[h.requester], h.crew⟩ (s.pass h.dt)).1.fill i ⟨h.requester, h.tag, kind⟩
        (act ⟨h.requester, s.port.levels[h.requester], h.crew⟩ (s.pass h.dt)).2 := by
  have reach' : ¬ level < ((s.pass h.dt).port.levels[h.requester]).val := Nat.not_lt.mpr reach
  simp only [State.request, State.pass_up, up, if_true, State.takeRequest, State.pass_freeReply, free, reach', if_false]
  rfl

/-- An answered request places its reply. -/
theorem State.fill_some (i : Fin 2) (head : ReplyHead) (code : ReplyCode) (body : List Byte) (s : State) :
    s.fill i head (some (code, body)) = s.place i ⟨head, code, body⟩ := rfl

/-- The slot a reply was placed in holds it with the placing order. -/
theorem State.place_slot (i : Fin 2) (r : Reply) (s : State) : (s.place i r).port.slots[i] = .waiting s.port.nextOrder r := by
  simp [State.place]

/-- Raising conditions while the port is there sets their bits and nothing else (R170). -/
theorem State.raiseWord_eq (w : Word32) (s : State) (up : s.up = true) :
    s.raiseWord w = { s with port := { s.port with latched := s.port.latched ||| w } } := by
  simp [State.raiseWord, up]

/-- Raising one condition while the port is there (R170). -/
theorem State.raise_eq (e : Event) (s : State) (up : s.up = true) :
    s.raise e = { s with port := { s.port with latched := s.port.latched ||| e.bit } } := State.raiseWord_eq e.bit s up

/-- Raising conditions while the port is not there changes nothing (log 16). -/
theorem State.raiseWord_down (w : Word32) (s : State) (down : s.up = false) : s.raiseWord w = s := by
  simp [State.raiseWord, down]

end Sys2Proof.Machine
end

