-- ==== Sys2Proof/Laws/Acts.lean ====
section
/-! SUPPORT. The acts of the owning blocks, as one predicate: a request command and the frame of a SEND end in the same 34 acts, so a
property is shown for the acts once and follows for both. -/

namespace Sys2Proof.Machine

/-- The acts the requests of 09 section 9.4 end in. -/
inductive OwnerAct : Act → Prop where
  | selectSource (n : Nat) : OwnerAct (selectSourceAct n)
  | setTime (n m : Nat) : OwnerAct (setTimeAct n m)
  | readTime : OwnerAct readTimeAct
  | testTrip (n m : Nat) : OwnerAct (testTripAct n m)
  | cancelTest (n : Nat) : OwnerAct (cancelTestAct n)
  | readLine (n : Nat) : OwnerAct (readLineAct n)
  | acknowledge (n m : Nat) : OwnerAct (acknowledgeAct n m)
  | assignCause (n m k : Nat) : OwnerAct (assignCauseAct n m k)
  | retireTrip (n m : Nat) : OwnerAct (retireTripAct n m)
  | readTrip (n : Nat) : OwnerAct (readTripAct n)
  | readUnit (n : Nat) : OwnerAct (readUnitAct n)
  | openAccount (t : List Byte) (c i m : Nat) (f : Option Figures) : OwnerAct (openAccountAct t c i m f)
  | bind (n m k : Nat) : OwnerAct (bindAct n m k)
  | unbind (n m : Nat) : OwnerAct (unbindAct n m)
  | preset (n m : Nat) (f : Figures) (o : PresetOptions) : OwnerAct (presetAct n m f o)
  | retireAccount (n m : Nat) : OwnerAct (retireAccountAct n m)
  | serviceDone (n m : Nat) : OwnerAct (serviceDoneAct n m)
  | readAccount (n : AccountName) : OwnerAct (readAccountAct n)
  | checkpoint : OwnerAct checkpointAct
  | readStore : OwnerAct readStoreAct
  | setRosterSlot (a b c d e : Nat) : OwnerAct (setRosterSlotAct a b c d e)
  | startHandover : OwnerAct startHandoverAct
  | signOn : OwnerAct signOnAct
  | release (b : Bool) : OwnerAct (releaseAct b)
  | abortHandover : OwnerAct abortHandoverAct
  | readWatch : OwnerAct readWatchAct
  | readShiftTally (n m : Nat) : OwnerAct (readShiftTallyAct n m)
  | find (a b c d e : Nat) (o : List Byte) : OwnerAct (findAct a b c d e o)
  | readConditions : OwnerAct readConditionsAct
  | clearConditions (w : Word32) : OwnerAct (clearConditionsAct w)
  | setMask (w : Word32) : OwnerAct (setMaskAct w)
  | configure (n m : Nat) (v : Int) : OwnerAct (configureAct n m v)
  | readConfig (n m : Nat) : OwnerAct (readConfigAct n m)
  | checkConfig : OwnerAct checkConfigAct

/-- What a body spells, once its fields are known to make owner's acts. -/
theorem intakeOf_owner {α : Type} (level : Nat) (fields : Option α) (act : α → Act) (owner : ∀ a, OwnerAct (act a)) (l : Nat) (f : Act)
    (h : intakeOf level fields act = .request l f) : OwnerAct f := by
  cases fields with
  | none => simp [intakeOf] at h
  | some a => simp only [intakeOf, Intake.request.injEq] at h; exact h.2 ▸ owner a

/-- Every request that a kind and a body spell is an owner's act. -/
theorem intakeFor_owner (kind : Nat) (body : List Byte) (l : Nat) (f : Act) (h : intakeFor kind body = .request l f) : OwnerAct f := by
  unfold intakeFor at h
  split at h
  · exact intakeOf_owner _ _ _ (fun _ => .selectSource _) _ _ h
  · exact intakeOf_owner _ _ _ (fun _ => .setTime _ _) _ _ h
  · exact intakeOf_owner _ _ _ (fun _ => .readTime) _ _ h
  · exact intakeOf_owner _ _ _ (fun _ => .testTrip _ _) _ _ h
  · exact intakeOf_owner _ _ _ (fun _ => .cancelTest _) _ _ h
  · exact intakeOf_owner _ _ _ (fun _ => .readLine _) _ _ h
  · exact intakeOf_owner _ _ _ (fun _ => .acknowledge _ _) _ _ h
  · exact intakeOf_owner _ _ _ (fun _ => .assignCause _ _ _) _ _ h
  · exact intakeOf_owner _ _ _ (fun _ => .retireTrip _ _) _ _ h
  · exact intakeOf_owner _ _ _ (fun _ => .readTrip _) _ _ h
  · exact intakeOf_owner _ _ _ (fun _ => .readUnit _) _ _ h
  · exact intakeOf_owner _ _ _ (fun _ => .openAccount _ _ _ _ _) _ _ h
  · exact intakeOf_owner _ _ _ (fun _ => .bind _ _ _) _ _ h
  · exact intakeOf_owner _ _ _ (fun _ => .unbind _ _) _ _ h
  · exact intakeOf_owner _ _ _ (fun _ => .preset _ _ _ _) _ _ h
  · exact intakeOf_owner _ _ _ (fun _ => .retireAccount _ _) _ _ h
  · exact intakeOf_owner _ _ _ (fun _ => .serviceDone _ _) _ _ h
  · exact intakeOf_owner _ _ _ (fun _ => .readAccount _) _ _ h
  · exact intakeOf_owner _ _ _ (fun _ => .checkpoint) _ _ h
  · exact intakeOf_owner _ _ _ (fun _ => .readStore) _ _ h
  · exact intakeOf_owner _ _ _ (fun _ => .setRosterSlot _ _ _ _ _) _ _ h
  · exact intakeOf_owner _ _ _ (fun _ => .startHandover) _ _ h
  · exact intakeOf_owner _ _ _ (fun _ => .signOn) _ _ h
  · exact intakeOf_owner _ _ _ (fun _ => .release _) _ _ h
  · exact intakeOf_owner _ _ _ (fun _ => .abortHandover) _ _ h
  · exact intakeOf_owner _ _ _ (fun _ => .readWatch) _ _ h
  · exact intakeOf_owner _ _ _ (fun _ => .readShiftTally _ _) _ _ h
  · exact intakeOf_owner _ _ _ (fun _ => .find _ _ _ _ _ _) _ _ h
  · exact intakeOf_owner _ _ _ (fun _ => .readConditions) _ _ h
  · exact intakeOf_owner _ _ _ (fun _ => .clearConditions _) _ _ h
  · exact intakeOf_owner _ _ _ (fun _ => .setMask _) _ _ h
  · unfold configIntake at h
    split at h
    · cases h
    · split at h
      · exact intakeOf_owner _ _ _ (fun _ => .configure _ _ _) _ _ h
      · exact intakeOf_owner _ _ _ (fun _ => .readConfig _ _) _ _ h
      · exact intakeOf_owner _ _ _ (fun _ => .checkConfig) _ _ h
      · cases h
  · cases h

/-- A property kept by every owner's act, by filling a slot and by the passing of time is kept by a request. -/
theorem State.request_keeps (P : State → Prop) (pass : ∀ s d, P s → P (s.pass d)) (fill : ∀ s i hd a, P s → P (s.fill i hd a))
    (h : Header) (kind level : Nat) (act : Act) (owner : ∀ c s, P s → P (act c s).1) (s : State) (p : P s) :
    P (s.request h kind level act) := by
  have q := pass s h.dt p
  simp only [State.request]
  split
  · simp only [State.takeRequest]
    split
    · exact q
    · split
      · exact fill _ _ _ _ q
      · exact fill _ _ _ _ (owner _ _ q)
  · exact q

/-- The same for the request that a frame spells. -/
theorem State.takeRequest_keeps (P : State → Prop) (fill : ∀ s i hd a, P s → P (s.fill i hd a))
    (owner : ∀ act, OwnerAct act → ∀ c s, P s → P (act c s).1) (requester : Fin 4) (crew : Fin 16) (tag : Byte) (kind : Nat)
    (body : List Byte) (s : State) (p : P s) : P (s.takeRequest requester crew tag kind (intakeFor kind body)) := by
  simp only [State.takeRequest]
  split
  · exact p
  · split
    · exact fill _ _ _ _ p
    · exact fill _ _ _ _ p
    · split
      · exact fill _ _ _ _ p
      · rename_i e _
        exact fill _ _ _ _ (owner _ (intakeFor_owner _ _ _ _ e) _ _ p)

end Sys2Proof.Machine
end

