-- ==== Sys2Proof/Laws/Lookups.lean ====
section
/-! SUPPORT. What the lookups of the tables answer: unit positions, slots with serials, live items, free slots. -/

namespace Sys2Proof.Machine

/-- Positions 1..8 name the units. -/
@[simp] theorem unitPosition_unit (u : Fin 8) : unitPosition (u.val + 1) = some u := by simp [unitPosition]

/-- Any other position names none. -/
theorem unitPosition_none (position : Nat) (h : position = 0 ∨ 8 < position) : unitPosition position = none := by
  simp only [unitPosition]; rw [dif_neg]; omega

/-- A slot and serial that name a record (R67). -/
theorem State.namedTrip_ok (s : State) (k : Fin 48) (r : TripRecord) (h : s.trips.slots[k] = some r) :
    s.namedTrip k.val r.serial.toNat = .ok (k, r) := by
  have e : s.trips.slots[k.val] = some r := h
  simp [State.namedTrip, e]

/-- A free slot (R67). -/
theorem State.namedTrip_free (s : State) (k : Fin 48) (serial : Nat) (h : s.trips.slots[k] = none) :
    s.namedTrip k.val serial = .error (.notFound, []) := by
  have e : s.trips.slots[k.val] = none := h
  simp [State.namedTrip, e]

/-- A slot whose record has another serial (R67). -/
theorem State.namedTrip_stale (s : State) (k : Fin 48) (serial : Nat) (r : TripRecord) (h : s.trips.slots[k] = some r)
    (other : r.serial.toNat ≠ serial) : s.namedTrip k.val serial = .error (.stale, r.bytes k.val) := by
  have e : s.trips.slots[k.val] = some r := h
  simp [State.namedTrip, e, other]

/-- A slot outside the table (R67). -/
theorem State.namedTrip_outside (s : State) (slot serial : Nat) (h : 47 < slot) : s.namedTrip slot serial = .error (.badField, []) := by
  simp only [State.namedTrip]; rw [dif_neg (by omega)]

/-- A slot and serial that name an account (R98). -/
theorem State.namedAccount_ok (s : State) (k : Fin 24) (a : Account) (d : Bool) (h : s.tally.accounts[k] = .held a d) :
    s.namedAccount k.val a.serial.toNat = .ok (k, a, d) := by
  have e : s.tally.accounts[k.val] = .held a d := h
  simp [State.namedAccount, e]

/-- A free account slot (R98). -/
theorem State.namedAccount_free (s : State) (k : Fin 24) (serial : Nat) (r : Bool) (h : s.tally.accounts[k] = .free r) :
    s.namedAccount k.val serial = .error .notFound := by
  have e : s.tally.accounts[k.val] = .free r := h
  simp [State.namedAccount, e]

/-- An account slot whose account has another serial (R98). -/
theorem State.namedAccount_stale (s : State) (k : Fin 24) (serial : Nat) (a : Account) (d : Bool) (h : s.tally.accounts[k] = .held a d)
    (other : a.serial.toNat ≠ serial) : s.namedAccount k.val serial = .error .stale := by
  have e : s.tally.accounts[k.val] = .held a d := h
  simp [State.namedAccount, e, other]

/-- An account slot outside the table (R98). -/
theorem State.namedAccount_outside (s : State) (slot serial : Nat) (h : 23 < slot) : s.namedAccount slot serial = .error .badField := by
  simp only [State.namedAccount]; rw [dif_neg (by omega)]

/-- The live slot of a line holds a live record of the line (R56). -/
theorem TripTable.liveSlot_some (t : TripTable) (line : Fin 32) (k : Fin 48) (h : t.liveSlot line = some k) :
    ∃ r, t.slots[k] = some r ∧ r.line = line ∧ r.isLive = true := by
  have e := List.find?_some h
  cases hr : t.slots[k] with
  | none => simp [hr, slotHas] at e
  | some r => exact ⟨r, rfl, by simpa [hr, slotHas] using e⟩

/-- A line has no live slot exactly when no slot holds a live record of it (R56). -/
theorem TripTable.liveSlot_none (t : TripTable) (line : Fin 32) :
    t.liveSlot line = none ↔ ∀ (k : Fin 48) (r : TripRecord), t.slots[k] = some r → r.line = line → r.isLive = false := by
  simp only [TripTable.liveSlot, List.find?_eq_none, List.mem_finRange, forall_const]
  constructor
  · intro h k r hk hl
    have := h k
    simpa [hk, slotHas, hl] using this
  · intro h k
    cases hk : t.slots[k] with
    | none => simp [slotHas]
    | some r =>
      simp only [slotHas, Option.any, Bool.and_eq_true, beq_iff_eq, not_and, Bool.not_eq_true]
      exact h k r hk

/-- No slot is free exactly when all 48 are occupied (R58, R59). -/
theorem TripTable.freeSlot_none (t : TripTable) : t.freeSlot = none ↔ ∀ k : Fin 48, t.slots[k].isSome = true := by
  simp only [TripTable.freeSlot, List.find?_eq_none, List.mem_finRange, forall_const]
  refine forall_congr' fun k => ?_
  cases t.slots[k] <;> simp

/-- Acknowledgement and release decide whether a record is live (R56). -/
theorem TripRecord.isLive_iff (r : TripRecord) : r.isLive = true ↔ r.release = none ∨ r.ack = none := by
  unfold TripRecord.isLive TripRecord.state
  cases r.release <;> cases r.ack <;> simp

end Sys2Proof.Machine
end

