-- ==== Sys2Proof/Laws/Walk.lean ====
section
/-! SUPPORT. What the walk's operations leave as they were: figures of the tallies, accounts, stored images. A walk moves marks, its own
position and the write in flight, and nothing else of the two blocks. -/

namespace Sys2Proof.Machine

/-- Two states agree in all that a walk leaves as it was: unit tallies, side table, freeze, the accounts less their marks, and the array with its image states and the periodic count. -/
def State.SameRecords (a b : State) : Prop :=
  a.tally.units = b.tally.units ∧ a.tally.side = b.tally.side ∧ a.tally.freeze = b.tally.freeze ∧ a.tally.serial = b.tally.serial
    ∧ (∀ k : Fin 24, a.tally.accounts[k].account = b.tally.accounts[k].account)
    ∧ a.store.images = b.store.images ∧ a.store.failed = b.store.failed ∧ a.store.numbers = b.store.numbers
    ∧ a.store.configImage = b.store.configImage ∧ a.store.configFault = b.store.configFault ∧ a.store.periodic = b.store.periodic

/-- A state agrees with itself. -/
theorem State.SameRecords.same (a : State) : a.SameRecords a := ⟨rfl, rfl, rfl, rfl, fun _ => rfl, rfl, rfl, rfl, rfl, rfl, rfl⟩

/-- Agreement passes through a third state. -/
theorem State.SameRecords.then {a b c : State} (x : a.SameRecords b) (y : b.SameRecords c) : a.SameRecords c := by
  obtain ⟨x1, x2, x3, x4, x5, x6, x7, x8, x9, x10, x11⟩ := x
  obtain ⟨y1, y2, y3, y4, y5, y6, y7, y8, y9, y10, y11⟩ := y
  exact ⟨x1.trans y1, x2.trans y2, x3.trans y3, x4.trans y4, fun k => (x5 k).trans (y5 k), x6.trans y6, x7.trans y7, x8.trans y8,
    x9.trans y9, x10.trans y10, x11.trans y11⟩

/-- A change of the walk's own fields and of the configuration write leaves the records. -/
theorem State.SameRecords.ofStore (s : State) (t : Store) (h : t.images = s.store.images ∧ t.failed = s.store.failed
    ∧ t.numbers = s.store.numbers ∧ t.configImage = s.store.configImage ∧ t.configFault = s.store.configFault
    ∧ t.periodic = s.store.periodic) : ({ s with store := t } : State).SameRecords s :=
  ⟨rfl, rfl, rfl, rfl, fun _ => rfl, h.1, h.2.1, h.2.2.1, h.2.2.2.1, h.2.2.2.2.1, h.2.2.2.2.2⟩

/-- Setting a mark leaves the unit tallies. -/
@[simp] theorem Tally.setMark_units (b : Bool) (i : Fin 32) (t : Tally) : (t.setMark b i).units = t.units := by
  unfold Tally.setMark; split <;> rfl
/-- Setting a mark leaves the side table. -/
@[simp] theorem Tally.setMark_side (b : Bool) (i : Fin 32) (t : Tally) : (t.setMark b i).side = t.side := by
  unfold Tally.setMark; split <;> rfl
/-- Setting a mark leaves the freeze. -/
@[simp] theorem Tally.setMark_freeze (b : Bool) (i : Fin 32) (t : Tally) : (t.setMark b i).freeze = t.freeze := by
  unfold Tally.setMark; split <;> rfl
/-- Setting a mark leaves the account serial counter. -/
@[simp] theorem Tally.setMark_serial (b : Bool) (i : Fin 32) (t : Tally) : (t.setMark b i).serial = t.serial := by
  unfold Tally.setMark; split <;> rfl

/-- A slot holds the same account whatever its mark. -/
@[simp] theorem AccountSlot.setMark_account (b : Bool) (a : AccountSlot) : (a.setMark b).account = a.account := by cases a <;> rfl

/-- Setting a mark leaves every account. -/
@[simp] theorem Tally.setMark_account (b : Bool) (i : Fin 32) (t : Tally) (k : Fin 24) :
    (t.setMark b i).accounts[k].account = t.accounts[k].account := by
  unfold Tally.setMark
  cases imageRecord i with
  | inl u => rfl
  | inr j =>
    by_cases h : j = k
    · subst h; simp
    · have : j.val ≠ k.val := fun e => h (Fin.ext e)
      simp [this]

/-- A capture leaves the records (R127). -/
theorem State.capture_same (i : Fin 32) (s : State) : (s.capture i).SameRecords s := by
  exact ⟨Tally.setMark_units _ _ _, Tally.setMark_side _ _ _, Tally.setMark_freeze _ _ _, Tally.setMark_serial _ _ _,
    Tally.setMark_account _ _ s.tally, rfl, rfl, rfl, rfl, rfl, rfl⟩

/-- A visit leaves the records. -/
theorem State.visit_same (n : Nat) (s t : State) (h : s.visit n = some t) : t.SameRecords s := by
  unfold State.visit at h
  split at h
  · cases h
  · split at h
    · cases h; exact s.capture_same _
    · cases h; exact .ofStore _ _ ⟨rfl, rfl, rfl, rfl, rfl, rfl⟩

/-- The grant of the port leaves the records. -/
theorem State.grantConfig_same (s : State) : s.grantConfig.SameRecords s := by
  unfold State.grantConfig; split
  · exact .ofStore _ _ ⟨rfl, rfl, rfl, rfl, rfl, rfl⟩
  · exact .same s

/-- The end of a walk leaves the records (R128). -/
theorem State.endWalk_same (s : State) : s.endWalk.SameRecords s := by
  unfold State.endWalk
  split
  · split
    · extract_lets b
      cases h : b.visit 0 with
      | none => exact .ofStore _ _ ⟨rfl, rfl, rfl, rfl, rfl, rfl⟩
      | some t => exact (State.visit_same _ _ _ h).then (.ofStore _ _ ⟨rfl, rfl, rfl, rfl, rfl, rfl⟩)
    · exact .ofStore _ _ ⟨rfl, rfl, rfl, rfl, rfl, rfl⟩
  · exact (State.grantConfig_same _).then (.ofStore _ _ ⟨rfl, rfl, rfl, rfl, rfl, rfl⟩)
  · exact .same s
  · exact .same s

/-- A walk going on leaves the records. -/
theorem State.goOn_same (n : Nat) (s : State) : (s.goOn n).SameRecords s := by
  unfold State.goOn
  cases h : s.visit n with
  | none => exact s.endWalk_same
  | some t => exact State.visit_same _ _ _ h

/-- A checkpoint trigger leaves the records (R126). -/
theorem State.trigger_same (s : State) : s.trigger.SameRecords s := by
  unfold State.trigger
  split
  · exact (State.goOn_same _ _).then (.ofStore _ _ ⟨rfl, rfl, rfl, rfl, rfl, rfl⟩)
  · exact .ofStore _ _ ⟨rfl, rfl, rfl, rfl, rfl, rfl⟩
  · exact .same s
  · exact .same s

/-- The beginning of a final walk leaves the records (R132). -/
theorem State.beginFinal_same (s : State) : s.beginFinal.SameRecords s :=
  (State.goOn_same _ _).then (.ofStore _ _ ⟨rfl, rfl, rfl, rfl, rfl, rfl⟩)

/-- Taking the warning leaves the records (R132). -/
theorem State.takeWarning_same (s : State) : s.takeWarning.SameRecords s := by
  unfold State.takeWarning
  split
  · exact .same s
  · exact .same s
  all_goals
    split
    · exact s.beginFinal_same
    · exact .ofStore _ _ ⟨rfl, rfl, rfl, rfl, rfl, rfl⟩

/-- The start trigger leaves the records (R137, R138). -/
theorem State.startTrigger_same (s : State) : s.startTrigger.SameRecords s := by
  unfold State.startTrigger; split
  · exact s.takeWarning_same
  · exact s.trigger_same

/-- The walk's next move after a write leaves the records. -/
theorem State.afterImage_same (i : Fin 32) (s : State) : (s.afterImage i).SameRecords s := by
  unfold State.afterImage
  split
  · exact s.beginFinal_same
  · split
    · exact (State.goOn_same _ _).then s.grantConfig_same
    · exact s.grantConfig_same

/-- The walk's next move after a configuration write leaves the records. -/
theorem State.afterConfig_same (s : State) : s.afterConfig.SameRecords s := by
  unfold State.afterConfig
  split
  · exact s.beginFinal_same
  · split
    · exact State.goOn_same _ _
    · exact .same s

/-- The next marked image is marked and at or after the index, and none before it is (R125, R128). -/
theorem Tally.nextMarked_some (t : Tally) (n : Nat) (i : Fin 32) (h : t.nextMarked n = some i) :
    n ≤ i.val ∧ t.marked i = true := by
  have := List.find?_some h
  simpa using this

/-- With no image marked at or after the index there is no next one. -/
theorem Tally.nextMarked_none (t : Tally) (n : Nat) : t.nextMarked n = none ↔ ∀ i : Fin 32, n ≤ i.val → t.marked i = false := by
  simp [Tally.nextMarked, List.find?_eq_none]

/-- The image of a unit position is the unit's (07 section 7.1). -/
@[simp] theorem imageRecord_unit (u : Fin 8) : imageRecord (unitImage u) = .inl u := by
  simp [imageRecord, unitImage]

/-- The image of an account slot is the slot's (07 section 7.1). -/
@[simp] theorem imageRecord_account (k : Fin 24) : imageRecord (accountImage k) = .inr k := by
  simp [imageRecord, accountImage]

end Sys2Proof.Machine
end

