-- ==== Sys2Proof/Tests/Slice0.lean ====
section
/-! SUPPORT. The model's own tests: ill-formed commands, one small step for each command (after the worked examples of the spec), and for
each statement of the certificates states and operands that meet its hypotheses. -/

namespace Sys2Proof.Tests

set_option Elab.async false

open Sys2Proof Sys2Proof.Machine Sys2Proof.Claim Sys2Proof.Safety

/-! ### Small states -/

/-- The state a command leaves. -/
def after (c : Instr) (s : State) : State :=
  match exec c s with
  | .next t => t
  | .fault _ => s
  | .refused _ => s

/-- The reply in a slot: outcome and body. -/
def replyIn (i : Fin 2) (s : State) : Option (ReplyCode × List Byte) :=
  match s.port.slots[i] with
  | .waiting _ r => some (r.code, r.body)
  | _ => none

/-- The outcome of the reply in slot A. -/
def codeA (s : State) : Option ReplyCode := (replyIn 0 s).map Prod.fst

/-- Requester 0, of level 0, acting for a crew. -/
def hd (crew : Fin 16) : Header := ⟨0, 0, crew, 41⟩

/-- Requester 3, of level 3. -/
def low : Header := ⟨0, 3, 4, 42⟩

/-- A part at rest: no walk in flight, nothing marked, the crystal current. -/
def quiet : State :=
  { State.reset with
    time := { State.reset.time with source := .xtal, target := none, crystalRunning := true, timeSet := true, generation := 7 }
    tally := { State.reset.tally with dirty := Vector.replicate 8 false }
    store := { State.reset.store with walk := .idle, write := none } }

/-- `quiet` with another Time Base. -/
def timed (t : TimeBase) : State := { quiet with time := t }

/-- The Time Base of the example of 01 section 1.11: REF current and qualified, the pulse at 0 just taken. -/
def onRef : TimeBase :=
  { quiet.time with source := .ref, refQualified := true, anchor := some 0, lastPulse := 0, elapsed := 1000, boundaryTime := 1000 }

/-- The example of 01 section 1.11 just before the pulse at 9,200 ms. -/
def returning : TimeBase :=
  { quiet.time with
    clock := 9000000, anchor := some 8200000, lastPulse := 8200000, goodRun := 3, boundaryPos := 9000000, elapsed := 1009, holdover := 7 }

/-- Line 7 of the example of 03 section 3.8, on unit 3 in relay group 12. -/
def line7 : LineConfig := ⟨true, 3, 12, 3, 5⟩

/-- A unit that runs in a mode, settled, with its breaker closed or open. -/
def unitIn (m : UnitMode) (closed : Bool) : UnitTrack :=
  { UnitTrack.cold with
    generate := ⟨if m = .generate then .on else .off, none, 0⟩, pump := ⟨if m = .pump then .on else .off, none, 0⟩
    condense := ⟨.off, none, 0⟩, spin := ⟨if m = .spin then .on else .off, none, 0⟩, breaker := ⟨if closed then .on else .off, none, 0⟩
    mode := m, breakerClosed := closed, settled := true }

/-- `quiet` with line 7 enabled in a line state, and unit 3 in PUMP. -/
def scanned (l : LineState) : State :=
  { quiet with
    config := { quiet.config with lines := quiet.config.lines.set 7 line7 }
    lines := quiet.lines.set 7 l
    units := quiet.units.set 2 (unitIn .pump true) }

/-- A line at rest. -/
def restLine : LineState := ⟨.released, 0, none, none, false, false, none⟩

/-- The levels with line 7 alone asserted. -/
def only7 : Vector Bool 32 := (Vector.replicate 32 false).set 7 true

/-- No line asserted. -/
def noLine : Vector Bool 32 := Vector.replicate 32 false

/-- A stamp of generation 7. -/
def at7 (seconds millis : Nat) : Stamp := ⟨7, seconds, millis, .locked⟩

/-- A trip record of a line, by its release and acknowledgement. -/
def trip (serial : Word16) (line : Fin 32) (kind : TripKind) (release : Option Stamp) (ack : Option Ack) : TripRecord :=
  { serial := serial, line := line, unit := 3, group := 12, kind := kind, first := at7 100 0, last := at7 100 0, recurrences := 0,
    mode := .unit .pump, cause := none, ack := ack, release := release, carried := 0, foundAtStart := false }

/-- A pending entry of a line. -/
def entry (line : Fin 32) (first : Stamp) : PendingEntry :=
  { line := line, kind := .real, first := first, last := first, recurrences := 0, mode := .unit .pump, release := none, carried := 0,
    foundAtStart := false }

/-- `quiet` with crew 4 on watch and some trip slots. -/
def withTrips (slots : Vector (Option TripRecord) 48) (list : List PendingEntry) : State :=
  { quiet with
    trips := { slots := slots, pendingList := list, serial := 1204 }
    watch := { quiet.watch with state := .onWatch, crew := 4 } }

/-- Every slot occupied by a settled record, but slot 5, which holds `r`. -/
def fullTable (r : TripRecord) : Vector (Option TripRecord) 48 :=
  (Vector.replicate 48 (some (trip 9 2 .real (some (at7 101 0)) (some ⟨4, at7 102 0⟩)))).set 5 (some r)

/-- One trip record, in slot 12. -/
def oneTrip (r : TripRecord) : State := withTrips (State.reset.trips.slots.set 12 (some r)) []

/-- Account A of the example of 06 section 6.11, bound or not. -/
def accountA (bound : Option (Fin 8)) : Account :=
  { serial := 300, figures := ⟨.zero, .zero, 0, 0, 0, 7199900⟩, fraction := 200,
    live := some { tag := [83, 52], cls := .generator, bound := bound, interval := 2000, margin := 10, nextDue := 7200000, service := .warn } }

/-- A LOST account. -/
def lostA : Account := { serial := 300, figures := .zero, fraction := 0, live := none }

/-- `quiet` with an account in slot 6 and unit 4 settled in a mode, its breaker open. -/
def withUnit4 (a : Account) (m : UnitMode) : State :=
  { quiet with
    tally := { quiet.tally with accounts := quiet.tally.accounts.set 6 (.held a false) }
    units := quiet.units.set 3 (unitIn m false) }

/-- `quiet` with a watch. -/
def watched (state : WatchState) (crew incoming : Fin 16) : State :=
  { quiet with watch := { quiet.watch with
      state := state, crew := crew, incoming := incoming
      origin := if incoming = 0 then none else some .unscheduled
      window := if incoming = 0 then none else some 30
      openedAt := if incoming = 0 then none else some 0
      windowDeadline := if incoming = 0 then none else some 1800, shift := 741 } }

/-- A part under backup supply. -/
def onBackup : State := { quiet with pins := { quiet.pins with mainPower := false }, time := { quiet.time with outageMark := some 0 } }

/-- A part held in reset. -/
def inReset : State := { quiet with pins := { quiet.pins with resetLine := true } }

/-! ### Ill-formed commands: one for each check of `Instr.wellFormed` -/

theorem test_illformed_time : ¬ WellFormed (.selectSource low 256) ∧ ¬ WellFormed (.setTime low 4294967296 0)
    ∧ ¬ WellFormed (.setTime low 0 65536) := by decide +kernel
theorem test_illformed_lines : ¬ WellFormed (.testTrip low 256 1) ∧ ¬ WellFormed (.testTrip low 0 65536)
    ∧ ¬ WellFormed (.cancelTest low 256) ∧ ¬ WellFormed (.readLine low 256) := by decide +kernel
theorem test_illformed_trips : ¬ WellFormed (.acknowledge low 256 0) ∧ ¬ WellFormed (.acknowledge low 0 65536)
    ∧ ¬ WellFormed (.assignCause low 256 0 0) ∧ ¬ WellFormed (.assignCause low 0 65536 0) ∧ ¬ WellFormed (.assignCause low 0 0 65536)
    ∧ ¬ WellFormed (.retireTrip low 256 0) ∧ ¬ WellFormed (.retireTrip low 0 65536) ∧ ¬ WellFormed (.readTrip low 256) := by decide +kernel
/-- Figures that take more than their bytes, by one field each. -/
def wide : List Figures :=
  [⟨⟨4294967296, 0, 0, 0⟩, .zero, 0, 0, 0, 0⟩, ⟨.zero, ⟨0, 0, 0, 4294967296⟩, 0, 0, 0, 0⟩, ⟨.zero, .zero, 4294967296, 0, 0, 0⟩,
    ⟨.zero, .zero, 0, 4294967296, 0, 0⟩, ⟨.zero, .zero, 0, 0, 4294967296, 0⟩, ⟨.zero, .zero, 0, 0, 0, 1099511627776⟩]
/-- No optional field of a PRESET. -/
def bare : PresetOptions := ⟨none, none, none, none, none⟩
/-- Zero figures. -/
def zeros : Figures := ⟨.zero, .zero, 0, 0, 0, 0⟩
theorem test_illformed_open : ¬ WellFormed (.openAccount low (List.replicate 234 65) 0 1 1 none)
    ∧ ¬ WellFormed (.openAccount low (List.replicate 185 65) 0 1 1 (some zeros)) ∧ ¬ WellFormed (.openAccount low [65] 256 1 1 none)
    ∧ ¬ WellFormed (.openAccount low [65] 0 65536 1 none) ∧ ¬ WellFormed (.openAccount low [65] 0 1 65536 none)
    ∧ ∀ f ∈ wide, ¬ WellFormed (.openAccount low [65] 0 1 1 (some f)) := by decide +kernel
theorem test_illformed_accounts : ¬ WellFormed (.bind low 256 0 0) ∧ ¬ WellFormed (.bind low 0 65536 0) ∧ ¬ WellFormed (.bind low 0 0 256)
    ∧ ¬ WellFormed (.unbind low 256 0) ∧ ¬ WellFormed (.unbind low 0 65536) ∧ ¬ WellFormed (.retireAccount low 256 0)
    ∧ ¬ WellFormed (.retireAccount low 0 65536) ∧ ¬ WellFormed (.serviceDone low 256 0) ∧ ¬ WellFormed (.serviceDone low 0 65536)
    ∧ ¬ WellFormed (.readAccount low (.slot 256)) ∧ ¬ WellFormed (.readAccount low (.tag (List.replicate 239 65)))
    ∧ ¬ WellFormed (.readUnit low 256) := by decide +kernel
theorem test_illformed_preset : ¬ WellFormed (.preset low 256 0 zeros bare) ∧ ¬ WellFormed (.preset low 0 65536 zeros bare)
    ∧ ¬ WellFormed (.preset low 0 0 zeros { bare with tag := some (List.replicate 183 65) })
    ∧ ¬ WellFormed (.preset low 0 0 zeros { bare with cls := some 256 })
    ∧ ¬ WellFormed (.preset low 0 0 zeros { bare with interval := some 65536 })
    ∧ ¬ WellFormed (.preset low 0 0 zeros { bare with margin := some 65536 })
    ∧ ¬ WellFormed (.preset low 0 0 zeros { bare with nextDue := some 1099511627776 })
    ∧ ∀ f ∈ wide, ¬ WellFormed (.preset low 0 0 f bare) := by decide +kernel
theorem test_illformed_watch : ¬ WellFormed (.setRosterSlot low 256 0 0 0 0) ∧ ¬ WellFormed (.setRosterSlot low 0 65536 0 0 0)
    ∧ ¬ WellFormed (.setRosterSlot low 0 0 256 0 0) ∧ ¬ WellFormed (.setRosterSlot low 0 0 0 256 0)
    ∧ ¬ WellFormed (.setRosterSlot low 0 0 0 0 256) ∧ ¬ WellFormed (.readShiftTally low 256 0) ∧ ¬ WellFormed (.readShiftTally low 0 256) := by
  decide +kernel
theorem test_illformed_port : ¬ WellFormed (.find low 256 0 0 0 0 []) ∧ ¬ WellFormed (.find low 0 256 0 0 0 [])
    ∧ ¬ WellFormed (.find low 0 0 256 0 0 []) ∧ ¬ WellFormed (.find low 0 0 0 256 0 []) ∧ ¬ WellFormed (.find low 0 0 0 0 256 [])
    ∧ ¬ WellFormed (.find low 0 0 0 0 0 (List.replicate 236 0)) ∧ ¬ WellFormed (.statusPoll 0 0xC3 0) ∧ ¬ WellFormed (.statusPoll 0 0x96 0) := by
  decide +kernel
theorem test_illformed_configuration : ¬ WellFormed (.configure low 256 0 0) ∧ ¬ WellFormed (.configure low 0 256 0)
    ∧ ¬ WellFormed (.configure low 0 0 2147483648) ∧ ¬ WellFormed (.configure low 0 0 (-2147483649))
    ∧ ¬ WellFormed (.readConfig low 256 0) ∧ ¬ WellFormed (.readConfig low 0 256) := by decide +kernel
theorem test_illformed_sample : ¬ WellFormed (.tripLineSample 0 noLine [7, 7]) := by decide +kernel
theorem test_wellformed_at_the_edge : WellFormed (.openAccount low (List.replicate 184 65) 3 65535 65535 (some zeros))
    ∧ WellFormed (.setTime low 4294967295 999) ∧ WellFormed (.configure low 21 0 (-720)) ∧ WellFormed (.statusPoll 0 0x00 0)
    ∧ WellFormed (.readAccount low (.tag (List.replicate 238 65))) ∧ WellFormed (.find low 0 0 47 0 2 (List.replicate 235 0)) := by
  decide +kernel

/-! ### The queue and the port -/

theorem test_words_spell_no_command : decodeTableWord 8 0 = none ∧ decodeTableWord 0 0 = none ∧ State.reset.withFetchWord 8 3 = State.reset :=
  ⟨rfl, rfl, rfl⟩
theorem test_step_takes_the_front : step { quiet with pending := [.crystalStop 5, .backupBoundary] }
    = .next (after (.crystalStop 5) { quiet with pending := [.backupBoundary] }) := by rfl
theorem test_step_idles : step quiet = .next quiet := by rfl
theorem test_crc : crc16 [0x31, 0x32, 0x33, 0x34, 0x35, 0x36, 0x37, 0x38, 0x39] = 0x29B1#16 := by decide +kernel
/-- A good frame, a wrong CRC and an unknown kind (R163, R164). -/
theorem test_send : codeA (after (.send 0 (frameBytes 3 4 29 41 [])) quiet) = some .ok
    ∧ (after (.send 0 [0, 0x34, 29, 41, 0, 0]) quiet).port.latched = 0xA00#32
    ∧ (after (.send 0 (frameBytes 3 4 33 41 [])) quiet).port.slots[0] = .waiting 1 ⟨⟨3, 41, 33⟩, .badKind, []⟩ := by decide +kernel
/-- A frame that arrives with both slots taken is ignored whole (09 section 9.9). -/
def busyPort : State :=
  { quiet with port := { quiet.port with
      slots := #v[.waiting 2 ⟨⟨0, 40, 32⟩, .ok, []⟩, .waiting 1 ⟨⟨2, 41, 28⟩, .ok, [7]⟩], nextOrder := 3 } }
theorem test_send_ignored : (after (.send 0 (frameBytes 3 4 29 41 [])) busyPort).port.slots = busyPort.port.slots
    ∧ (after (.send 0 []) busyPort).port.latched = busyPort.port.latched := by decide +kernel
/-- The oldest reply first; a frame cut short keeps its slot (09 section 9.9). -/
theorem test_collect : (after (.collect 0 9) busyPort).port.slots = #v[.waiting 2 ⟨⟨0, 40, 32⟩, .ok, []⟩, .free]
    ∧ (after (.collect 0 8) busyPort).port.slots = busyPort.port.slots
    ∧ (after (.collect 0 7) busyPort).port.dataOut = [0xAA, 0x3C, 1, 0x20, 41, 28, 0, 7] := by decide +kernel
theorem test_status_poll : (after (.statusPoll 0 0x55 3) quiet).port.dataOut = [0xAC, 0, 0, 0] := by decide +kernel
theorem test_read_conditions : replyIn 0 (after (.readConditions low) quiet) = some (.ok, [0, 0, 8, 0, 0, 0, 0, 0, 1, 0, 0, 0, 0, 0, 0]) := by
  decide +kernel
theorem test_clear_conditions : (after (.clearConditions (hd 4) 0x800) quiet).port.latched = 0#32
    ∧ codeA (after (.clearConditions (hd 4) 0x1000) quiet) = some .badField := by decide +kernel
theorem test_set_mask : (after (.setMask (hd 4) 0x800) quiet).attention = false
    ∧ codeA (after (.setMask low 0x800) quiet) = some .privilege := by decide +kernel

/-! ### The Time Base (01 sections 1.5 and 1.11, 02 section 2.7) -/

theorem test_select_source : (after (.selectSource (hd 4) 2) quiet).time.source = .rc ∧ (after (.selectSource (hd 4) 2) quiet).time.rcHeld = true
    ∧ (after (.selectSource (hd 4) 0) quiet).time.target = some .ref
    ∧ codeA (after (.selectSource (hd 4) 1) quiet) = some .redundant := by decide +kernel
/-- The Time Base of the example of 02 section 2.7: 1,000,000 s, 400 ms into the second. -/
def slewing : TimeBase := { quiet.time with clock := 400000, boundaryTime := 1000000000 }
theorem test_set_time_slews : (after (.setTime (hd 4) 999999 393) (timed slewing)).time.slewRemainder = -1007 := by decide +kernel
theorem test_set_time_holds_a_step :
    let t := after (.setTime (hd 4) 1000259 700) { watched .opened 4 7 with time := { slewing with boundaryTime := 1000199300 } }
    codeA t = some .deferred ∧ t.time.pendingStep = some 60000 := by decide +kernel
theorem test_read_time : ((replyIn 0 (after (.readTime low) (timed slewing))).map fun r => r.2.take 8)
    = some [7, 0, 0x0F, 0x42, 0x40, 0x01, 0x90, 1] := by decide +kernel
theorem test_ref_pulse_counts : (after (.refPulse 1000000) (timed onRef)).time.elapsed = 1001
    ∧ (after (.refPulse 1000000) (timed onRef)).time.boundaryPos = 1000000 := by decide +kernel
theorem test_ref_pulse_returns :
    let t := after (.refPulse 200000) (timed returning)
    t.time.source = .ref ∧ t.time.boundaryPos = 9000000 ∧ t.time.elapsed = 1009 ∧ t.time.holdover = 0 ∧ t.port.latched = 0x804#32 := by
  decide +kernel
theorem test_flywheel : (after .flywheelBoundary (timed onRef)).time.boundaryPos = 1000000
    ∧ (after .flywheelBoundary (timed onRef)).time.clock = 1000500 ∧ (after .flywheelBoundary (timed onRef)).time.anchor = some 0 := by
  decide +kernel
theorem test_absence_limit : (after .absenceLimitExpiry (timed onRef)).time.source = .xtal
    ∧ (after .absenceLimitExpiry (timed onRef)).port.latched = 0x802#32 := by decide +kernel
/-- The first boundary of the slew of 02 section 2.7. -/
theorem test_second_boundary :
    let t := after .secondBoundary (timed { slewing with slewRemainder := -1007 })
    t.time.boundaryTime = 1000000998 ∧ t.time.slewRemainder = -1005 ∧ t.time.elapsed = 1 ∧ t.time.holdover = 1 := by decide +kernel
theorem test_crystal_ready :
    (after (.crystalReady 0) (timed { quiet.time with source := .rc, crystalRunning := false })).time.source = .xtal := by decide +kernel
theorem test_crystal_stop : (after (.crystalStop 0) quiet).time.source = .rc ∧ (after (.crystalStop 0) quiet).port.latched = 0x802#32 := by
  decide +kernel

/-- Under backup supply a crystal stop loses the count, and station time keeps the value it has reached (R20 action 5). -/
theorem test_count_lost_stands :
    let t := after (.crystalStop 250000) onBackup
    t.time.backupLost = true ∧ t.time.source = .xtal
      ∧ (after (.backupSupplyLost 500000) t).time.reading 2 = t.time.reading 2 ∧ t.time.reading 2 = onBackup.time.reading 2 + 250 := by
  decide +kernel

/-! ### Trip lines (03 section 3.8) -/

/-- Line 7 in ASSERTING with a run. -/
def asserting7 (run : Nat) : LineState := { restLine with phase := .asserting, run := run, held := some (at7 73400 102), heldMode := some (.unit .pump) }
theorem test_sample_begins_a_run : (after (.tripLineSample 1000 only7 []) (scanned restLine)).lines[7].phase = .asserting
    ∧ (after (.tripLineSample 1000 only7 []) (scanned restLine)).lines[7].heldMode = some (.unit .pump)
    ∧ (after (.tripLineSample 1000 noLine []) (scanned (asserting7 2))).lines[7] = restLine := by decide +kernel
/-- The third sample of the run qualifies the assertion, dated at its first sample, and unit 3 takes the trip. -/
theorem test_sample_qualifies :
    let t := after (.tripLineSample 1000 only7 []) (scanned (asserting7 2))
    t.lines[7].phase = .asserted ∧ (t.trips.slots[0].map fun r => (r.line, r.unit, r.group, r.first)) = some (7, 3, 12, at7 73400 102)
      ∧ t.trips.slots[0].map (·.mode) = some (.unit .pump) ∧ t.tally.units[2].trips = 1 ∧ t.port.latched = 0x801#32 := by decide +kernel
theorem test_test_trip :
    let t := after (.testTrip (hd 4) 7 30) (scanned restLine)
    t.lines[7].test.map (·.endSecond) = some 30 ∧ t.trips.slots[0].map (·.kind) = some .test ∧ t.tally.units[2].trips = 0 := by decide +kernel
/-- A test injection on line 7 with its TEST record. -/
def tested : State :=
  let s := scanned { restLine with test := some ⟨at7 73410 250, 30⟩ }
  { s with trips := { s.trips with slots := s.trips.slots.set 0 (some (trip 3 7 .test none none)) } }
theorem test_cancel_test : (after (.cancelTest (hd 4) 7) tested).lines[7].test = none
    ∧ (after (.cancelTest (hd 4) 7) tested).trips.slots[0].map (·.state) = some .cleared
    ∧ codeA (after (.cancelTest (hd 4) 7) (scanned restLine)) = some .state := by decide +kernel
theorem test_test_expiry : (after .testExpiry { tested with time := { tested.time with elapsed := 30 } }).lines[7].test = none
    ∧ (after .testExpiry { tested with time := { tested.time with elapsed := 29 } }).lines[7].test.isSome = true := by decide +kernel
theorem test_read_line : ((replyIn 0 (after (.readLine low 7) (scanned restLine))).map fun r => r.2)
    = some [1, 3, 12, 3, 5, 0, 0, 0, 0, 0, 0, 0] := by decide +kernel

/-! ### The Trip Table (04 section 4.10) -/

/-- Crew 4 holds authority, and crew 5 does not. -/
theorem test_acknowledge : (after (.acknowledge (hd 4) 12 1204) (oneTrip (trip 1204 4 .real none none))).trips.slots[12].map (·.state) = some .acked
    ∧ codeA (after (.acknowledge (hd 5) 12 1204) (oneTrip (trip 1204 4 .real none none))) = some .noAuthority := by decide +kernel
theorem test_assign_cause : (after (.assignCause (hd 4) 12 1204 999) (oneTrip (trip 1204 4 .real none none))).trips.slots[12].map (·.cause)
    = some (some 999) := by decide +kernel
/-- A retirement with entries pending promotes the oldest (R71). -/
theorem test_retire_trip :
    let s := withTrips (fullTable (trip 1150 2 .real (some (at7 1 0)) (some ⟨4, at7 2 0⟩))) [entry 6 (at7 81000 147), entry 20 (at7 81000 150)]
    let t := after (.retireTrip (hd 4) 5 1150) s
    t.trips.slots[5].map (fun r => (r.line, r.serial)) = some (6, 1204) ∧ t.trips.pendingList = [entry 20 (at7 81000 150)]
      ∧ t.trips.serial = 1205 ∧ codeA (after (.retireTrip (hd 4) 5 1206) s) = some .stale := by decide +kernel
/-- The order of the pending list (R65): the back-dated line 6 goes ahead of line 20, and line 13 between them. -/
theorem test_pending_order : (insertEntry 7 (entry 13 (at7 81000 150)) (insertEntry 7 (entry 6 (at7 81000 147)) [entry 20 (at7 81000 150)])).map (·.line)
    = [6, 13, 20] := by decide +kernel
theorem test_read_trip : codeA (after (.readTrip low 12) (oneTrip (trip 1204 4 .real none none))) = some .ok
    ∧ codeA (after (.readTrip low 13) (oneTrip (trip 1204 4 .real none none))) = some .notFound := by decide +kernel

/-! ### Units, tallies and accounts (05 section 5.7, 06 section 6.11) -/

/-- The five lines of every unit, with unit 2's PUMP line active. -/
def pump2 : Vector UnitLines 8 := (Vector.replicate 8 ⟨false, false, false, false, false⟩).set 1 ⟨false, true, false, false, false⟩
/-- Unit 2 at rest with its PUMP input three readings into a run. -/
def pumping : State := { quiet with units := quiet.units.set 1 { unitIn .stopped false with pump := ⟨.off, some true, 3⟩ } }
theorem test_mode_sample : (after (.modeLineSample 0 pump2) pumping).units[1].mode = .pump
    ∧ (after (.modeLineSample 0 pump2) pumping).tally.units[1].starts = ⟨0, 1, 0, 0⟩
    ∧ (after (.modeLineSample 0 pump2) quiet).units[1].pump = ⟨.unknown, some true, 1⟩ := by decide +kernel
/-- Tick 1 of the example: fraction 200 + 280 = 480, one equivalent second and fraction 224. -/
theorem test_tick_accrues :
    let t := after .secondBoundary (withUnit4 (accountA (some 3)) .pump)
    (accountAt t 6).map (fun a => (a.figures.run, a.figures.equivalent, a.fraction)) = some (⟨0, 1, 0, 0⟩, 7199901, 224)
      ∧ t.tally.units[3].run = ⟨0, 1, 0, 0⟩ := by decide +kernel
/-- The start of PUMP of the example: starts P +1 and 900 equivalent seconds, from WARN to DUE with SERVICE_DUE alone. -/
theorem test_start_accrues :
    let s := withUnit4 (accountA (some 3)) .stopped
    let t := after (.modeLineSample 0 ((Vector.replicate 8 ⟨false, false, false, false, false⟩).set 3 ⟨false, true, false, false, false⟩))
      { s with units := s.units.set 3 { unitIn .stopped false with pump := ⟨.off, some true, 3⟩ } }
    (accountAt t 6).map (fun a => (a.figures.starts, a.figures.equivalent, a.live.map (·.service))) = some (⟨0, 1, 0, 0⟩, 7200800, some .due)
      ∧ t.tally.units[3].starts = ⟨0, 1, 0, 0⟩ ∧ t.port.latched = 0x800#32 ||| Event.serviceDue.bit := by decide +kernel
/-- The change to GENERATE of the example: changes +1 and 300 equivalent seconds; in a freeze the side table takes it, and not the account. -/
theorem test_change_accrues :
    let s := withUnit4 (accountA (some 3)) .pump
    let u := { unitIn .pump false with pump := ⟨.on, some false, 3⟩, generate := ⟨.off, some true, 3⟩ }
    let run := fun freeze : Bool => after
      (.modeLineSample 0 ((Vector.replicate 8 ⟨false, false, false, false, false⟩).set 3 ⟨true, false, false, false, false⟩))
      { s with units := s.units.set 3 u, tally := { s.tally with freeze := freeze } }
    (accountAt (run false) 6).map (fun a => (a.figures.changes, a.figures.equivalent)) = some (1, 7200200)
      ∧ accountAt (run true) 6 = some (accountA (some 3)) ∧ (run true).tally.side[3].changes = 1 := by decide +kernel
theorem test_read_unit : codeA (after (.readUnit low 8) quiet) = some .ok ∧ codeA (after (.readUnit low 9) quiet) = some .badField := by
  decide +kernel
theorem test_open_account :
    let t := after (.openAccount (hd 4) [83, 52] 0 2000 10 none) quiet
    (accountAt t 0).bind (·.live) = some ⟨[83, 52], .generator, none, 2000, 10, 7200000, .normal⟩
      ∧ codeA (after (.openAccount (hd 4) [83, 52] 0 2000 10 none) (withUnit4 (accountA none) .stopped)) = some .present := by decide +kernel
theorem test_bind : (accountAt (after (.bind (hd 4) 6 300 4) (withUnit4 (accountA none) .stopped)) 6) = some (accountA (some 3))
    ∧ codeA (after (.bind (hd 4) 6 300 4) (withUnit4 (accountA none) .pump)) = some .unitRunning := by decide +kernel
theorem test_unbind : (accountAt (after (.unbind (hd 4) 6 300) (withUnit4 (accountA (some 3)) .stopped)) 6) = some (accountA none)
    ∧ codeA (after (.unbind (hd 4) 6 301) (withUnit4 (accountA (some 3)) .stopped)) = some .stale := by decide +kernel
theorem test_preset : ((accountAt (after (.preset (hd 4) 6 300 { zeros with equivalent := 7200000 } bare) (withUnit4 (accountA none) .stopped)) 6).bind
    (·.live)).map (·.service) = some .due
    ∧ codeA (after (.preset (hd 4) 6 300 zeros bare) (withUnit4 lostA .stopped)) = some .badField := by decide +kernel
theorem test_retire_account : (after (.retireAccount (hd 4) 6 300) (withUnit4 lostA .stopped)).tally.accounts[6] = .free true
    ∧ codeA (after (.retireAccount (hd 4) 6 300) (withUnit4 (accountA (some 3)) .stopped)) = some .state := by decide +kernel
theorem test_service_done : ((accountAt (after (.serviceDone (hd 4) 6 300) (withUnit4 (accountA (some 3)) .pump)) 6).bind (·.live)).map
    (fun l => (l.nextDue, l.service)) = some (14399900, .normal) := by decide +kernel
theorem test_read_account : codeA (after (.readAccount low (.tag [83, 52])) (withUnit4 (accountA none) .pump)) = some .ok
    ∧ codeA (after (.readAccount low (.slot 7)) (withUnit4 (accountA none) .pump)) = some .notFound := by decide +kernel
/-- The three frozen seconds of the example are credited at the release: fraction 40 + 768 = 808. -/
theorem test_warning_released :
    let s := withUnit4 { accountA (some 3) with fraction := 40 } .generate
    let t := after (.warningReleased 0)
      { s with tally := { s.tally with freeze := true, side := s.tally.side.set 3 ⟨⟨3, 0, 0, 0⟩, 0, .zero, 0, 0⟩ } }
    (accountAt t 6).map (fun a => (a.figures.run, a.figures.equivalent, a.fraction)) = some (⟨3, 0, 0, 0⟩, 7199903, 40)
      ∧ t.tally.units[3].run = ⟨3, 0, 0, 0⟩ ∧ t.tally.freeze = false := by decide +kernel

/-! ### The tally store and the configuration (07 section 7.8) -/

/-- The marks of images 1 and 14, and the walk sequence counter at 5,121. -/
def marked : State :=
  { quiet with
    tally := { quiet.tally with
      dirty := quiet.tally.dirty.set 1 true
      accounts := quiet.tally.accounts.set 6 (.held (accountA none) true) }
    store := { quiet.store with sequence := 5121 } }
/-- The periodic walk with image 1 in flight. -/
def walking : State :=
  { marked with
    tally := marked.tally.setMark false 1
    store := { marked.store with walk := .walking, number := 5121, sequence := 5122, index := 1, write := some ⟨1, false, 5121, .unit .zero⟩ } }
theorem test_checkpoint : (after (.checkpoint (hd 4)) marked).store.write = some ⟨1, false, 5121, .unit .zero⟩
    ∧ codeA (after (.checkpoint (hd 4)) { marked with store := { marked.store with walk := .held } }) = some .busy := by decide +kernel
theorem test_periodic_trigger :
    (after .periodicTrigger { marked with store := { marked.store with periodic := 3599 } }).store.walk = .walking
    ∧ (after .periodicTrigger { marked with store := { marked.store with periodic := 3598 } }).store.periodic = 3598 := by decide +kernel
theorem test_image_write_end : (after (.imageWriteEnd 6000 .matched) walking).store.write = some ⟨14, false, 5121, .account (accountA none)⟩
    ∧ (after (.imageWriteEnd 6000 .matched) walking).store.numbers[1] = some 5121 := by decide +kernel
theorem test_image_mismatch :
    (after (.imageWriteEnd 6000 (.mismatched .delivered)) walking).store.write.map (·.second) = some true
    ∧ (let s := { walking with store := { walking.store with write := some ⟨1, true, 5121, .unit .zero⟩ } }
       (after (.imageWriteEnd 6000 (.mismatched .delivered)) s).store.failed[1] = true
         ∧ (after (.imageWriteEnd 6000 (.mismatched .delivered)) s).tally.dirty[1] = true) := by decide +kernel
/-- The final walk begins with the freeze, and waits behind a write in flight (R132). -/
theorem test_power_fail_warning : (after (.powerFailWarning 0) marked).store.walk = .final ∧ (after (.powerFailWarning 0) marked).tally.freeze = true
    ∧ (after (.powerFailWarning 0) walking).store.finalDue = true ∧ (after (.powerFailWarning 0) walking).store.walk = .walking := by decide +kernel
/-- The final walk that waited behind a write begins in FINAL where the warning was withdrawn before the write ended, and ends in IDLE (R132, R128); a warning taken again in that FINAL begins no further walk, and it ends in HELD (R132; log 12). -/
theorem test_warning_withdrawn :
    let s := after (.imageWriteEnd 0 .matched) (after (.warningReleased 0) (after (.powerFailWarning 0) walking))
    let t := after (.imageWriteEnd 0 .matched) (after (.powerFailWarning 0) s)
    s.store.walk = .final ∧ s.tally.freeze = false ∧ s.store.number = 5122
      ∧ s.store.write = some ⟨14, false, 5122, .account (accountA none)⟩ ∧ s.store.finalDue = false
      ∧ (after (.imageWriteEnd 0 .matched) s).store.walk = .idle ∧ t.store.number = 5122 ∧ t.store.walk = .held := by decide +kernel
/-- A warning withdrawn and taken again before the write has ended begins one final walk (log 12). -/
theorem test_warning_taken_again :
    let s := after (.imageWriteEnd 0 .matched) (after (.powerFailWarning 0) (after (.warningReleased 0) (after (.powerFailWarning 0) walking)))
    s.store.walk = .final ∧ s.tally.freeze = true ∧ s.store.number = 5122 ∧ s.store.sequence = 5123 := by decide +kernel
theorem test_read_store : codeA (after (.readStore low) walking) = some .ok := by decide +kernel
theorem test_configure :
    let t := after (.configure (hd 4) 5 7 8) quiet
    t.config.lines[7].assertCount = 8 ∧ t.port.slots[0] = .reserved ⟨0, 41, 32⟩ ∧ t.store.configWrite.isSome = true
      ∧ codeA (after (.configure (hd 4) 5 7 9) quiet) = some .badField := by decide +kernel
theorem test_configure_busy : codeA (after (.configure (hd 4) 2 7 0) (scanned (asserting7 1))) = some .busy
    ∧ codeA (after (.configure (hd 4) 1 0 1) quiet) = some .badField := by decide +kernel
theorem test_read_config : replyIn 0 (after (.readConfig low 21 0) { quiet with config := { quiet.config with localOffset := -60 } })
    = some (.ok, [0xFF, 0xFF, 0xFF, 0xC4, 0, 0, 0, 0, 0, 0]) := by decide +kernel
set_option maxRecDepth 100000 in
theorem test_check_config : (after (.checkConfig (hd 4)) quiet).store.configFault = false
    ∧ (after (.checkConfig (hd 4)) { quiet with config := { quiet.config with slewStep := 5 } }).store.configFault = true := by decide +kernel
/-- A configuration write in flight for the request of tag 41. -/
def configuring : State :=
  { quiet with
    store := { quiet.store with configWrite := some (.writing false (.write .factory)) }
    port := { quiet.port with slots := #v[.reserved ⟨0, 41, 32⟩, .free] } }
theorem test_config_write_end : codeA (after (.configWriteEnd 0 .matched) configuring) = some .ok
    ∧ (after (.configWriteEnd 0 .matched) configuring).store.configWrite = none
    ∧ (after (.configWriteEnd 0 (.mismatched ⟨.factory, 0⟩)) configuring).port.slots[0] = .reserved ⟨0, 41, 32⟩ := by decide +kernel

/-! ### The watch (08 section 8.11) -/

theorem test_set_roster_slot : (after (.setRosterSlot (hd 4) 0 360 2 30 15) quiet).config.roster[0] = ⟨360, 2, 30, 15⟩
    ∧ codeA (after (.setRosterSlot (hd 4) 0 360 2 30 31) quiet) = some .badField := by decide +kernel
theorem test_start_handover : (after (.startHandover (hd 7)) (watched .onWatch 4 0)).watch.windowDeadline = some 1800
    ∧ codeA (after (.startHandover (hd 4)) (watched .onWatch 4 0)) = some .redundant := by decide +kernel
theorem test_sign_on : (after (.signOn (hd 2)) (watched .opened 3 2)).watch.state = .signed
    ∧ (after (.signOn (hd 3)) (watched .noWatch 0 0)).watch.crew = 3
    ∧ (after (.signOn (hd 3)) (watched .noWatch 0 0)).watch.shift = 742 := by decide +kernel
theorem test_release : (after (.release (hd 3) false) (watched .signed 3 2)).watch.crew = 2
    ∧ (after (.release (hd 3) false) (watched .signed 3 2)).watch.shift = 742
    ∧ codeA (after (.release (hd 2) false) (watched .signed 3 2)) = some .noAuthority := by decide +kernel
/-- Carries are marked, and an item left unresolved refuses a release without carry (R150, R73). -/
theorem test_release_carries :
    let s := { watched .signed 3 2 with trips := (oneTrip (trip 8 3 .real none none)).trips }
    codeA (after (.release (hd 3) false) s) = some .unresolved
      ∧ (after (.release (hd 3) true) s).trips.slots[12].map (·.carried) = some 1 := by decide +kernel
theorem test_abort_handover : (after (.abortHandover (hd 4)) (watched .opened 3 2)).watch.state = .onWatch
    ∧ codeA (after (.abortHandover (hd 4)) (watched .onWatch 3 0)) = some .state := by decide +kernel
/-- A held step is applied at the end of the handover, with a minute event of the new local time (02 section 2.7). -/
theorem test_abort_applies_the_step :
    let s := { watched .opened 4 7 with time := { quiet.time with clock := 250000, boundaryTime := 1000229600, pendingStep := some 60000 } }
    let t := after (.abortHandover (hd 4)) s
    t.time.reading 2 = 1000289850 ∧ t.time.generation = 8 ∧ t.time.lastPresented = some ⟨831, 11⟩ ∧ t.port.latched = 0x808#32 := by
  decide +kernel
theorem test_read_watch : codeA (after (.readWatch low) (watched .signed 3 2)) = some .ok := by decide +kernel
theorem test_read_shift_tally : codeA (after (.readShiftTally low 8 0) quiet) = some .ok
    ∧ codeA (after (.readShiftTally low 8 1) quiet) = some .absent := by decide +kernel
theorem test_deadlines :
    let s := { watched .opened 3 2 with
      time := { quiet.time with elapsed := 1800 }
      watch := { (watched .opened 3 2).watch with warningDeadline := some 900 } }
    (after .warningDeadlineExpiry s).port.latched = 0x820#32 ∧ (after .windowDeadlineExpiry s).watch.overdue = true := by decide +kernel
/-- The slot of 06:00 opens a handover at the minute event of the boundary that brings 06:00 (R34, R144). -/
theorem test_slot_opens :
    let s := { watched .onWatch 3 0 with
      config := { quiet.config with roster := quiet.config.roster.set 0 ⟨360, 2, 30, 15⟩ }
      time := { quiet.time with clock := 1000000, elapsed := 8999999, boundaryTime := 1728021599000, lastPresented := some ⟨359, 20000⟩ } }
    let t := after .secondBoundary s
    t.watch.state = .opened ∧ t.watch.incoming = 2 ∧ t.watch.warningDeadline = some 9000900 ∧ t.watch.windowDeadline = some 9001800
      ∧ t.watch.lastOutcome = some ⟨0, 20000, .opened⟩ ∧ t.port.latched = 0x810#32 := by decide +kernel

/-! ### FIND (09 section 9.9) -/

/-- Slots 5 and 8 ACTIVE, slot 12 ACKED. -/
def three : State :=
  withTrips (((State.reset.trips.slots.set 5 (some (trip 1 20 .real none none))).set 8 (some (trip 2 3 .real none none))).set 12
    (some (trip 3 1 .real none (some ⟨4, at7 2 0⟩)))) []
/-- Up from 0 with a maximum of 2, state not equals ACKED. -/
theorem test_find :
    (replyIn 0 (after (.find low 0 0 47 0 2 [3, 1, 0]) three)).map (fun r => (r.1, r.2.head?, r.2.getLast?)) = some (.ok, some 2, some 9)
    ∧ codeA (after (.find low 0 0 48 0 2 [0]) three) = some .badField := by decide +kernel

/-! ### Power and starts (10 section 10.3) -/

theorem test_main_power_lost :
    let t := after (.mainPowerLost 0 .delivered (.write .factory)) walking
    t.pins.mainPower = false ∧ t.store.walk = .idle ∧ t.store.write = none ∧ t.tally.dirty[1] = true ∧ t.time.outageMark = some 0 := by
  decide +kernel
theorem test_backup_boundary : (after .backupBoundary onBackup).time.elapsed = 1 ∧ (after .backupBoundary quiet).time.elapsed = 0 := by decide +kernel
theorem test_backup_supply_lost : (after (.backupSupplyLost 0) onBackup).pins.retainedValid = false
    ∧ (after (.backupSupplyLost 0) quiet).pins.retainedValid = true
    ∧ (after (.mainPowerLost 0 .delivered (.write .factory)) (after (.backupSupplyLost 0) quiet)).pins.retainedValid = false := by decide +kernel
set_option maxRecDepth 100000 in
theorem test_cold_start : (after (.coldStart 0) delivered).time = State.reset.time ∧ (after (.coldStart 0) delivered).port = State.reset.port
    ∧ (after (.coldStart 0) delivered).watch = State.reset.watch ∧ (after (.coldStart 0) delivered).store.write = State.reset.store.write := by
  decide +kernel
set_option maxRecDepth 100000 in
theorem test_cold_start_loses_a_bad_image :
    let t := after (.coldStart 0) { delivered with store := { delivered.store with images := delivered.store.images.set 14 ⟨3, .empty, 0⟩ } }
    accountAt t 6 = some ⟨0, zeros, 0, none⟩ ∧ t.port.latched = 0xC00#32 ∧ t.store.failed[14] = true := by decide +kernel
set_option maxRecDepth 100000 in
/-- An outage of 100 counted seconds: the gap goes to the unobserved seconds of the unit kept in GENERATE (R22, R91). -/
theorem test_warm_start :
    let s := { onBackup with time := { onBackup.time with elapsed := 100, outageMark := some 0 }, units := onBackup.units.set 3 (unitIn .generate true) }
    let t := after (.warmStart 0) s
    t.tally.units[3].unobserved = 100 ∧ t.port.lastStart = .warm ∧ t.units[3].settled = false ∧ t.time.outageMark = none := by decide +kernel
set_option maxRecDepth 100000 in
theorem test_reset_line_asserted :
    let t := after (.resetLineAsserted 0 .delivered (.write .factory)) busyPort
    t.port.slots = #v[.free, .free] ∧ t.pins.resetLine = true ∧ t.time.elapsed = 0 := by decide +kernel
set_option maxRecDepth 100000 in
theorem test_reset_line_released :
    let t := after (.resetLineReleased 0) inReset
    t.pins.resetLine = false ∧ t.port.lastStart = .resetLine ∧ t.port.latched = 0x800#32 ∧ t.units[3].settled = false := by decide +kernel

set_option maxRecDepth 100000 in
/-- A warm start that main power brings behind the reset line waits, and the release of the line takes it (R179). -/
theorem test_start_waits :
    let s := after (.warmStart 0) { onBackup with pins := { onBackup.pins with resetLine := true } }
    let t := after (.resetLineReleased 0) s
    s.pins.startWaiting = some .warm ∧ s.up = false ∧ t.port.lastStart = .warm ∧ t.pins.startWaiting = none ∧ t.up = true := by
  decide +kernel

/-! ### Witnesses: states and operands that meet the hypotheses of the statements, clause by clause -/

theorem test_meets_FrontCommandRuns : quiet.pending = [] := rfl

/-- The account, trip and previous shift that the reading requests find. -/
def readable : State :=
  { oneTrip (trip 1204 4 .real none none) with
    tally := (withUnit4 (accountA none) .stopped).tally
    watch := { quiet.watch with previous := some ⟨740, 3, .cold, .cold, Vector.replicate 8 .zero⟩ } }
theorem test_meets_ReadsAnswer : Taken low 3 0 readable ∧ Taken low 3 0 quiet
    ∧ readable.trips.slots[12] = some (trip 1204 4 .real none none) ∧ readable.trips.slots[47] = none
    ∧ readable.tally.accounts[6] = .held (accountA none) false ∧ readable.tally.accounts[23] = .free false
    ∧ tagValid [83, 52] = true ∧ readable.tally.tagSlot [83, 52] = some 6 ∧ readable.tally.tagSlot [83] = none
    ∧ tagValid (List.replicate 16 126) = true ∧ tagValid [] = false ∧ tagValid (List.replicate 17 65) = false ∧ tagValid [31] = false
    ∧ readable.watch.previous.isSome = true ∧ quiet.watch.previous = none
    ∧ 3 < itemIndices 1 ∧ 0 < itemIndices 22 ∧ itemIndices 1 ≤ 4 ∧ itemIndices 0 ≤ 0 ∧ itemIndices 23 ≤ 0 := by
  unfold Taken; decide +kernel

theorem test_meets_Find : Taken low 3 0 three
    ∧ Collection.ofCode 0 = some .trips ∧ Collection.ofCode 1 = some .pending ∧ Collection.ofCode 2 = some .accounts
    ∧ Collection.ofCode 3 = none
    ∧ 47 < Collection.trips.size ∧ 31 < Collection.pending.size ∧ 23 < Collection.accounts.size
    ∧ 4 ≤ Collection.trips.most ∧ 7 ≤ Collection.pending.most ∧ 2 ≤ Collection.accounts.most
    ∧ readOptions .trips [3, 1, 3, 3, 0] = some [(3, 1), (3, 3)] ∧ readOptions .trips [0] = some []
    ∧ readOptions .trips [] = none ∧ readOptions .pending [2, 0, 0] = none ∧ readOptions .accounts [1, 0, 0] = none
    ∧ (three.matchAt .trips [(3, 1)] 8).isSome = true ∧ three.matchAt .trips [(3, 1)] 12 = none := by
  unfold Taken; decide +kernel

/-- Filters at the edges of the table of R168, and items that a record passes and does not. -/
theorem test_meets_Find_filters :
    (filterGood .trips 1 8 ∧ filterGood .trips 2 3 ∧ filterGood .trips 8 15 ∧ filterGood .pending 4 1 ∧ filterGood .accounts 1 1
      ∧ filterGood .accounts 5 3 ∧ filterGood .accounts 7 2)
    ∧ (¬ filterGood .trips 1 9 ∧ ¬ filterGood .pending 2 0 ∧ ¬ filterGood .accounts 1 0 ∧ ¬ filterGood .accounts 7 3)
    ∧ optionBytes [(3, 1), (3, 3)] = [3, 1, 3, 3, 0]
    ∧ tripPasses (trip 2 3 .real none none) [(3, 1), (1, 3), (8, 0)] ∧ ¬ tripPasses (trip 2 3 .real none none) [(1, 4)]
    ∧ entryPasses quiet.config.lines (entry 6 (at7 1 0)) [(4, 0)] ∧ ¬ entryPasses quiet.config.lines (entry 6 (at7 1 0)) [(8, 1)]
    ∧ accountPasses lostA [(2, 1), (3, 0), (6, 0)] := by
  refine ⟨by simp [filterGood], by simp [filterGood], by decide +kernel, ?_⟩
  unfold tripPasses entryPasses
  refine ⟨by decide +kernel, by decide +kernel, by decide +kernel, by decide +kernel, ?_⟩
  intro q hq
  simp only [List.mem_cons, List.not_mem_nil, or_false] at hq
  rcases hq with rfl | rfl | rfl <;> simp [lostA]

theorem test_meets_PortChecks : requestRow (.acknowledge low 12 1204) = some (low, 7, 2) ∧ inReset.up = false ∧ onBackup.up = false
    ∧ busyPort.up = true ∧ busyPort.freeReply = none ∧ quiet.up = true ∧ quiet.freeReply = some 0
    ∧ 2 < quiet.port.levels[low.requester].val := by decide +kernel

/-- Rows 4 and 19 and REDUNDANT are reached. -/
theorem test_meets_RefusedRequests :
    exec (.acknowledge low 12 1204) quiet = .next (after (.acknowledge low 12 1204) quiet)
    ∧ codeA (after (.acknowledge low 12 1204) quiet) = some .privilege
    ∧ codeA (after (.release (hd 3) false) (watched .opened 3 2)) = some .incomingAbsent
    ∧ codeA (after (.selectSource (hd 4) 1) quiet) = some .redundant
    ∧ requestRow (.release (hd 3) false) = some (hd 3, 24, 2) := by
  refine ⟨rfl, ?_⟩; decide +kernel

theorem test_meets_Send : quiet.up = true ∧ quiet.freeReply.isSome = true ∧ busyPort.freeReply = none
    ∧ (List.replicate 240 (0 : Byte)).length ≤ 240
    ∧ 240 < (241 : Byte).toNat ∧ 64 ≤ (64 : Byte).toNat ∧ ([0, 0x34, 29, 41, 0] : List Byte).length < (0 : Byte).toNat + 6
    ∧ crc16 [0, 0x34, 29, 41] ≠ BitVec.ofNat 16 (beNat [0, 0]) ∧ ([0, 0x34, 29] : List Byte).length < 4 := by decide +kernel

/-- A frame for each of the port's own checks: no such kind, no such selector, a requester above the level, bodies that do and do not fit. -/
theorem test_meets_Send_checks : quiet.freeReply = some 0 ∧ requiredLevel 0 [] = none ∧ requiredLevel 33 [] = none
    ∧ requiredLevel 32 [3] = none ∧ requiredLevel 32 [] = some 3 ∧ (requiredLevel 7 []) = some 2
    ∧ 2 < quiet.port.levels[(3 : Fin 4)].val ∧ ¬ 2 < quiet.port.levels[(0 : Fin 4)].val
    ∧ bodyFitsKind 7 [12, 4] = false ∧ bodyFitsKind 7 [12, 4, 180] = true ∧ bodyFitsKind 12 [1, 65, 0, 0, 1, 0, 1, 2] = false
    ∧ bodyFitsKind 12 [1, 65, 0, 0, 1, 0, 1, 0] = true ∧ bodyFitsKind 18 [1, 2, 65] = false ∧ bodyFitsKind 18 [1, 1, 65] = true := by
  decide +kernel

theorem test_meets_EveryRequestCanBeSent : requestRow (.setMask (hd 4) 1) = some (hd 4, 31, 2) ∧ WellFormed (.setMask (hd 4) 1)
    ∧ quiet.up = true ∧ quiet.freeReply.isSome = true := by decide +kernel

theorem test_meets_Collect : busyPort.up = true ∧ busyPort.oldestWaiting = some (1, ⟨⟨2, 41, 28⟩, .ok, [7]⟩)
    ∧ (⟨⟨2, 41, 28⟩, .ok, [7]⟩ : Reply).frame.length = 9 ∧ quiet.oldestWaiting = none := by decide +kernel

theorem test_meets_ClearConditions_SetMask : Taken (hd 4) 2 0 quiet ∧ 0x00FF0FFF#32 &&& 0xFF00F000#32 = 0#32
    ∧ 0x1000#32 &&& 0xFF00F000#32 ≠ 0#32 ∧ 0x80000000#32 &&& 0xFF00F000#32 ≠ 0#32 ∧ inReset.pins.resetLine = true
    ∧ onBackup.pins.mainPower = false := by unfold Taken; decide +kernel

theorem test_meets_HeldStates : quiet.port.latched &&& 0xFFFFF000#32 = 0#32 := by decide +kernel

theorem test_meets_SelectSource : Taken (hd 4) 1 0 quiet ∧ Source.xtal = quiet.time.source ∧ quiet.time.source ≠ .rc
    ∧ Target.ref.source ≠ quiet.time.source ∧ Target.xtal.source ≠ onRef.source := by unfold Taken; decide +kernel

theorem test_meets_SetTimeMeasures : Taken (hd 4) 1 0 quiet ∧ 4294967295 < 4294967296 ∧ 999 < 1000 ∧ quiet.time.source ≠ .ref
    ∧ onRef.source = .ref := by unfold Taken; decide +kernel

/-- A slew of exactly the threshold, and a step one millisecond beyond it: at once on ON_WATCH, held in OPEN and SIGNED, and with time not set. -/
theorem test_meets_SetTimeCorrects :
    let s := timed slewing
    Taken (hd 4) 1 0 s ∧ s.time.timeSet = true ∧ (s.measuredOffset 1000002400).natAbs ≤ s.config.slewThreshold
    ∧ s.config.slewThreshold < (s.measuredOffset 1000002401).natAbs ∧ Taken (hd 4) 1 0 (watched .opened 4 7)
    ∧ Taken (hd 4) 1 0 (watched .signed 4 7) ∧ s.watch.state ≠ .opened ∧ s.watch.state ≠ .signed
    ∧ State.reset.time.timeSet = false := by unfold Taken; decide +kernel

/-- A switch to XTAL in flight on RC, with the crystal running. -/
def toXtal : State := timed { quiet.time with source := .rc, target := some .xtal }
theorem test_meets_CountedBoundaries : quiet.timeUp = true ∧ quiet.time.source ≠ .ref
    ∧ ¬(quiet.time.target = some .xtal ∧ quiet.time.crystalRunning = true)
    ∧ (toXtal.timeUp = true ∧ toXtal.time.source ≠ .ref ∧ toXtal.time.target = some .xtal ∧ toXtal.time.crystalRunning = true)
    ∧ quiet.time.pendingStep = none ∧ quiet.time.readFloor = none
    ∧ (onBackup.timeUp = false ∧ onBackup.pins.retainedValid = true ∧ onBackup.time.crystalRunning = true ∧ onBackup.time.backupLost = false)
    ∧ ((timed onRef).timeUp = true ∧ onRef.source = .ref ∧ onRef.anchor = some 0 ∧ 0 ≤ onRef.boundaryPos)
    ∧ ({ onRef with boundaryPos := 200000, anchor := some 300000 } : TimeBase).boundaryPos < 300000 := by decide +kernel

/-- A step found pending with no handover, and the states in which none waits for the boundary. -/
theorem test_meets_NoStrandedStep :
    let stranded := timed { quiet.time with pendingStep := some 5000 }
    NoStrandedStep quiet ∧ NoStrandedStep { stranded with watch := (watched .opened 4 7).watch } ∧ ¬ NoStrandedStep stranded
    ∧ stranded.time.pendingStep = some 5000 := by unfold NoStrandedStep; decide +kernel

/-- At the edges of the window 1,000,500 µs after the anchor is good and 1,000,501 µs is bad; on XTAL with no switch in flight and auto-return off, a good pulse completes nothing. -/
theorem test_meets_RefPulse : (timed onRef).timeUp = true ∧ quiet.time.anchor = none ∧ onRef.anchor = some 0
    ∧ GoodPulse quiet.config 0 (onRef.clock + 1000500) ∧ ¬ GoodPulse quiet.config 0 (onRef.clock + 1000501) ∧ 0 ≤ onRef.clock + 1000501
    ∧ upTo 255 onRef.badRun < quiet.config.refBadLimit
    ∧ (GoodPulse quiet.config 8200000 (returning.clock + 200000) ∧ (timed returning).time.source ≠ .ref
      ∧ ¬ CompletingPulse { timed returning with config := { quiet.config with autoReturn := false } }) := by
  have hc : onRef.clock = 0 := by decide +kernel
  refine ⟨by decide, by decide, by decide, ⟨by decide, 1, by decide +kernel⟩, ?_, by decide, by decide,
    ⟨by decide, 1, by decide +kernel⟩, by decide, ?_⟩
  · rintro ⟨_, k, hk, h⟩
    have ht : quiet.config.refTolerance = 5 := by decide +kernel
    omega
  · unfold CompletingPulse QualifiedPulse; decide +kernel

theorem test_meets_SwitchToRef :
    let s := timed returning
    let late := timed { returning with boundaryPos := 8700000, target := some .ref, refQualified := true }
    (s.up = true ∧ s.time.anchor = some 8200000 ∧ s.time.source ≠ .ref ∧ inWindow (100 * s.config.refTolerance) 8200000 (s.time.clock + 200000) = true
      ∧ s.config.refQualify ≤ upTo 255 s.time.goodRun ∧ s.time.refQualified = false ∧ s.config.autoReturn = true
      ∧ s.time.clock + 200000 - s.time.boundaryPos < 500000)
    ∧ (late.up = true ∧ late.time.source ≠ .ref ∧ late.time.refQualified = true ∧ late.time.target = some .ref
      ∧ 500000 ≤ late.time.clock + 200000 - late.time.boundaryPos)
    ∧ CompletingPulse s ∧ CompletingPulse late := by unfold CompletingPulse QualifiedPulse; decide +kernel

/-- A reading of 1,009 ms into a long second raises the amount to +10 ms, and a remainder of -60,000 then leaves its range (R25, log 36). -/
theorem test_raised_amount_leaves_the_range :
    let t := after (.refPulse 1000000) (timed { onRef with slewRemainder := -60000, readFloor := some 2009 })
    t.time.slewRemainder = -60010 ∧ t.time.boundaryTime = 2010 := by decide +kernel

/-- Every command that counts a boundary, each on a state in which it does. -/
theorem test_meets_CountsBoundary : CountsBoundary .secondBoundary quiet ∧ CountsBoundary .flywheelBoundary (timed onRef)
    ∧ CountsBoundary (.refPulse 1000000) (timed onRef)
    ∧ CountsBoundary (.refPulse 200000) (timed { returning with boundaryPos := 8700000 })
    ∧ quiet.up = true ∧ (timed onRef).up = true ∧ (timed returning).up = true := by
  refine ⟨.inl (by decide), .inr (.inl (by decide)), .inr (.inr ⟨_, 0, rfl, by decide, ⟨by decide, 1, by decide +kernel⟩, .inl (by decide)⟩),
    .inr (.inr ⟨_, 8200000, rfl, by decide, ⟨by decide, 1, by decide +kernel⟩, .inr ⟨?_, by decide +kernel⟩⟩), by decide, by decide, by decide⟩
  unfold CompletingPulse QualifiedPulse; decide +kernel

theorem test_meets_RefFailure :
    let bad := timed { onRef with badRun := 2 }
    ((timed onRef).timeUp = true ∧ (timed onRef).up = true ∧ onRef.anchor.isSome = true ∧ onRef.source = .ref)
    ∧ (returning.anchor.isSome = true ∧ returning.source ≠ .ref) ∧ quiet.time.anchor = none
    ∧ (bad.up = true ∧ bad.time.anchor = some 0 ∧ inWindow (100 * bad.config.refTolerance) 0 (bad.time.clock + 1000501) = false
      ∧ bad.config.refBadLimit ≤ upTo 255 bad.time.badRun ∧ bad.time.source = .ref) := by decide +kernel

theorem test_meets_CrystalEvents :
    let rc := fun (target : Option Target) (held : Bool) =>
      timed { quiet.time with source := .rc, target := target, rcHeld := held, crystalRunning := false }
    ((rc (some .xtal) false).up = true ∧ (rc (some .xtal) false).time.crystalRunning = false ∧ (rc (some .xtal) false).time.target = some .xtal)
    ∧ ((rc none false).time.target ≠ some .xtal ∧ (rc none false).time.rcHeld = false)
    ∧ ((rc none true).time.target ≠ some .xtal ∧ (rc none true).time.rcHeld = true)
    ∧ quiet.time.source = .xtal ∧ onRef.source ≠ .xtal
    ∧ (onBackup.timeUp = false ∧ onBackup.time.crystalRunning = true ∧ onBackup.time.backupLost = false)
    ∧ (after (.crystalStop 0) onBackup).time.backupLost = true ∧ (after (.crystalStop 0) onBackup).time.crystalRunning = false
    ∧ inReset.timeUp = true ∧ inReset.up = false := by decide +kernel

theorem test_meets_ElapsedCounterLaw : exec .secondBoundary quiet = .next (after .secondBoundary quiet)
    ∧ exec (.coldStart 0) delivered = .next (after (.coldStart 0) delivered)
    ∧ exec (.resetLineReleased 0) inReset = .next (after (.resetLineReleased 0) inReset) := ⟨rfl, rfl, rfl⟩

theorem test_meets_StampAndLocalTime : State.reset.time.timeSet = false ∧ (onRef.timeSet = true ∧ onRef.source = .ref)
    ∧ (quiet.time.timeSet = true ∧ quiet.time.source = .xtal ∧ quiet.time.holdover ≤ quiet.config.holdoverLimit)
    ∧ quiet.config.holdoverLimit < 3601 ∧ (toXtal.time.timeSet = true ∧ toXtal.time.source = .rc) := by decide +kernel

set_option maxRecDepth 100000 in
theorem test_meets_StationTimeNeverRunsBack : quiet.config.slewStep ≤ 10
    ∧ exec .secondBoundary quiet = .next (after .secondBoundary quiet)
    ∧ (after .secondBoundary quiet).time.generation = quiet.time.generation ∧ inReset.pins.startWaiting = none
    ∧ (after (.resetLineReleased 0) inReset).time.generation = inReset.time.generation := by
  refine ⟨by decide, rfl, ?_⟩; decide +kernel

theorem test_meets_HandoverHoldsSteps : exec (.setTime (hd 4) 5 0) (watched .opened 4 7) = .next (after (.setTime (hd 4) 5 0) (watched .opened 4 7))
    ∧ (watched .opened 4 7).watch.state = .opened ∧ (watched .signed 4 7).watch.state = .signed := ⟨rfl, rfl, rfl⟩

/-- Every line state with each level, at the counts where a run qualifies and one before. -/
theorem test_meets_TripLineSample :
    let one := { quiet.config.lines[7] with enabled := true, assertCount := 1, releaseCount := 1 }
    (scanned restLine).up = true ∧ (scanned restLine).config.lines[7].enabled = true ∧ (scanned restLine).config.lines[0].enabled = false
    ∧ only7[7] = true ∧ noLine[7] = false ∧ one.assertCount ≤ 1 ∧ one.releaseCount ≤ 1 ∧ 1 < line7.assertCount ∧ 1 < line7.releaseCount
    ∧ ((asserting7 1).phase = .asserting ∧ (asserting7 1).run + 1 < line7.assertCount ∧ line7.assertCount ≤ (asserting7 2).run + 1)
    ∧ (3 : Nat) + 1 < line7.releaseCount ∧ line7.releaseCount ≤ 4 + 1
    ∧ (carriedMode (qualified ((scanned (asserting7 2)).pass 1000) only7 7)).isSome = true
    ∧ (∀ i : Fin 32, carriedMode (qualified ((scanned restLine).pass 1000) only7 i) = none) := by decide +kernel

theorem test_meets_RealTripsAreCounted : (scanned (asserting7 2)).up = true
    ∧ (∀ i : Fin 32, LineLaw (scanned (asserting7 2)).config.lines[i] (scanned (asserting7 2)).lines[i])
    ∧ exec (.tripLineSample 1000 only7 []) (scanned (asserting7 2)) = .next (after (.tripLineSample 1000 only7 []) (scanned (asserting7 2)))
    ∧ (scanned (asserting7 2)).tally.units[2].trips ≤ Config.countTop := by
  refine ⟨by decide, fun i => ?_, rfl, by decide⟩
  by_cases h : i = 7
  · subst h
    refine ⟨fun h => ?_, fun _ => ⟨by decide, by decide, .unit .pump, by decide, by decide⟩, fun h => ?_⟩
    · revert h; decide
    · revert h; decide
  · have hl : (scanned (asserting7 2)).lines[i] = restLine := by revert i; decide +kernel
    rw [hl]
    exact ⟨fun _ => ⟨rfl, rfl, rfl⟩, fun h => absurd h (by decide), fun h => absurd h (by decide)⟩

/-- An account bound to the unit of a line that qualifies, with the mode PUMP carried, and one bound to another unit. -/
theorem test_meets_RealTrips_accounts :
    let s := { scanned (asserting7 2) with tally := (withUnit4 (accountA (some 2)) .stopped).tally }
    s.up = true ∧ accountAt s 6 = some (accountA (some 2)) ∧ accountAt s 7 = none ∧ (accountA (some 2)).figures.trips ≤ Config.countTop
    ∧ (accountA (some 2)).figures.equivalent ≤ Config.elapsedTop ∧ (accountA none).live.bind (·.bound) = none
    ∧ s.config.lines[7].unit.val = (2 : Fin 8).val + 1
    ∧ (carriedMode (qualified (s.pass 1000) only7 7)).any CarriesRunning = true := by decide +kernel

theorem test_meets_TestTrip : Taken (hd 4) 1 0 (scanned restLine) ∧ 31 < 32 ∧ 600 < 601
    ∧ (scanned restLine).config.lines[0].enabled = false ∧ tested.lines[7].test.isSome = true
    ∧ (scanned (asserting7 1)).lines[7].phase ≠ .released
    ∧ (oneTrip (trip 4 7 .real none none)).trips.liveKind 7 = some .real
    ∧ (scanned restLine).config.lines[7].enabled = true ∧ (scanned restLine).lines[7].test = none
    ∧ (scanned restLine).lines[7].phase = .released ∧ (scanned restLine).trips.liveKind 7 = none := by unfold Taken; decide +kernel

theorem test_meets_TestInjectionEnds : Taken (hd 4) 1 0 tested ∧ tested.lines[7].test = some ⟨at7 73410 250, 30⟩
    ∧ (scanned restLine).lines[7].test = none ∧ tested.up = true
    ∧ (30 : Nat) ≤ ({ tested with time := { tested.time with elapsed := 30 } } : State).time.elapsed
    ∧ (∀ k : Fin 32, k ≠ 7 → tested.lines[k].test = none)
    ∧ ((after .secondBoundary tested).time.source = tested.time.source ∧ (after .secondBoundary tested).time.generation = tested.time.generation)
    := by unfold Taken; decide +kernel

/-- A live record, a live entry, a free slot, and a full table. -/
theorem test_meets_AssertionIsTaken :
    let full := fullTable (trip 9 2 .real (some (at7 101 0)) (some ⟨4, at7 102 0⟩))
    let live := (oneTrip (trip 1204 4 .real none none)).trips
    let listed := (withTrips full [entry 4 (at7 1 0)]).trips
    let bare := (withTrips full []).trips
    (live.liveSlot 4 = some 12 ∧ live.slots[12] = some (trip 1204 4 .real none none))
    ∧ (listed.liveSlot 4 = none ∧ ∃ e ∈ listed.pendingList, e.line = 4)
    ∧ (live.liveSlot 5 = none ∧ (∀ e ∈ live.pendingList, e.line ≠ 5) ∧ live.slots[0] = none)
    ∧ (bare.liveSlot 4 = none ∧ (∀ e ∈ bare.pendingList, e.line ≠ 4) ∧ ∀ j : Fin 48, bare.slots[j].isSome = true) := by decide +kernel

theorem test_meets_ReleaseIsTaken :
    let live := fun r : TripRecord => (oneTrip r).trips
    ((live (trip 8 4 .real none none)).liveSlot 4 = some 12 ∧ (trip 8 4 .real none none).state = .active)
    ∧ (trip 8 4 .real none (some ⟨4, at7 1 0⟩)).state = .acked ∧ (trip 8 4 .real (some (at7 1 0)) none).state = .cleared
    ∧ ((live (trip 8 4 .real none none)).liveSlot 5 = none ∧ ∀ e ∈ (live (trip 8 4 .real none none)).pendingList, e.line ≠ 5) := by decide +kernel

theorem test_meets_Acknowledge_AssignCause_RetireTrip :
    let active := trip 1204 4 .real none none
    let s := oneTrip active
    Taken (hd 4) 2 0 s ∧ 47 < 48 ∧ s.trips.slots[47] = none ∧ s.trips.slots[12] = some active ∧ active.serial.toNat ≠ 1205
    ∧ NamesTrip 12 1204 12 active s ∧ s.watch.authority 5 = false ∧ s.watch.authority 4 = true
    ∧ (trip 8 4 .real (some (at7 1 0)) (some ⟨4, at7 1 0⟩)).state = .resolved
    ∧ ((trip 8 4 .test (some (at7 1 0)) none).state = .cleared ∧ (trip 8 4 .test (some (at7 1 0)) none).kind = .test)
    ∧ 999 < 1000 ∧ s.trips.pendingList = []
    ∧ (withTrips (fullTable active) [entry 6 (at7 1 0)]).trips.pendingList = entry 6 (at7 1 0) :: [] := by
  unfold Taken NamesTrip; decide +kernel

theorem test_meets_ModeLineSample : pumping.up = true ∧ pumping.units[1].settled = true ∧ quiet.units[1].settled = false
    ∧ pumping.tally.freeze = false ∧ (pumping.units[1].mode = .stopped ∧ UnitMode.pump.running = some .pump)
    ∧ (after (.modeLineSample 0 pump2) pumping).units[1].mode = modeOf false true false false
    ∧ (let s := withUnit4 (accountA (some 3)) .pump
       accountAt s 6 = some (accountA (some 3)) ∧ accountAt s 7 = none ∧ s.units[3].settled = true ∧ s.units[3].takeUp.settled = false
         ∧ s.tally.freeze = false ∧ (accountA (some 3)).figures.equivalent ≤ Config.elapsedTop)
    ∧ ({ pumping with tally := { pumping.tally with freeze := true } } : State).up = true := by decide +kernel

theorem test_meets_SecondTick :
    let s := withUnit4 (accountA (some 3)) .pump
    s.up = true ∧ s.time.source ≠ .ref ∧ s.units[3].settled = true ∧ s.units[3].mode.running = some .pump
    ∧ (withUnit4 (accountA none) .conflict).units[3].mode = .conflict ∧ s.units[0].mode = .stopped
    ∧ (s.units[3].takeUp.settled = false ∧ s.units[3].takeUp.mode ≠ .stopped)
    ∧ (accountAt s 6 = some (accountA (some 3)) ∧ (accountA (some 3)).live.isSome = true ∧ s.tally.freeze = false
      ∧ (accountA (some 3)).figures.equivalent ≤ Config.elapsedTop) := by decide +kernel

/-- Twenty-four accounts: the table is full. -/
def crowded : State := { quiet with tally := { quiet.tally with accounts := Vector.replicate 24 (.held lostA false) } }
theorem test_meets_OpenAccount : Taken (hd 4) 1 0 quiet
    ∧ (tagValid [83, 52] = true ∧ AccountClass.breaker.code ≤ 3 ∧ (none : Option Figures).all Figures.inRange = true)
    ∧ (Figures.inRange zeros = true ∧ Figures.inRange { zeros with changes := 4294967296 } = false)
    ∧ ((withUnit4 (accountA none) .stopped).tally.tagSlot [83, 52]).isSome = true
    ∧ (crowded.tally.tagSlot [83, 52] = none ∧ ∀ k : Fin 24, accountAt crowded k ≠ none)
    ∧ (quiet.tally.tagSlot [83, 52] = none ∧ accountAt quiet 0 = none) := by unfold Taken; decide +kernel

/-- The accounts on which BIND, UNBIND and the checks of R98 take each of their cases. -/
theorem test_meets_BindAndUnbind :
    let s := withUnit4 (accountA none) .stopped
    let both := { s with tally := { s.tally with accounts := s.tally.accounts.set 7 (.held { accountA (some 3) with serial := 301 } false) } }
    Taken (hd 4) 1 0 s ∧ Taken (hd 4) 0 0 s ∧ NamesAccount 6 300 6 (accountA none) false s ∧ (accountA none).live.isSome = true
    ∧ NamesAccount 6 300 6 lostA false (withUnit4 lostA .stopped) ∧ lostA.live = none
    ∧ NamesAccount 6 300 6 (accountA (some 3)) false (withUnit4 (accountA (some 3)) .stopped)
    ∧ (s.tally.boundSlot 3 .generator = none ∧ (both.tally.boundSlot 3 .generator).isSome = true)
    ∧ (s.units[3].passes .generator = true ∧ (withUnit4 (accountA none) .pump).units[3].passes .generator = false)
    ∧ (s.units[3].passes .breaker = true ∧ (unitIn .stopped true).passes .breaker = false)
    ∧ 23 < 24 ∧ s.tally.accounts[0] = .free false ∧ (accountA none).serial.toNat ≠ 301 := by
  unfold Taken NamesAccount; decide +kernel

theorem test_meets_Preset :
    let s := withUnit4 (accountA none) .stopped
    let o : PresetOptions := ⟨some [65], some 3, some 65535, some 0, some Config.elapsedTop⟩
    Taken (hd 4) 0 0 s ∧ NamesAccount 6 300 6 (accountA none) false s ∧ Figures.inRange zeros = true ∧ o.tag.all tagValid = true
    ∧ (accountA none).live.isSome = true ∧ (o.tag.isSome = true ∧ o.cls.isSome = true ∧ o.interval.isSome = true ∧ o.margin.isSome = true)
    ∧ (some [83, 52]).any (s.tally.tagElsewhere 7) = true ∧ o.tag.any (s.tally.tagElsewhere 6) = false := by
  unfold Taken NamesAccount; decide +kernel

theorem test_meets_RetireAccount_ServiceDone :
    let s := withUnit4 (accountA (some 3)) .pump
    NamesAccount 6 300 6 (accountA (some 3)) false s ∧ Taken (hd 4) 0 0 s ∧ Taken (hd 4) 1 0 s
    ∧ ((accountA (some 3)).live.bind (·.bound)).isSome = true ∧ (accountA none).live.bind (·.bound) = none ∧ lostA.live = none := by
  unfold Taken NamesAccount; decide +kernel

/-- One equivalent second about due and about the warning threshold of account A. -/
theorem test_meets_ServiceStates : ((accountA none).live.map fun l => [serviceOf 7200000 l, serviceOf 7199999 l, serviceOf 7164000 l, serviceOf 7163999 l])
    = some [.due, .warn, .warn, .normal] := by decide +kernel

theorem test_meets_PowerFailFreeze :
    (quiet.up = true ∧ quiet.tally.freeze = false ∧ quiet.store.holder = .none ∧ ∀ i : Fin 32, quiet.tally.marked i = false)
    ∧ (walking.store.holder ≠ .none ∧ walking.store.walk ≠ .final ∧ walking.store.walk ≠ .held)
    ∧ (marked.store.holder = .none ∧ marked.tally.marked 1 = true ∧ ∀ j : Fin 32, j < 1 → marked.tally.marked j = false)
    ∧ ({ quiet with tally := { quiet.tally with freeze := true } } : State).up = true ∧ (accountA none).fraction < 256
    ∧ (let s := withUnit4 (accountA (some 3)) .pump
       let frozen := { s with tally := { s.tally with freeze := true } }
       frozen.up = true ∧ accountAt frozen 6 = some (accountA (some 3)) ∧ ((accountAt frozen 7).bind (·.live)).bind (·.bound) = none
         ∧ (accountA (some 3)).figures.equivalent ≤ Config.elapsedTop) := by decide +kernel

theorem test_meets_CheckpointTriggers : Taken (hd 4) 2 0 marked ∧ Taken (hd 4) 2 0 walking
    ∧ walking.store.walk = .walking ∧ (quiet.store.walk = .idle ∧ ∀ j : Fin 32, quiet.tally.marked j = false)
    ∧ (marked.store.walk = .idle ∧ marked.tally.marked 1 = true ∧ ∀ k : Fin 32, k < 1 → marked.tally.marked k = false)
    ∧ 3600 ≤ ({ marked with store := { marked.store with periodic := 3599 } } : State).store.periodic + 1
    ∧ marked.tally.accounts[6] = .held (accountA none) true ∧ marked.tally.accounts[7] = .free false
    ∧ ({ marked.store with periodic := 3598 } : Store).periodic + 1 < 3600
    ∧ marked.store.write = none ∧ marked.store.holder = .none ∧ NoneMarked quiet.tally 0 := by unfold Taken NoneMarked; decide +kernel

theorem test_meets_ImageWriteEnds : walking.up = true ∧ walking.store.write = some ⟨1, false, 5121, .unit .zero⟩
    ∧ walking.store.configWrite = none ∧ walking.store.finalDue = false ∧ walking.store.again = false ∧ walking.store.walk = .walking
    ∧ (walking.tally.marked 14 = true ∧ ∀ k : Fin 32, 1 < k → k < 14 → walking.tally.marked k = false)
    ∧ (∀ j : Fin 32, 14 < j → walking.tally.marked j = false) := by decide +kernel

/-- A write of the walk, and of the final walk, beside a configuration write that waits, the walk-again mark and a final walk that is due, with the warning held and withdrawn. -/
theorem test_meets_PortReturned :
    let frozen := { walking with tally := { walking.tally with freeze := true } }
    StoreLaw walking.store ∧ StoreLaw { walking.store with configWrite := some .waiting, again := true }
    ∧ StoreLaw { walking.store with walk := .final } ∧ StoreLaw (after (.powerFailWarning 0) walking).store
    ∧ (after (.powerFailWarning 0) walking).store.finalDue = true ∧ (after (.powerFailWarning 0) walking).tally.freeze = true
    ∧ (after (.warningReleased 0) (after (.powerFailWarning 0) walking)).tally.freeze = false ∧ frozen.up = true
    ∧ FirstMarked walking.tally 2 14 ∧ NoneMarked walking.tally 15 ∧ NoneMarked quiet.tally 0
    ∧ StoreLaw configuring.store ∧ configuring.store.finalDue = false ∧ configuring.store.walk = .idle := by
  have hs : ∀ t : Store, t.write = none → StoreLaw t := fun t h =>
    ⟨fun hw => by simp [h] at hw, fun hw => by simp [h] at hw⟩
  have hw : ∀ t : Store, (t.walk = .walking ∨ t.walk = .final) → (∀ b c, t.configWrite ≠ some (.writing b c)) → StoreLaw t :=
    fun t h k => ⟨fun _ => h, fun _ => k⟩
  refine ⟨hw _ (by decide) (fun _ _ h => by cases h), hw _ (by decide) (fun _ _ h => by cases h), hw _ (by decide) (fun _ _ h => by cases h),
    hw _ (by decide +kernel) (fun b c h => ?_), by decide +kernel, by decide +kernel, by decide +kernel, by decide, ?_, ?_, ?_,
    hs _ rfl, rfl, rfl⟩
  · rw [show (after (.powerFailWarning 0) walking).store.configWrite = none from by decide +kernel] at h; cases h
  · unfold FirstMarked; decide +kernel
  · unfold NoneMarked; decide +kernel
  · unfold NoneMarked; decide +kernel

theorem test_meets_ConfigurationIsTaken : Taken (hd 4) 0 0 quiet ∧ Taken (hd 4) 1 0 quiet
    ∧ (4 ≥ itemIndices 1 ∧ itemInRange 5 9 = false ∧ itemInRange 5 8 = true ∧ ∀ q : Fin 4, (itemSet quiet.config 1 0 1).levels[q] ≠ 0)
    ∧ ((scanned (asserting7 1)).scannerRefuses 2 7 0 = true ∧ configuring.store.configWrite.isSome = true)
    ∧ (¬ 7 ≥ itemIndices 5 ∧ quiet.scannerRefuses 5 7 8 = false ∧ quiet.store.configWrite = none)
    ∧ (5 ≤ 5 ∧ 1439 ≤ 1439 ∧ 15 ≤ 15 ∧ 5 ≤ 5 ∧ 240 ≤ 240) := by unfold Taken; decide +kernel

theorem test_meets_ConfigurationWriteEnds : configuring.up = true ∧ Taken (hd 4) 0 1 configuring
    ∧ configuring.store.configWrite = some (.writing false (.write .factory)) ∧ configuring.port.slots[0] = .reserved ⟨0, 41, 32⟩
    ∧ Taken (hd 4) 0 0 quiet ∧ quiet.store.configWrite = none := by
  refine ⟨by decide, ?_, rfl, by decide, ?_, rfl⟩ <;> unfold Taken <;> decide +kernel

theorem test_meets_StartHandover_SignOn : Taken (hd 7) 1 0 (watched .onWatch 4 0) ∧ Taken (hd 0) 1 0 (watched .onWatch 4 0)
    ∧ Taken (hd 7) 2 0 (watched .noWatch 0 0) ∧ Taken (hd 7) 1 0 (watched .opened 4 7) ∧ Taken (hd 7) 2 0 (watched .signed 4 7)
    ∧ (hd 7).crew ≠ (watched .onWatch 4 0).watch.crew ∧ (hd 7).crew = (watched .opened 4 7).watch.incoming
    ∧ (watched .opened 4 7).port.levels[(hd 5).requester].val ≤ 1 ∧ 1 < (watched .opened 4 7).port.levels[(2 : Fin 4)].val := by
  unfold Taken; decide +kernel

theorem test_meets_SlotStarts :
    let s := { watched .onWatch 3 0 with config := { quiet.config with roster := quiet.config.roster.set 0 ⟨360, 2, 30, 15⟩ } }
    let busy := { watched .opened 3 2 with config := s.config }
    s.up = true ∧ (s.config.roster[0].crew ≠ 0 ∧ s.config.roster[0].start ≤ 360 ∧ s.watch.lastOpened[0] = none)
    ∧ ¬ s.config.roster[0].start ≤ 359 ∧ s.config.roster[1].crew = 0 ∧ s.config.roster[0].crew ≠ s.watch.crew
    ∧ (watched .onWatch 2 0).watch.crew = s.config.roster[0].crew ∧ busy.watch.pendingSlot = none
    ∧ ({ busy.watch with pendingSlot := some 1 } : Watch).pendingSlot.isSome = true ∧ s.time.timeSet = true
    ∧ State.reset.time.timeSet = false := by decide +kernel

theorem test_meets_Release_Abort : Taken (hd 3) 2 0 (watched .signed 3 2) ∧ Taken (hd 3) 1 0 (watched .opened 3 2)
    ∧ (watched .onWatch 3 0).watch.state = .onWatch ∧ (hd 2).crew ≠ (watched .signed 3 2).watch.crew
    ∧ (watched .signed 3 2).trips.unresolved = 0 ∧ (oneTrip (trip 8 3 .real none none)).trips.unresolved = 1
    ∧ (watched .signed 3 2).time.pendingStep = none ∧ (watched .signed 3 2).watch.pendingSlot = none := by unfold Taken; decide +kernel

theorem test_meets_HandoverDeadlines :
    let s := fun elapsed => { watched .opened 3 2 with time := { quiet.time with elapsed := elapsed } }
    (s 1800).up = true ∧ (s 1800).watch.windowDeadline = some 1800 ∧ 1800 ≤ (s 1800).time.elapsed ∧ (s 1799).time.elapsed < 1800
    ∧ (s 1800).watch.warningDeadline = none
    ∧ (let t := after .secondBoundary (s 1799)
       t.watch.overdue = true ∧ (s 1799).time.lastPresented ≠ some t.localTime
         ∧ ({ (s 1799).time with lastPresented := some t.localTime } : TimeBase).lastPresented = some t.localTime) := by decide +kernel

theorem test_meets_SuppliesAndReset : walking.timeUp = true ∧ walking.time.crystalRunning = true ∧ State.reset.timeUp = true
    ∧ State.reset.time.crystalRunning = false ∧ onBackup.pins.mainPower = false ∧ quiet.pins.mainPower = true ∧ walking.up = true
    ∧ inReset.up = false
    ∧ (let waits := { onBackup with pins := { onBackup.pins with mainPower := true, resetLine := true, startWaiting := some .warm } }
       waits.pins.mainPower = true ∧ waits.pins.startWaiting.isSome = true ∧ waits.timeUp = false) := by decide +kernel

set_option maxRecDepth 100000 in
theorem test_meets_ColdStart : delivered.pins.mainPower = false ∧ delivered.pins.retainedValid = false ∧ delivered.pins.resetLine = false
    ∧ delivered.store.configImage.good = true ∧ (⟨.factory, 0⟩ : ConfigImage).good = false
    ∧ (delivered.store.foundGood (unitImage 0) = true ∧ delivered.store.images[unitImage 0].content = .empty)
    ∧ (delivered.store.foundGood (accountImage 23) = true ∧ delivered.store.images[accountImage 23].content = .empty)
    ∧ (Image.write 5 (.unit .zero)).good = true ∧ (⟨3, .empty, 0⟩ : Image).good = false := by decide +kernel

/-- The array as delivered with three accounts of one tag or one binding, walks 5, 5 and 6, and a bad image. -/
def mixed : Store :=
  let account := fun (serial : Word16) (tag : List Byte) =>
    ImageContent.account { accountA (some 3) with
      serial := serial, live := (accountA (some 3)).live.map fun l => { l with tag := tag } }
  let good := ((delivered.store.images.set 8 (.write 5 (account 10 [65]))).set 9 (.write 5 (account 11 [65]))).set 10 (.write 6 (account 12 [66]))
  { delivered.store with images := good.set 11 ⟨3, .empty, 0⟩ }
set_option maxRecDepth 100000 in
/-- Slot 1 is a twin of slot 0, slot 0 is bound where slot 2 of a later walk is, and slot 3 is bad. -/
theorem test_meets_ColdStart_restore : twinSlot mixed 0 = false ∧ twinSlot mixed 1 = true ∧ badSlot mixed 3 = true
    ∧ doublyBound mixed 0 = true ∧ doublyBound mixed 2 = false ∧ firstSerial mixed = 13 ∧ restoredSequence mixed = 7
    ∧ settledSlot mixed 3 = .held { lostA with serial := 13 } true ∧ settledSlot mixed 1 = .held { lostA with serial := 14 } true
    ∧ settledSlot mixed 4 = .free false := by decide +kernel

theorem test_meets_WarmAndResetStart :
    let waits := { onBackup with pins := { onBackup.pins with resetLine := true } }
    (onBackup.pins.mainPower = false ∧ onBackup.pins.retainedValid = true ∧ onBackup.pins.resetLine = false)
    ∧ (onBackup.time.backupLost = false ∧ ({ onBackup.time with backupLost := true } : TimeBase).backupLost = true)
    ∧ (inReset.pins.mainPower = true ∧ inReset.pins.resetLine = true ∧ inReset.pins.startWaiting = none ∧ inReset.pins.warningLine = false)
    ∧ (waits.pins.mainPower = false ∧ waits.pins.resetLine = true ∧ waits.pins.retainedValid = true)
    ∧ (let held := fun k : StartKind => { waits.pins with mainPower := true, startWaiting := some k }
       (held .cold).mainPower = true ∧ (held .cold).startWaiting = some .cold ∧ (held .warm).resetLine = true)
    ∧ waits.pins.startWaiting = none := by decide +kernel

/-- A FIND that reaches its maximum UP and DOWN names the index one beyond its last result, and one that ends at the far bound names none (R169). -/
theorem test_meets_Find_next :
    (walkFind (fun i => three.matchAt .trips [] i) 2 (findIndices 0 47 0)).2 = some 9
    ∧ (walkFind (fun i => three.matchAt .trips [] i) 2 (findIndices 0 47 1)).2 = some 7
    ∧ (walkFind (fun i => three.matchAt .trips [] i) 3 (findIndices 0 12 0)).2 = none
    ∧ (walkFind (fun i => three.matchAt .trips [] i) 3 (findIndices 0 47 0)).2 = some 13 := by decide +kernel

/-- A change marks its unit tally and account, and a count held at its top marks none (R87, R111). -/
theorem test_marks_follow_changes :
    let s := withUnit4 (accountA (some 3)) .pump
    let top := { s with tally := { s.tally with units := s.tally.units.set 3 { UnitCounts.zero with run := ⟨0, Config.countTop, 0, 0⟩ } } }
    let t := after .secondBoundary s
    t.tally.dirty[3] = true ∧ t.tally.dirty[2] = false ∧ t.tally.accounts[6] = .held (((accountAt t 6).getD lostA)) true
      ∧ (after .secondBoundary top).tally.dirty[3] = false := by decide +kernel

/-- A tick that begins the periodic walk, on a store that keeps its law. -/
theorem test_meets_SecondTick_walk :
    let s := { marked with store := { marked.store with periodic := 3599 } }
    3600 ≤ s.store.periodic + 1 ∧ s.store.walk = .idle ∧ s.store.write = none ∧ s.up = true ∧ s.time.source ≠ .ref := by decide +kernel

/-- The part in reset with each source, and off: what the blocks other than the Time Base do not take. -/
theorem test_meets_down :
    let held := fun t : TimeBase => { inReset with time := t }
    inReset.up = false ∧ inReset.timeUp = true ∧ inReset.pins.mainPower = true ∧ inReset.time.source ≠ .ref
    ∧ (onBackup.up = false ∧ onBackup.pins.mainPower = false)
    ∧ ((held onRef).timeUp = true ∧ (held onRef).up = false ∧ onRef.source = .ref ∧ onRef.anchor = some 0)
    ∧ ((held returning).timeUp = true ∧ returning.source ≠ .ref ∧ returning.anchor = some 8200000 ∧ CompletingPulse (held returning))
    ∧ (after .secondBoundary inReset).time.elapsed = 1 ∧ (after .secondBoundary inReset).store.periodic = 0 := by
  unfold CompletingPulse QualifiedPulse; decide +kernel

set_option maxRecDepth 100000 in
/-- Changes of a line's enabled item, of the slew step and of the local offset that are taken. -/
theorem test_meets_Configuration_items :
    let s := scanned restLine
    Taken (hd 4) 0 0 s ∧ s.store.configWrite = none ∧ s.scannerRefuses 2 7 0 = false ∧ s.config.lines[7].enabled = true
    ∧ s.scannerRefuses 2 0 1 = false ∧ s.config.lines[0].enabled = false ∧ itemInRange 20 10 = true ∧ itemInRange 21 (-720) = true
    ∧ (itemTable.length = 22 ∧ itemTable[19]? = some (1, 10, [2]) ∧ itemInRange 20 3 = false ∧ itemInRange 20 1 = true)
    ∧ ¬ 31 ≥ itemIndices 2 ∧ ¬ 0 ≥ itemIndices 20 ∧ ¬ 0 ≥ itemIndices 21
    ∧ (after (.configure (hd 4) 21 0 60) s).time.lastPresented = some ⟨60, 0⟩ := by unfold Taken; decide +kernel

/-- Ends of a handover with a step held and with a slot pending, and a boundary's trigger in each walk state (R152, R154). -/
theorem test_meets_HandoverEnds :
    let pend := fun w : Watch => { w with pendingSlot := some 0 }
    let s := { watched .signed 3 2 with
      config := { quiet.config with roster := quiet.config.roster.set 0 ⟨360, 3, 30, 15⟩ }, watch := pend (watched .signed 3 2).watch }
    let stepped := { s with time := { s.time with pendingStep := some 60000 } }
    let t := after (.release (hd 3) false) s
    Taken (hd 3) 2 0 s ∧ s.watch.pendingSlot = some 0 ∧ stepped.time.pendingStep = some 60000
    ∧ (t.watch.state = .opened ∧ t.watch.incoming = 3 ∧ t.port.latched = 0x810#32 ∧ t.store.number = 2 ∧ t.store.walk = .idle)
    ∧ (after (.release (hd 3) false) stepped).port.latched = 0x818#32
    ∧ (pendingHandled s.config 9 (pend (watched .noWatch 0 0).watch)).lastOutcome = some ⟨0, 0, .consumed⟩
    ∧ (pendingHandled s.config 9 (pend (watched .opened 4 7).watch)).pendingSlot = some 0
    ∧ (pendingHandled quiet.config 9 (pend (watched .onWatch 3 0).watch)).lastOutcome = some ⟨0, 0, .dropped⟩
    ∧ (pendingHandled s.config 9 (pend (watched .onWatch 3 0).watch)).lastOutcome = some ⟨0, 0, .continued⟩
    ∧ marked.store.walk = .idle ∧ walking.store.walk = .walking
    ∧ (after (.release (hd 3) false) { s with store := { s.store with walk := .held } }).store.walk = .held := by
  unfold Taken; decide +kernel

set_option maxRecDepth 100000 in
/-- A part kept through an outage with a test injection, a frozen second of a bound account, a reached deadline, a bad image and the warning asserted. -/
theorem test_meets_TakenUp :
    let u := withUnit4 { accountA (some 3) with fraction := 40 } .pump
    let s := { onBackup with
      lines := tested.lines, trips := tested.trips, config := u.config, units := u.units
      tally := { u.tally with freeze := true, side := u.tally.side.set 3 ⟨⟨0, 1, 0, 0⟩, 0, .zero, 0, 0⟩ }
      store := { onBackup.store with images := onBackup.store.images.set 9 ⟨3, .empty, 0⟩ }
      watch := { (watched .opened 4 7).watch with warningDeadline := some 0 }, pins := { onBackup.pins with warningLine := true } }
    let t := after (.warmStart 0) s
    s.pins.mainPower = false ∧ s.pins.retainedValid = true ∧ s.pins.resetLine = false ∧ s.store.foundGood 9 = false
    ∧ t.trips.slots[0].map (·.state) = some .cleared ∧ t.tally.units[3].run = ⟨0, 1, 0, 0⟩
    ∧ (accountAt t 6).map (fun a => (a.figures.run, a.fraction)) = some (⟨0, 1, 0, 0⟩, 64)
    ∧ t.tally.accounts[1] = .free true ∧ t.store.failed[9] = true ∧ t.port.latched = 0x820#32
    ∧ t.store.walk = .final ∧ t.store.write.map (·.image) = some 3 ∧ t.tally.freeze = true := by decide +kernel

/-- A step from a state in which every law holds. -/
theorem test_meets_the_laws : step quiet = .next quiet ∧ TimeLaw quiet ∧ StoreLaw quiet.store ∧ WatchLaw quiet.watch
    ∧ WalkLaw quiet ∧ WalkLaw (after (.powerFailWarning 0) quiet) ∧ WalkLaw (after (.powerFailWarning 0) walking)
    ∧ (after (.powerFailWarning 0) quiet).store.walk = .held := by
  refine ⟨rfl, ?_, ?_, ?_, ?_, ?_, ?_, by decide +kernel⟩
  · unfold TimeLaw; decide
  · exact ⟨fun h => absurd h (by decide), fun h => absurd h (by decide)⟩
  · exact ⟨fun _ => ⟨rfl, rfl, rfl, rfl, rfl, rfl, rfl, rfl⟩, fun h => absurd h (by decide), fun h => absurd h (by decide),
      fun h => absurd h (by decide)⟩
  · unfold WalkLaw; decide
  · unfold WalkLaw; decide +kernel
  · unfold WalkLaw; decide +kernel

end Sys2Proof.Tests
end

section
/-! The Trip Table's release and cause of a trip: what each makes of the table, case by case, and the two statements about them
(O29, O31). -/

namespace Sys2Proof.Machine

open Sys2Proof Sys2Proof.Claim

/-! ### A taken request -/

/-- A taken request completes with what its act answers on the state after the time that has passed (R164, R165). -/
theorem State.request_answered {h : Header} {kind level : Nat} {act : Act} {s u : State} {i : Fin 2} {code : ReplyCode}
    {body : List Byte} (taken : Taken h level i s)
    (acts : act ⟨h.requester, s.port.levels[h.requester], h.crew⟩ (s.pass h.dt) = answer code body u) :
    s.request h kind level act = u.place i (reply h kind code body) := by
  obtain ⟨up, free, reach⟩ := taken
  rw [State.request_taken h kind level act s i up free reach, acts]
  rfl

/-! ### Releases (R63, R64) -/

/-- The state that a release makes of a record's state: acknowledged states close, the others are cleared (R63). -/
def RecordState.released : RecordState → RecordState
  | .active | .cleared => .cleared
  | .acked | .resolved => .resolved

/-- A release stamp moves the state of a record as the table of R63 says. -/
theorem TripRecord.state_of_release (r : TripRecord) (stamp : Stamp) :
    ({ r with release := some stamp } : TripRecord).state = r.state.released := by
  unfold TripRecord.state
  cases r.release <;> cases r.ack <;> rfl

/-- A release dates the live record of its line (R63). -/
theorem TripTable.releaseLine_record {t : TripTable} {line : Fin 32} {k : Fin 48} {r : TripRecord} (stamp : Stamp)
    (live : t.liveSlot line = some k) (held : t.slots[k] = some r) :
    t.releaseLine line stamp = { t with slots := t.slots.set k (some { r with release := some stamp }) } := by
  simp only [TripTable.releaseLine, live, held, Option.map_some]

/-- Without a live record a release dates the pending entry of its line (R64). -/
theorem TripTable.releaseLine_pending {t : TripTable} {line : Fin 32} (stamp : Stamp) (live : t.liveSlot line = none) :
    t.releaseLine line stamp =
      { t with pendingList := t.pendingList.map fun e => if e.line = line then { e with release := some stamp } else e } := by
  simp only [TripTable.releaseLine, live, beq_iff_eq]

/-- A release on a line that has no live item leaves the table as it was (R64). -/
theorem TripTable.releaseLine_noItem {t : TripTable} {line : Fin 32} (stamp : Stamp) (live : t.liveSlot line = none)
    (unlisted : ∀ e ∈ t.pendingList, e.line ≠ line) : t.releaseLine line stamp = t := by
  have unmoved : (t.pendingList.map fun e => if e.line = line then { e with release := some stamp } else e) = t.pendingList :=
    (List.map_congr_left fun e he => if_neg (unlisted e he)).trans (List.map_id _)
  rw [TripTable.releaseLine_pending stamp live, unmoved]

/-! ### The cause of a trip (R69) -/

/-- ASSIGN_CAUSE with a slot outside the table or a cause code above 999. -/
theorem assignCauseAct_outside {slot cause : Nat} (serial : Nat) (c : Caller) (s : State) (outside : 47 < slot ∨ 999 < cause) :
    assignCauseAct slot serial cause c s = answer .badField [] s := by
  by_cases tooHigh : 999 < cause
  · simp only [assignCauseAct, tooHigh, if_true, refuse]
  · have slotOutside : 47 < slot := outside.resolve_right tooHigh
    simp only [assignCauseAct, tooHigh, if_false, State.namedTrip_outside s slot serial slotOutside, refuse]

/-- ASSIGN_CAUSE with a cause code in range, on a slot and serial that name no record: the refusal's code, with an empty body. -/
theorem assignCauseAct_refused {slot serial cause : Nat} {code : ReplyCode} {body : List Byte} (c : Caller) {s : State}
    (inRange : cause ≤ 999) (named : s.namedTrip slot serial = .error (code, body)) :
    assignCauseAct slot serial cause c s = answer code [] s := by
  simp only [assignCauseAct, Nat.not_lt.mpr inRange, if_false, named, refuse]

/-- ASSIGN_CAUSE with a cause code in range, on a record: the code is set, or cleared for 0, and the reply carries the record after. -/
theorem assignCauseAct_ok {slot serial cause : Nat} {k : Fin 48} {r : TripRecord} (c : Caller) {s : State}
    (inRange : cause ≤ 999) (named : s.namedTrip slot serial = .ok (k, r)) :
    assignCauseAct slot serial cause c s =
      answer .ok (({ r with cause := if cause = 0 then none else some cause } : TripRecord).bytes k.val)
        (withTrip k { r with cause := if cause = 0 then none else some cause } s) := by
  simp only [assignCauseAct, Nat.not_lt.mpr inRange, if_false, named, State.setTrip, withTrip]

/-- ASSIGN_CAUSE is the request of kind 8 and level 2. -/
theorem exec_assignCause (h : Header) (slot serial cause : Nat) (s : State) :
    exec (.assignCause h slot serial cause) s = .next (s.request h 8 2 (assignCauseAct slot serial cause)) := rfl

/-- A taken ASSIGN_CAUSE completes with what the Trip Table's act answers. -/
theorem assignCause_answers {h : Header} {slot serial cause : Nat} {s u : State} {i : Fin 2} {code : ReplyCode} {body : List Byte}
    (taken : Taken h 2 i s) (acts : ∀ c, assignCauseAct slot serial cause c (s.pass h.dt) = answer code body u) :
    Answers (.assignCause h slot serial cause) s h 8 i code body u := by
  rw [Answers, exec_assignCause, State.request_answered taken (acts _)]

end Sys2Proof.Machine

namespace Sys2Proof.Proofs

open Sys2Proof Sys2Proof.Machine Sys2Proof.Claim

/-- Settles O29, from the three cases of a release at the Trip Table and the state table of R63. -/
theorem releaseIsTaken : Obligations.ReleaseIsTaken := by
  intro line stamp s
  refine ⟨fun k r live held => ⟨?record, ?active, ?acked, ?cleared⟩, fun live => ?pending, fun live unlisted => ?noItem⟩
  case record => rw [State.takeRelease, TripTable.releaseLine_record stamp live held]
  case active | acked | cleared =>
    intro before
    rw [TripRecord.state_of_release, before]
    rfl
  case pending => rw [State.takeRelease, TripTable.releaseLine_pending stamp live]
  case noItem => rw [State.takeRelease, TripTable.releaseLine_noItem stamp live unlisted]

/-- Settles O31: each case of R69 is a case of the Trip Table's act, on the slots as they stand after the time that has passed. -/
theorem assignCause : Obligations.AssignCause := by
  intro h i s taken
  refine ⟨fun slot serial cause outside => ?badField, fun k serial cause inRange free => ?notFound,
    fun k serial cause r inRange held other => ?stale, fun slot serial cause k r inRange names => ?ok⟩
  case badField => exact ⟨[], assignCause_answers taken fun c => assignCauseAct_outside serial c _ outside⟩
  case notFound =>
    have named := State.namedTrip_free (s.pass h.dt) k serial free
    exact ⟨[], assignCause_answers taken fun c => assignCauseAct_refused c inRange named⟩
  case stale =>
    have named := State.namedTrip_stale (s.pass h.dt) k serial r held other
    exact ⟨[], assignCause_answers taken fun c => assignCauseAct_refused c inRange named⟩
  case ok =>
    obtain ⟨rfl, rfl, held⟩ := names
    have named := State.namedTrip_ok (s.pass h.dt) k r held
    exact assignCause_answers taken fun c => assignCauseAct_ok c inRange named

end Sys2Proof.Proofs
end

section
/-! The roster at a minute event: what the start of a slot does in each watch state, the order in which the slots are tried, and the
statement about both (O46). -/

namespace Sys2Proof.Machine

open Sys2Proof Sys2Proof.Claim

/-! ### The start of a slot (R145, R146) -/

/-- Raising a condition while the port is there is what the statements call an event taken (R170). -/
theorem State.raise_withEvent (e : Event) {s : State} (up : s.up = true) : s.raise e = withEvent e s :=
  State.raise_eq e s up

/-- A slot that starts in NO_WATCH is consumed. -/
theorem State.takeSlot_noWatch (i : Fin 6) (day : Int) {s : State} (state : s.watch.state = .noWatch) :
    s.takeSlot i day = s.slotOutcome i day .consumed := by
  simp only [State.takeSlot, state]

/-- A slot of the crew on watch continues it: no handover opens and no condition is raised. -/
theorem State.takeSlot_sameCrew {i : Fin 6} (day : Int) {s : State} (state : s.watch.state = .onWatch)
    (same : s.config.roster[i].crew = s.watch.crew) : s.takeSlot i day = s.slotOutcome i day .continued := by
  simp only [State.takeSlot, state, same, if_true]

/-- A slot of another crew opens a handover to it (R147), with HANDOVER_OPENED. -/
theorem State.takeSlot_otherCrew {i : Fin 6} (day : Int) {s : State} (up : s.up = true) (state : s.watch.state = .onWatch)
    (other : s.config.roster[i].crew ≠ s.watch.crew) :
    let r := s.config.roster[i]
    s.takeSlot i day =
      (withEvent .handoverOpened { s with watch := s.watch.open' (.slot i) r.crew r.window r.warning s.time.elapsed }).slotOutcome
        i day .opened := by
  have opening : ∀ w, ({ s with watch := w } : State).raise .handoverOpened = withEvent .handoverOpened { s with watch := w } :=
    fun _ => State.raise_withEvent _ up
  simp only [State.takeSlot, state, other, if_false, State.openHandover, opening]

/-- A slot that starts during a handover is made the pending slot. -/
theorem State.takeSlot_handover (i : Fin 6) (day : Int) {s : State}
    (handover : s.watch.state = .opened ∨ s.watch.state = .signed) :
    s.takeSlot i day = (s.makePending i).slotOutcome i day .pending := by
  obtain opened | signed := handover
  · simp only [State.takeSlot, opened]
  · simp only [State.takeSlot, signed]

/-- During a handover a slot becomes the pending slot; where none was held, no condition is raised. -/
theorem State.takeSlot_firstPending (i : Fin 6) (day : Int) {s : State}
    (handover : s.watch.state = .opened ∨ s.watch.state = .signed) (empty : s.watch.pendingSlot = none) :
    s.takeSlot i day =
      ({ s with watch := { s.watch with pendingSlot := some i } } : State).slotOutcome i day .pending := by
  rw [State.takeSlot_handover i day handover, State.makePending, empty]

/-- A slot that takes the place of the pending slot drops it: that one counts as missed, with SLOT_MISSED. -/
theorem State.takeSlot_nextPending (i : Fin 6) (day : Int) {s : State} (up : s.up = true)
    (handover : s.watch.state = .opened ∨ s.watch.state = .signed) (held : s.watch.pendingSlot.isSome = true) :
    s.takeSlot i day =
      (withEvent .slotMissed { s with watch := { s.watch with pendingSlot := some i, missed := upTo 255 s.watch.missed } }).slotOutcome
        i day .pending := by
  obtain ⟨_, earlier⟩ := Option.isSome_iff_exists.mp held
  rw [State.takeSlot_handover i day handover, State.makePending, earlier]
  exact congrArg (State.slotOutcome i day .pending) (State.raise_withEvent .slotMissed up)

/-! ### A slot in its turn (R144) -/

/-- A slot starts iff it is used, its minute has passed, and the day is later than the one it last opened on. -/
theorem State.slotStarts_iff (t : LocalTime) (s : State) (i : Fin 6) :
    s.slotStarts t i = true ↔ s.config.roster[i].crew ≠ 0 ∧ s.config.roster[i].start ≤ t.minute
      ∧ ∀ d, s.watch.lastOpened[i] = some d → d < t.day := by
  unfold State.slotStarts
  cases s.watch.lastOpened[i] <;> simp [and_assoc]

/-- A slot that does not start leaves everything. -/
theorem State.trySlot_of_not_starts {t : LocalTime} {i : Fin 6} {s : State} (not : ¬ s.slotStarts t i = true) : s.trySlot t i = s :=
  if_neg not

/-- A slot that starts has the day of the minute event as its last opened day, and is taken. -/
theorem State.trySlot_of_starts {t : LocalTime} {i : Fin 6} {s : State} (starts : s.slotStarts t i = true) :
    s.trySlot t i =
      ({ s with watch := { s.watch with lastOpened := s.watch.lastOpened.set i (some t.day) } } : State).takeSlot i t.day :=
  if_pos starts

/-! ### The order of the slots at a minute event (R144) -/

/-- The order of two slots: earlier start minute, or the same and lower number. -/
theorem slotBefore_iff (roster : Vector RosterSlot 6) (a b : Fin 6) :
    slotBefore roster a b = true ↔
      roster[a].start < roster[b].start ∨ (roster[a].start = roster[b].start ∧ a < b) := by
  simp [slotBefore]

theorem slotBefore_trans {roster : Vector RosterSlot 6} {a b c : Fin 6} (ab : slotBefore roster a b = true)
    (bc : slotBefore roster b c = true) : slotBefore roster a c = true := by
  rw [slotBefore_iff] at *
  omega

/-- Of two slots one comes before the other. -/
theorem slotBefore_of_not {roster : Vector RosterSlot 6} {a b : Fin 6} (ne : a ≠ b) (not : ¬ slotBefore roster a b = true) :
    slotBefore roster b a = true := by
  rw [slotBefore_iff] at *
  omega

/-- Placing a slot adds it and nothing else. -/
theorem insertSlot_perm (roster : Vector RosterSlot 6) (i : Fin 6) (l : List (Fin 6)) : (insertSlot roster i l).Perm (i :: l) := by
  induction l with
  | nil => exact .refl _
  | cons j js ih =>
    unfold insertSlot
    split
    · exact .refl _
    · exact (ih.cons j).trans (.swap i j js)

/-- Placing a slot that is not yet in a list keeps the list in start order. -/
theorem insertSlot_pairwise {roster : Vector RosterSlot 6} {i : Fin 6} {l : List (Fin 6)} (new : i ∉ l)
    (sorted : l.Pairwise fun a b => slotBefore roster a b = true) :
    (insertSlot roster i l).Pairwise fun a b => slotBefore roster a b = true := by
  induction l with
  | nil => exact List.pairwise_singleton _ i
  | cons j js ih =>
    obtain ⟨first, rest⟩ := List.pairwise_cons.mp sorted
    obtain ⟨ne, newInRest⟩ := not_or.mp (List.mem_cons.not.mp new)
    unfold insertSlot
    split
    case isTrue before =>
      refine List.pairwise_cons.mpr ⟨fun k hk => ?_, sorted⟩
      obtain rfl | later := List.mem_cons.mp hk
      · exact before
      · exact slotBefore_trans before (first k later)
    case isFalse not =>
      refine List.pairwise_cons.mpr ⟨fun k hk => ?_, ih newInRest rest⟩
      obtain rfl | later := List.mem_cons.mp ((insertSlot_perm roster i js).mem_iff.mp hk)
      · exact slotBefore_of_not ne not
      · exact first k later

/-- Placing new slots one after another adds each once and keeps the start order. -/
theorem foldl_insertSlot (roster : Vector RosterSlot 6) (new l : List (Fin 6)) (nodup : (new ++ l).Nodup)
    (sorted : l.Pairwise fun a b => slotBefore roster a b = true) :
    let placed := new.foldl (fun l i => insertSlot roster i l) l
    placed.Perm (new ++ l) ∧ placed.Pairwise fun a b => slotBefore roster a b = true := by
  induction new generalizing l with
  | nil => exact ⟨.refl _, sorted⟩
  | cons i is ih =>
    have moved : (is ++ insertSlot roster i l).Perm (i :: is ++ l) :=
      ((insertSlot_perm roster i l).append_left is).trans List.perm_middle
    have fresh : i ∉ l := fun mem => (List.nodup_cons.mp nodup).1 (List.mem_append_right is mem)
    obtain ⟨perm, ordered⟩ := ih _ (moved.nodup_iff.mpr nodup) (insertSlot_pairwise fresh sorted)
    exact ⟨perm.trans moved, ordered⟩

/-- The slots a minute event tries are the six, each once, in start order. -/
theorem slotOrder_sorts (roster : Vector RosterSlot 6) :
    (slotOrder roster).Perm (List.finRange 6) ∧ (slotOrder roster).Pairwise fun a b => slotBefore roster a b = true := by
  have nodup : (List.finRange 6 ++ []).Nodup := (List.append_nil _).symm ▸ List.nodup_finRange 6
  obtain ⟨perm, ordered⟩ := foldl_insertSlot roster (List.finRange 6) [] nodup .nil
  exact ⟨perm.trans (.of_eq (List.append_nil _)), ordered⟩

/-- With time set no, a minute event does nothing. -/
theorem State.takeMinute_unset (t : LocalTime) {s : State} (unset : s.time.timeSet = false) : s.takeMinute t = s := by
  simp [State.takeMinute, unset]

/-- With time set yes, a minute event tries the slots in start order. -/
theorem State.takeMinute_set (t : LocalTime) {s : State} (set : s.time.timeSet = true) :
    s.takeMinute t = (slotOrder s.config.roster).foldl (fun a i => a.trySlot t i) s := by
  simp only [State.takeMinute, set, if_true]

end Sys2Proof.Machine

namespace Sys2Proof.Proofs

open Sys2Proof Sys2Proof.Machine Sys2Proof.Claim

/-- Settles O46: a slot that starts is taken by the watch state on its new last opened day, and a minute event tries the slots in
the order that placing them one after another gives. -/
theorem slotStarts : Obligations.SlotStarts := by
  refine ⟨fun i t s up => ?start, fun t s => ⟨State.takeMinute_unset t, fun set => ?minute⟩⟩
  case start =>
    dsimp only
    rw [← State.slotStarts_iff]
    refine ⟨State.trySlot_of_not_starts, fun starts noWatch => ?consumed, fun starts onWatch same => ?continued,
      fun starts onWatch other => ?opened, fun starts handover empty => ?pending, fun starts handover held => ?missed⟩
    all_goals rw [State.trySlot_of_starts starts]
    case consumed => exact State.takeSlot_noWatch i t.day noWatch
    case continued => exact State.takeSlot_sameCrew t.day onWatch same
    case opened => exact State.takeSlot_otherCrew t.day up onWatch other
    case pending => exact State.takeSlot_firstPending i t.day handover empty
    case missed => exact State.takeSlot_nextPending i t.day up handover held
  case minute =>
    obtain ⟨once, ordered⟩ := slotOrder_sorts s.config.roster
    exact ⟨slotOrder s.config.roster, once.nodup_iff.mpr (List.nodup_finRange 6), once.length_eq.trans List.length_finRange,
      ordered.imp fun {a b} => (slotBefore_iff s.config.roster a b).mp, State.takeMinute_set t set⟩

end Sys2Proof.Proofs
end

section
/-! The Station Port's answers to its host: the status byte, the reply frame and its CRC-16, the shifting out of a reply, the attention
line, and the requests on the condition set, with the statements about them (O8, O9, O10). -/

namespace Sys2Proof.Machine

open Sys2Proof Sys2Proof.Claim

/-! ### The attention line (R172) -/

/-- A word is not zero exactly when one of its bits is set. -/
theorem ne_zero_iff_exists_getLsb {w : Nat} (x : BitVec w) : x ≠ 0#w ↔ ∃ k : Fin w, x.getLsb k = true := by
  rw [Ne, BitVec.eq_of_getLsbD_eq_iff, not_forall]
  simp only [BitVec.getLsbD_zero, not_forall, Bool.not_eq_false, Fin.exists_iff]
  rfl

/-- A bit is set beside a mask exactly when it is set and not masked. -/
theorem getLsb_unmasked {w : Nat} (x mask : BitVec w) (k : Fin w) :
    (x &&& ~~~mask).getLsb k = true ↔ x.getLsb k = true ∧ mask.getLsb k = false := by
  simp [BitVec.getLsb_eq_getElem]

/-- The attention line is asserted exactly while the port is there and a condition is set and not masked. -/
theorem State.attention_iff (s : State) :
    s.attention = true ↔ s.up = true ∧ ∃ k : Fin 32, s.conditions.getLsb k = true ∧ s.port.mask.getLsb k = false := by
  simp only [State.attention, Bool.and_eq_true, decide_eq_true_iff, ne_zero_iff_exists_getLsb, getLsb_unmasked]

/-- The blocks other than the Time Base are not there without main power or in reset (R179, R182). -/
theorem State.not_up_of_off_or_reset {s : State} (down : s.pins.mainPower = false ∨ s.pins.resetLine = true) : s.up = false := by
  obtain off | reset := down
  · simp [State.up, off]
  · simp [State.up, reset]

/-- The attention line is released while the port is not there. -/
theorem State.attention_of_not_up {s : State} (down : s.up = false) : s.attention = false := by
  simp [State.attention, down]

/-! ### The status byte (R161, R162) -/

/-- The fields of a byte that holds 1010, two flags and a figure of two bits. -/
theorem status_fields (a f : Bool) (w : Fin 3) :
    let b : Byte := BitVec.ofNat 8 (160 + (if a then 8 else 0) + (if f then 4 else 0) + w.val)
    b.toNat / 16 = 10 ∧ b.getLsb (3 : Fin 8) = a ∧ b.getLsb (2 : Fin 8) = f ∧ b.toNat % 4 = w.val := by
  revert a f w
  decide

/-- There are two reply slots, so no more than two replies wait. -/
theorem State.repliesWaiting_lt (s : State) : s.repliesWaiting < 3 :=
  Nat.lt_succ_of_le (List.countP_le_length.trans_eq Vector.length_toList)

/-- The fields of the status byte: 1010, the attention line, whether a slot is free, the replies waiting. -/
theorem State.statusByte_fields (s : State) :
    s.statusByte.toNat / 16 = 10 ∧ s.statusByte.getLsb (3 : Fin 8) = s.attention
      ∧ s.statusByte.getLsb (2 : Fin 8) = s.freeReply.isSome ∧ s.statusByte.toNat % 4 = s.repliesWaiting :=
  status_fields s.attention s.freeReply.isSome ⟨s.repliesWaiting, s.repliesWaiting_lt⟩

/-- The intake is ready exactly when a reply slot is free (R161, R164). -/
theorem State.freeReply_isSome_iff (s : State) : s.freeReply.isSome = true ↔ ∃ i : Fin 2, s.port.slots[i] = .free := by
  simp only [State.freeReply, List.find?_isSome, List.mem_finRange, true_and, beq_iff_eq]

/-- The entries of a vector, by their index. -/
theorem toList_eq_map_finRange {n : Nat} {α : Type} (v : Vector α n) : v.toList = (List.finRange n).map fun i => v[i] :=
  List.ext_getElem (by simp) (by simp)

/-- The replies waiting, counted slot by slot. -/
theorem State.repliesWaiting_eq (s : State) :
    s.repliesWaiting = (List.finRange 2).countP fun i => s.port.slots[i].isWaiting := by
  rw [State.repliesWaiting, toList_eq_map_finRange, List.countP_map]
  rfl

@[simp] theorem State.pass_statusByte (dt : Nat) (s : State) : (s.pass dt).statusByte = s.statusByte := rfl

/-! ### The oldest waiting reply (R166) -/

@[simp] theorem State.pass_oldestWaiting (dt : Nat) (s : State) : (s.pass dt).oldestWaiting = s.oldestWaiting := rfl

/-- A waiting reply placed no later than the reply of the other slot was placed no later than any. -/
theorem waiting_first {slots : Vector ReplySlot 2} {i : Fin 2} {n : Nat} {r : Reply} (held : slots[i] = .waiting n r)
    (other : ∀ (m : Nat) (q : Reply), slots[i.rev] = .waiting m q → n ≤ m) (j : Fin 2) (m : Nat) (q : Reply)
    (waits : slots[j] = .waiting m q) : n ≤ m := by
  obtain rfl | rfl : j = i ∨ j = i.rev := by rw [← Fin.val_inj, ← Fin.val_inj, Fin.val_rev]; omega
  · cases held.symm.trans waits
    exact le_rfl
  · exact other m q waits

/-- The oldest waiting reply is in its slot, and no waiting reply was placed before it. -/
theorem State.oldestWaiting_some {s : State} {i : Fin 2} {r : Reply} (oldest : s.oldestWaiting = some (i, r)) :
    ∃ n, s.port.slots[i] = .waiting n r ∧ ∀ (j : Fin 2) (m : Nat) (q : Reply), s.port.slots[j] = .waiting m q → n ≤ m := by
  unfold State.oldestWaiting at oldest
  split at oldest
  case h_1 a r0 b r1 first second =>
    split at oldest
    case isTrue firstOlder =>
      cases oldest
      refine ⟨a, first, waiting_first first fun m q waits => ?_⟩
      cases second.symm.trans waits
      exact firstOlder
    case isFalse secondOlder =>
      cases oldest
      refine ⟨b, second, waiting_first second fun m q waits => ?_⟩
      cases first.symm.trans waits
      exact Nat.le_of_not_le secondOlder
  case h_2 a r0 first notSecond =>
    cases oldest
    exact ⟨a, first, waiting_first first fun m q waits => (notSecond m q waits).elim⟩
  case h_3 b r1 second notFirst =>
    cases oldest
    exact ⟨b, second, waiting_first second fun m q waits => (notFirst m q waits).elim⟩
  case h_4 => cases oldest

/-- With no oldest waiting reply, none waits. -/
theorem State.oldestWaiting_none {s : State} (empty : s.oldestWaiting = none) (j : Fin 2) (m : Nat) (q : Reply) :
    s.port.slots[j] ≠ .waiting m q := by
  unfold State.oldestWaiting at empty
  split at empty
  case h_1 => split at empty <;> cases empty
  case h_2 | h_3 => cases empty
  case h_4 notFirst notSecond notBoth =>
    obtain rfl | rfl : j = 0 ∨ j = 1 := by omega
    · exact notFirst m q
    · exact notSecond m q

/-! ### COLLECT and STATUS_POLL (R161, R166) -/

/-- A run that is long enough needs no fill bytes. -/
theorem fillTo_of_le {n : Nat} {bs : List Byte} (le : n ≤ bs.length) : fillTo n bs = bs.take n :=
  List.take_append_of_le_length le

/-- A run that is too short is followed by fill bytes. -/
theorem fillTo_of_length_le {n : Nat} {bs : List Byte} (le : bs.length ≤ n) :
    fillTo n bs = bs ++ List.replicate (n - bs.length) 0#8 := by
  rw [fillTo, List.take_append, List.take_of_length_le le, List.take_replicate, Nat.min_eq_left (Nat.sub_le n bs.length)]

/-- With no reply waiting a COLLECT sends fill bytes (R166). -/
theorem State.collectReply_none (clocked : Nat) {s : State} (empty : s.oldestWaiting = none) :
    s.collectReply clocked = s.shiftOut (s.statusByte :: List.replicate clocked 0#8) := by
  simp only [State.collectReply, empty]

/-- A frame that is not clocked out whole keeps its slot (R166). -/
theorem State.collectReply_cut {clocked : Nat} {s : State} {i : Fin 2} {r : Reply} (oldest : s.oldestWaiting = some (i, r))
    (short : clocked < r.frame.length) :
    s.collectReply clocked = s.shiftOut (s.statusByte :: r.frame.take clocked) := by
  simp only [State.collectReply, oldest, Nat.not_le.mpr short, if_false, fillTo_of_le short.le]

/-- A frame that is clocked out whole frees its slot (R166). -/
theorem State.collectReply_whole {clocked : Nat} {s : State} {i : Fin 2} {r : Reply} (oldest : s.oldestWaiting = some (i, r))
    (whole : r.frame.length ≤ clocked) :
    s.collectReply clocked =
      { s with port := { s.port with
          slots := s.port.slots.set i .free
          dataOut := s.statusByte :: r.frame ++ List.replicate (clocked - r.frame.length) 0#8 } } := by
  simp only [State.collectReply, oldest, whole, if_true, fillTo_of_length_le whole, State.shiftOut, List.cons_append]

/-- COLLECT while the port is there. -/
theorem exec_collect (dt clocked : Nat) {s : State} (up : s.up = true) :
    exec (.collect dt clocked) s = .next ((s.pass dt).collectReply clocked) := by
  rw [exec, execCollect, State.pass_up, if_pos up]

/-- STATUS_POLL while the port is there. -/
theorem exec_statusPoll (dt : Nat) (code : Byte) (clocked : Nat) {s : State} (up : s.up = true) :
    exec (.statusPoll dt code clocked) s = .next ((s.pass dt).shiftOut (s.statusByte :: List.replicate clocked 0#8)) := by
  rw [exec, execStatusPoll, State.pass_up, if_pos up, State.pass_statusByte]

/-! ### The reply frame and its check code (R162) -/

/-- A one-byte figure. -/
theorem u8_eq (n : Nat) : u8 n = [BitVec.ofNat 8 n] := rfl

/-- A two-byte figure, most significant byte first. -/
theorem u16_eq (n : Nat) : u16 n = [BitVec.ofNat 8 (n / 256), BitVec.ofNat 8 n] := rfl

/-- The bytes of a reply that its check code runs over: length, requester, tag, kind, outcome and body. -/
def Reply.checked (r : Reply) : List Byte :=
  [BitVec.ofNat 8 r.body.length, BitVec.ofNat 8 (16 * r.head.requester.val), r.head.tag, BitVec.ofNat 8 r.head.kind,
    BitVec.ofNat 8 r.code.code] ++ r.body

/-- The reply frame: the start marker, the checked bytes, and their check code. -/
theorem Reply.frame_eq (r : Reply) :
    r.frame = 0x3C#8 :: r.checked ++ [BitVec.ofNat 8 ((crc16 r.checked).toNat / 256), BitVec.ofNat 8 (crc16 r.checked).toNat] := by
  simp only [Reply.frame, Reply.checked, u8_eq, u16_eq, List.cons_append, List.nil_append]

/-- One byte is divided bit by bit. -/
theorem crcByte_eq_iterate (c : Word16) (b : Byte) : crcByte c b = Nat.iterate crcBit 8 (c ^^^ (b.setWidth 16 <<< 8)) := rfl

/-- The check code of a run is the remainder carried from byte to byte, each byte taken bit by bit. -/
theorem crc16_eq_foldl (bytes : List Byte) :
    crc16 bytes = bytes.foldl (fun (c : Word16) (b : Byte) => Nat.iterate crcBit 8 (c ^^^ (BitVec.setWidth 16 b <<< 8))) 0xFFFF#16 := by
  simp only [crc16, ← crcByte_eq_iterate]

/-! ### CLEAR_CONDITIONS and SET_MASK (R171, R172) -/

/-- A taken request command completes with what the act of its owning block answers. -/
theorem answers_of_act {c : Instr} {h : Header} {kind level : Nat} {act : Act} {s u : State} {i : Fin 2} {code : ReplyCode}
    {body : List Byte} (taken : Taken h level i s) (meaning : exec c s = .next (s.request h kind level act))
    (acts : ∀ caller, act caller (s.pass h.dt) = answer code body u) : Answers c s h kind i code body u := by
  rw [Answers, meaning, State.request_answered taken (acts _)]

/-- CLEAR_CONDITIONS is the request of kind 30 and level 2. -/
theorem exec_clearConditions (h : Header) (word : Word32) (s : State) :
    exec (.clearConditions h word) s = .next (s.request h 30 2 (clearConditionsAct word)) := rfl

/-- SET_MASK is the request of kind 31 and level 2. -/
theorem exec_setMask (h : Header) (word : Word32) (s : State) :
    exec (.setMask h word) s = .next (s.request h 31 2 (setMaskAct word)) := rfl

/-- A condition word is valid exactly when its reserved bits are clear. -/
theorem wordValid_iff (word : Word32) : wordValid word = true ↔ word &&& 0xFF00F000#32 = 0#32 := beq_iff_eq

/-- CLEAR_CONDITIONS with a valid word clears the latched events it names and carries the condition word after. -/
theorem clearConditionsAct_ok {word : Word32} (c : Caller) (s : State) (valid : word &&& 0xFF00F000#32 = 0#32) :
    let u := { s with port := { s.port with latched := s.port.latched &&& ~~~word } }
    clearConditionsAct word c s = answer .ok (u32 u.conditions.toNat) u :=
  if_pos ((wordValid_iff word).mpr valid)

/-- CLEAR_CONDITIONS with a reserved bit set is refused and clears nothing. -/
theorem clearConditionsAct_refused {word : Word32} (c : Caller) (s : State) (reserved : word &&& 0xFF00F000#32 ≠ 0#32) :
    clearConditionsAct word c s = answer .badField [] s :=
  if_neg ((wordValid_iff word).not.mpr reserved)

/-- SET_MASK with a valid word sets the mask and carries it with the condition word. -/
theorem setMaskAct_ok {word : Word32} (c : Caller) (s : State) (valid : word &&& 0xFF00F000#32 = 0#32) :
    let u := { s with port := { s.port with mask := word } }
    setMaskAct word c s = answer .ok (u32 word.toNat ++ u32 u.conditions.toNat) u :=
  if_pos ((wordValid_iff word).mpr valid)

/-- SET_MASK with a reserved bit set is refused and leaves the mask. -/
theorem setMaskAct_refused {word : Word32} (c : Caller) (s : State) (reserved : word &&& 0xFF00F000#32 ≠ 0#32) :
    setMaskAct word c s = answer .badField [] s :=
  if_neg ((wordValid_iff word).not.mpr reserved)

end Sys2Proof.Machine

namespace Sys2Proof.Proofs

open Sys2Proof Sys2Proof.Machine Sys2Proof.Claim

/-- Settles O8: a COLLECT by the oldest waiting reply and the bytes clocked, a STATUS_POLL, and the layouts of the status byte, of the
reply frame and of its check code. -/
theorem collectAndStatusPoll : Obligations.CollectAndStatusPoll := by
  refine ⟨fun dt clocked code s up => ?transfers, fun s => ?status, Reply.frame_eq, crc16_eq_foldl⟩
  case transfers =>
    dsimp only
    rw [exec_collect dt clocked up]
    exact ⟨exec_statusPoll dt code clocked up, fun empty => congrArg _ (State.collectReply_none clocked empty),
      fun _ _ oldest short => congrArg _ (State.collectReply_cut oldest short),
      fun _ _ oldest whole => congrArg _ (State.collectReply_whole oldest whole),
      fun _ _ => State.oldestWaiting_some, State.oldestWaiting_none⟩
  case status =>
    obtain ⟨high, attention, ready, waiting⟩ := s.statusByte_fields
    refine ⟨high, attention, ?intake, ?replies⟩
    case intake => rw [ready, State.freeReply_isSome_iff]
    case replies =>
      rw [waiting, State.repliesWaiting_eq]
      refine congrArg (List.countP · (List.finRange 2)) (funext fun i => ?_)
      cases s.port.slots[i] <;> rfl

/-- Settles O10: SET_MASK by whether its word has reserved bits, and the attention line as the set conditions that are not masked. -/
theorem setMaskAndAttention : Obligations.SetMaskAndAttention := by
  refine ⟨fun h word i s taken => ?mask, State.attention_iff, fun s => ?status, fun s down => ?released⟩
  case mask =>
    exact ⟨fun valid => answers_of_act taken (exec_setMask h word s) fun c => setMaskAct_ok c _ valid,
      fun reserved => ⟨[], answers_of_act taken (exec_setMask h word s) fun c => setMaskAct_refused c _ reserved⟩⟩
  case status =>
    obtain ⟨_, attention, _⟩ := s.statusByte_fields
    exact attention
  case released => exact State.attention_of_not_up (State.not_up_of_off_or_reset down)

/-- Settles O9: CLEAR_CONDITIONS by whether its word has reserved bits. -/
theorem clearConditions : Obligations.ClearConditions := by
  intro h word i s taken
  exact ⟨fun valid => answers_of_act taken (exec_clearConditions h word s) fun c => clearConditionsAct_ok c _ valid,
    fun reserved => ⟨[], answers_of_act taken (exec_clearConditions h word s) fun c => clearConditionsAct_refused c _ reserved⟩⟩

end Sys2Proof.Proofs
end

section
/-! What an owner's act can do, said once: it answers and leaves the state as it was, or it leaves one of the effects that the rules name,
under the checks it has passed. Every statement about all requests goes through these cases. -/

namespace Sys2Proof.Machine

open Sys2Proof Sys2Proof.Claim

/-- The effects of the requests, each with the checks that stand before it; `ends` is said of the requests that may end a handover. -/
inductive Effect (ends : Prop) (c : Caller) (s : State) : State → Prop where
  | withdraw (q : Source) (current : q = s.time.source) : Effect ends c s { s with time := { s.time with target := none } }
  | selectRc (other : s.time.source ≠ .rc) : Effect ends c s s.selectRc
  | beginSwitch (q : Target) (other : q.source ≠ s.time.source) : Effect ends c s (s.beginSwitch q)
  | slew (offset : Int) : Effect ends c s (s.takeSlew offset)
  | hold (offset : Int) (handover : s.watch.handover = true) : Effect ends c s (s.holdStep offset)
  | stepNow (offset : Int) (free : s.watch.handover = false) : Effect ends c s (s.applyStep offset)
  | inject (line : Fin 32) (duration : Nat) : Effect ends c s (s.inject line duration)
  | endTest (line : Fin 32) : Effect ends c s (s.endTest line)
  | acknowledge (k : Fin 48) (r : TripRecord) (held : s.trips.slots[k] = some r) :
      Effect ends c s (s.setTrip k { r with ack := some ⟨c.crew, s.stamp⟩ })
  | cause (k : Fin 48) (r : TripRecord) (code : Option Nat) (held : s.trips.slots[k] = some r) :
      Effect ends c s (s.setTrip k { r with cause := code })
  | retire (k : Fin 48) : Effect ends c s { s with trips := s.trips.retire s.config.lines k }
  | openAccount (k : Fin 24) (tag : List Byte) (cls : AccountClass) (interval margin : Nat) (f : Figures)
      (new : s.tally.tagSlot tag = none) :
      Effect ends c s (s.openAccount k (openedAccount s.tally.serial tag cls interval margin f))
  | bind (k : Fin 24) (a : Account) (d : Bool) (l : LiveFields) (u : Fin 8) (held : s.tally.accounts[k] = .held a d)
      (live : a.live = some l) (free : s.tally.boundSlot u l.cls = none) :
      Effect ends c s (s.setAccount k (.held (a.bindTo (some u)) true))
  | unbind (k : Fin 24) (a : Account) (d : Bool) (held : s.tally.accounts[k] = .held a d) :
      Effect ends c s (s.setAccount k (.held (a.bindTo none) true))
  | preset (k : Fin 24) (a : Account) (d : Bool) (f : Figures) (o : PresetOptions) (l : LiveFields)
      (held : s.tally.accounts[k] = .held a d) (live : presetLive f o a.live = some l)
      (new : o.tag.any (s.tally.tagElsewhere k) = false) (kept : (a.live.any fun m => m.bound.isSome && m.cls != l.cls) = false) :
      Effect ends c s (answerEvaluated k { a with figures := f, fraction := 0, live := some l } s).1
  | retireAccount (k : Fin 24) : Effect ends c s (s.setAccount k (.free true))
  | serviceDone (k : Fin 24) (a : Account) (d : Bool) (l : LiveFields) (held : s.tally.accounts[k] = .held a d)
      (live : a.live = some l) :
      Effect ends c s
        (answerEvaluated k { a with live := some { l with nextDue := dueAfter a.figures.equivalent l.interval } } s).1
  | checkpoint : Effect ends c s s.trigger
  | roster (k : Fin 6) (fields : RosterSlot) (idle : s.store.configWrite = none) :
      Effect ends c s ({ s with config := { s.config with roster := s.config.roster.set k fields } } : State).askConfigWrite
  | openHandover (crew : c.crew ≠ 0) (watch : s.watch.state = .onWatch) (other : c.crew ≠ s.watch.crew) :
      Effect ends c s (s.openHandover .unscheduled c.crew s.config.defaultWindow 0)
  | takeWatch (crew : c.crew ≠ 0) (watch : s.watch.state = .noWatch) : Effect ends c s (s.takeWatch c.crew)
  | sign (crew : c.crew ≠ 0) (watch : s.watch.state = .opened) (incoming : c.crew = s.watch.incoming) :
      Effect ends c s { s with watch := { s.watch with state := .signed } }
  | replace (crew : c.crew ≠ 0) (watch : s.watch.state = .opened) (other : c.crew ≠ s.watch.crew) :
      Effect ends c s { s with watch := { s.watch with state := .signed, incoming := c.crew } }
  | complete (may : ends) (watch : s.watch.state = .signed) : Effect ends c s s.complete
  | carry (may : ends) (watch : s.watch.state = .signed) : Effect ends c s ({ s with trips := s.trips.markCarries } : State).complete
  | abort (may : ends) (handover : s.watch.handover = true) : Effect ends c s s.abort
  | clear (word : Word32) (valid : wordValid word = true) :
      Effect ends c s { s with port := { s.port with latched := s.port.latched &&& ~~~word } }
  | mask (word : Word32) (valid : wordValid word = true) : Effect ends c s { s with port := { s.port with mask := word } }
  | configure (code index : Nat) (value : Int) (named : itemNamed code index = true) (inRange : itemInRange code value = true)
      (engineer : leavesNoEngineer s.config code index value = false) (scanner : s.scannerRefuses code index value = false)
      (idle : s.store.configWrite = none) : Effect ends c s (s.putItem code index value).askConfigWrite
  | checkConfig : Effect ends c s s.checkConfig

/-- An outcome that says a request was carried out: OK, DEFERRED or ACCEPTED (R167). -/
def ReplyCode.carriedOut (code : ReplyCode) : Prop := code = .ok ∨ code = .deferred ∨ code = .accepted

/-- A request has asked for the configuration write whose end will bring its reply (R165, R175): none was asked for before, and the reply
slots stand. -/
def Reserves (s t : State) : Prop :=
  s.store.configWrite = none ∧ t.store.configWrite.isSome = true ∧ t.port.slots = s.port.slots

/-- The answer of a request that was carried out: such an outcome, or none until the configuration write it asked for ends. -/
def CarriedOut (s : State) (r : State × Answer) : Prop :=
  (∃ code body, r.2 = some (code, body) ∧ code.carriedOut) ∨ (r.2 = none ∧ Reserves s r.1)

/-- What an act makes of a state: nothing with an answer, or an effect of a request carried out. -/
def ActOutcome (ends : Prop) (c : Caller) (s : State) (r : State × Answer) : Prop :=
  (∃ code body, r = answer code body s) ∨ (Effect ends c s r.1 ∧ CarriedOut s r)

/-- The other outcome of SELECT_SOURCE: the source asked for is current, and a switch in flight is withdrawn (R9). -/
def Withdrawn (s : State) (r : State × Answer) : Prop :=
  ∃ q body, q = s.time.source ∧ r = answer .redundant body { s with time := { s.time with target := none } }

/-- A refusal leaves the state. -/
theorem ActOutcome.refused (ends : Prop) (c : Caller) (s : State) (code : ReplyCode) : ActOutcome ends c s (refuse code s) := .inl ⟨code, [], rfl⟩

/-- An answer leaves the state. -/
theorem ActOutcome.answered (ends : Prop) (c : Caller) (s : State) (code : ReplyCode) (body : List Byte) : ActOutcome ends c s (answer code body s) :=
  .inl ⟨code, body, rfl⟩

/-- An effect answered with a code of a request carried out. -/
theorem ActOutcome.effect {ends : Prop} {c : Caller} {s t : State} (code : ReplyCode) (body : List Byte) (e : Effect ends c s t) (out : code.carriedOut) :
    ActOutcome ends c s (answer code body t) :=
  .inr ⟨e, .inl ⟨code, body, rfl, out⟩⟩

/-- An effect whose reply waits for a store write. -/
theorem ActOutcome.waits {ends : Prop} {c : Caller} {s t : State} (e : Effect ends c s t) (reserves : Reserves s t) : ActOutcome ends c s (t, none) :=
  .inr ⟨e, .inr ⟨rfl, reserves⟩⟩

theorem ReplyCode.ok_carriedOut : ReplyCode.carriedOut .ok := .inl rfl
theorem ReplyCode.deferred_carriedOut : ReplyCode.carriedOut .deferred := .inr (.inl rfl)
theorem ReplyCode.accepted_carriedOut : ReplyCode.carriedOut .accepted := .inr (.inr rfl)

/-! ### The acts, one by one -/

/-- The account that slot and serial name stands in its slot (R98). -/
theorem State.namedAccount_held {slot serial : Nat} {s : State} {k : Fin 24} {a : Account} {d : Bool}
    (named : s.namedAccount slot serial = .ok (k, a, d)) : s.tally.accounts[k] = .held a d := by
  unfold State.namedAccount at named
  split at named
  · dsimp only at named
    split at named
    · cases named
    · split at named
      · cases named; assumption
      · cases named
  · cases named

/-- The record that slot and serial name stands in its slot (R67). -/
theorem State.namedTrip_held {slot serial : Nat} {s : State} {k : Fin 48} {r : TripRecord}
    (named : s.namedTrip slot serial = .ok (k, r)) : s.trips.slots[k] = some r := by
  unfold State.namedTrip at named
  split at named
  · dsimp only at named
    split at named
    · cases named
    · split at named
      · cases named; assumption
      · cases named
  · cases named

theorem selectSourceAct_outcome {ends : Prop} (n : Nat) (c : Caller) (s : State) :
    ActOutcome ends c s (selectSourceAct n c s) ∨ Withdrawn s (selectSourceAct n c s) := by
  unfold selectSourceAct
  split
  · exact .inl (.answered ..)
  · rename_i q _
    split
    · rename_i current
      exact .inr ⟨q, _, current, rfl⟩
    · rename_i other
      cases q with
      | rc => exact .inl (.effect _ _ (.selectRc fun e => other e.symm) ReplyCode.ok_carriedOut)
      | ref => exact .inl (.effect _ _ (.beginSwitch .ref other) ReplyCode.accepted_carriedOut)
      | xtal => exact .inl (.effect _ _ (.beginSwitch .xtal other) ReplyCode.accepted_carriedOut)

theorem setTimeAct_outcome {ends : Prop} (n m : Nat) (c : Caller) (s : State) : ActOutcome ends c s (setTimeAct n m c s) := by
  unfold setTimeAct
  split
  · exact .refused ..
  · dsimp only
    split
    · exact .effect _ _ (.slew _) ReplyCode.ok_carriedOut
    · split
      · rename_i handover
        exact .effect _ _ (.hold _ handover) ReplyCode.deferred_carriedOut
      · rename_i free
        exact .effect _ _ (.stepNow _ (Bool.eq_false_iff.mpr free)) ReplyCode.ok_carriedOut

theorem testTripAct_outcome {ends : Prop} (n m : Nat) (c : Caller) (s : State) : ActOutcome ends c s (testTripAct n m c s) := by
  unfold testTripAct
  split
  · dsimp only
    repeat' split
    case isFalse.isFalse.isFalse.isFalse.isFalse => exact .effect _ _ (.inject _ _) ReplyCode.ok_carriedOut
    all_goals exact .refused ..
  · exact .refused ..

theorem cancelTestAct_outcome {ends : Prop} (n : Nat) (c : Caller) (s : State) : ActOutcome ends c s (cancelTestAct n c s) := by
  unfold cancelTestAct
  split
  · dsimp only
    split
    · exact .effect _ _ (.endTest _) ReplyCode.ok_carriedOut
    · exact .refused ..
  · exact .refused ..

theorem acknowledgeAct_outcome {ends : Prop} (n m : Nat) (c : Caller) (s : State) : ActOutcome ends c s (acknowledgeAct n m c s) := by
  unfold acknowledgeAct
  split
  · exact .answered ..
  · rename_i named
    split
    · exact .answered ..
    · split
      · exact .answered ..
      · exact .effect _ _ (.acknowledge _ _ (State.namedTrip_held named)) ReplyCode.ok_carriedOut

theorem assignCauseAct_outcome {ends : Prop} (n m k : Nat) (c : Caller) (s : State) : ActOutcome ends c s (assignCauseAct n m k c s) := by
  unfold assignCauseAct
  split
  · exact .refused ..
  · split
    · exact .refused ..
    · rename_i named
      exact .effect _ _ (.cause _ _ _ (State.namedTrip_held named)) ReplyCode.ok_carriedOut

theorem retireTripAct_outcome {ends : Prop} (n m : Nat) (c : Caller) (s : State) : ActOutcome ends c s (retireTripAct n m c s) := by
  unfold retireTripAct
  split
  · exact .refused ..
  · split
    · exact .effect _ _ (.retire _) ReplyCode.ok_carriedOut
    · exact .refused ..

theorem openAccountAct_outcome {ends : Prop} (tag : List Byte) (cls interval margin : Nat) (f : Option Figures) (c : Caller) (s : State) :
    ActOutcome ends c s (openAccountAct tag cls interval margin f c s) := by
  unfold openAccountAct
  split
  · exact .refused ..
  · split
    · exact .refused ..
    · split
      · exact .refused ..
      · rename_i new
        split
        · exact .refused ..
        · exact .effect _ _ (.openAccount _ _ _ _ _ _ (by simpa using new)) ReplyCode.ok_carriedOut

theorem bindAct_outcome {ends : Prop} (n m k : Nat) (c : Caller) (s : State) : ActOutcome ends c s (bindAct n m k c s) := by
  unfold bindAct
  split
  · exact .refused ..
  · rename_i named
    split
    · exact .refused ..
    · split
      · exact .refused ..
      · rename_i l live
        split
        · exact .refused ..
        · split
          · exact .refused ..
          · split
            · exact .refused ..
            · rename_i free
              split
              · exact .refused ..
              · exact .effect _ _ (.bind _ _ _ l _ (State.namedAccount_held named) live (by simpa using free)) ReplyCode.ok_carriedOut

theorem unbindAct_outcome {ends : Prop} (n m : Nat) (c : Caller) (s : State) : ActOutcome ends c s (unbindAct n m c s) := by
  unfold unbindAct
  split
  · exact .refused ..
  · rename_i named
    split
    · exact .refused ..
    · split
      · exact .refused ..
      · split
        · exact .refused ..
        · split
          · exact .refused ..
          · exact .effect _ _ (.unbind _ _ _ (State.namedAccount_held named)) ReplyCode.ok_carriedOut

theorem presetAct_outcome {ends : Prop} (n m : Nat) (f : Figures) (o : PresetOptions) (c : Caller) (s : State) :
    ActOutcome ends c s (presetAct n m f o c s) := by
  unfold presetAct
  split
  · exact .refused ..
  · rename_i named
    split
    · exact .refused ..
    · split
      · exact .refused ..
      · rename_i l live
        split
        · exact .refused ..
        · rename_i new
          split
          · exact .refused ..
          · rename_i kept
            split
            · exact .refused ..
            · split
              · exact .refused ..
              · exact .effect _ _ (.preset _ _ _ f o l (State.namedAccount_held named) live (by simpa using new) (by simpa using kept))
                  ReplyCode.ok_carriedOut

theorem retireAccountAct_outcome {ends : Prop} (n m : Nat) (c : Caller) (s : State) : ActOutcome ends c s (retireAccountAct n m c s) := by
  unfold retireAccountAct
  split
  · exact .refused ..
  · split
    · exact .refused ..
    · exact .effect _ _ (.retireAccount _) ReplyCode.ok_carriedOut

theorem serviceDoneAct_outcome {ends : Prop} (n m : Nat) (c : Caller) (s : State) : ActOutcome ends c s (serviceDoneAct n m c s) := by
  unfold serviceDoneAct
  split
  · exact .refused ..
  · rename_i named
    split
    · exact .refused ..
    · rename_i live
      exact .effect _ _ (.serviceDone _ _ _ _ (State.namedAccount_held named) live) ReplyCode.ok_carriedOut

theorem checkpointAct_outcome {ends : Prop} (c : Caller) (s : State) : ActOutcome ends c s (checkpointAct c s) := by
  unfold checkpointAct
  split
  · exact .effect _ _ .checkpoint ReplyCode.accepted_carriedOut
  · exact .effect _ _ .checkpoint ReplyCode.accepted_carriedOut
  · exact .refused ..
  · exact .refused ..

/-- Asking for the configuration write leaves one waiting or in progress (R134, R175). -/
theorem State.askConfigWrite_isSome (s : State) : s.askConfigWrite.store.configWrite.isSome = true := by
  unfold State.askConfigWrite State.grantConfig
  split <;> rfl

@[simp] theorem State.raiseWord_slots (w : Word32) (s : State) : (s.raiseWord w).port.slots = s.port.slots := by
  unfold State.raiseWord; split <;> rfl
@[simp] theorem State.raise_slots (e : Event) (s : State) : (s.raise e).port.slots = s.port.slots := s.raiseWord_slots _
@[simp] theorem State.makePending_slots (i : Fin 6) (s : State) : (s.makePending i).port.slots = s.port.slots := by
  unfold State.makePending; split <;> simp
@[simp] theorem State.takeSlot_slots (i : Fin 6) (d : Int) (s : State) : (s.takeSlot i d).port.slots = s.port.slots := by
  unfold State.takeSlot; dsimp only; repeat' split
  all_goals simp [State.openHandover]
@[simp] theorem State.trySlot_slots (t : LocalTime) (i : Fin 6) (s : State) : (s.trySlot t i).port.slots = s.port.slots := by
  unfold State.trySlot; split <;> simp
@[simp] theorem State.takeMinute_slots (t : LocalTime) (s : State) : (s.takeMinute t).port.slots = s.port.slots := by
  unfold State.takeMinute; split; exacts [foldl_keeps (·.port.slots) _ (fun s i => by simp) s _, rfl]
@[simp] theorem State.presentMinute_slots (s : State) : s.presentMinute.port.slots = s.port.slots := by
  unfold State.presentMinute; split <;> simp

/-- An item put in force leaves the reply slots. -/
@[simp] theorem State.putItem_slots (code index : Nat) (value : Int) (s : State) : (s.putItem code index value).port.slots = s.port.slots := by
  have enabled : (s.enableLine code index value).port = s.port := by
    unfold State.enableLine
    repeat' split
    all_goals rfl
  unfold State.putItem
  dsimp only
  repeat' split
  all_goals simp [enabled]

theorem setRosterSlotAct_outcome {ends : Prop} (slot start crew window warning : Nat) (c : Caller) (s : State) :
    ActOutcome ends c s (setRosterSlotAct slot start crew window warning c s) := by
  unfold setRosterSlotAct
  split
  · rename_i inTable
    split
    · exact .refused ..
    · split
      · exact .refused ..
      · rename_i idle
        have none : s.store.configWrite = none := by simpa using idle
        exact .waits (.roster ⟨slot, inTable⟩ _ none) ⟨none, State.askConfigWrite_isSome _, by simp⟩
  · exact .refused ..

theorem startHandoverAct_outcome {ends : Prop} (c : Caller) (s : State) : ActOutcome ends c s (startHandoverAct c s) := by
  unfold startHandoverAct
  split
  · exact .answered ..
  · rename_i crew
    split
    · exact .answered ..
    · exact .answered ..
    · exact .answered ..
    · rename_i watch
      split
      · exact .answered ..
      · rename_i other
        exact .effect _ _ (.openHandover crew watch other) ReplyCode.ok_carriedOut

theorem signOnAct_outcome {ends : Prop} (c : Caller) (s : State) : ActOutcome ends c s (signOnAct c s) := by
  unfold signOnAct
  split
  · exact .answered ..
  · rename_i crew
    split
    · rename_i watch
      exact .effect _ _ (.takeWatch crew watch) ReplyCode.ok_carriedOut
    · rename_i watch
      split
      · rename_i incoming
        exact .effect _ _ (.sign crew watch incoming) ReplyCode.ok_carriedOut
      · split
        · rename_i other
          exact .effect _ _ (.replace crew watch other.1) ReplyCode.ok_carriedOut
        · exact .answered ..
    · exact .answered ..
    · exact .answered ..

theorem releaseAct_outcome {ends : Prop} (may : ends) (carry : Bool) (c : Caller) (s : State) : ActOutcome ends c s (releaseAct carry c s) := by
  unfold releaseAct
  split
  · exact .refused ..
  · exact .refused ..
  · split
    · exact .refused ..
    · exact .refused ..
  · rename_i watch
    split
    · exact .refused ..
    · split
      · exact .effect _ _ (.complete may watch) ReplyCode.ok_carriedOut
      · split
        · exact .effect _ _ (.carry may watch) ReplyCode.ok_carriedOut
        · exact .answered ..

theorem abortHandoverAct_outcome {ends : Prop} (may : ends) (c : Caller) (s : State) : ActOutcome ends c s (abortHandoverAct c s) := by
  unfold abortHandoverAct
  split
  · rename_i handover
    exact .effect _ _ (.abort may handover) ReplyCode.ok_carriedOut
  · exact .refused ..

theorem clearConditionsAct_outcome {ends : Prop} (w : Word32) (c : Caller) (s : State) : ActOutcome ends c s (clearConditionsAct w c s) := by
  unfold clearConditionsAct
  split
  · rename_i valid
    exact .effect _ _ (.clear w valid) ReplyCode.ok_carriedOut
  · exact .refused ..

theorem setMaskAct_outcome {ends : Prop} (w : Word32) (c : Caller) (s : State) : ActOutcome ends c s (setMaskAct w c s) := by
  unfold setMaskAct
  split
  · rename_i valid
    exact .effect _ _ (.mask w valid) ReplyCode.ok_carriedOut
  · exact .refused ..

theorem configureAct_outcome {ends : Prop} (code index : Nat) (value : Int) (c : Caller) (s : State) :
    ActOutcome ends c s (configureAct code index value c s) := by
  unfold configureAct
  split
  · exact .refused ..
  · rename_i named
    split
    · exact .refused ..
    · rename_i inRange
      split
      · exact .refused ..
      · rename_i engineer
        split
        · exact .refused ..
        · rename_i scanner
          split
          · exact .refused ..
          · rename_i idle
            have none : s.store.configWrite = none := by simpa using idle
            exact .waits (.configure code index value (by simpa using named) (by simpa using inRange) (by simpa using engineer)
              (by simpa using scanner) none) ⟨none, State.askConfigWrite_isSome _, by simp⟩

theorem checkConfigAct_outcome {ends : Prop} (c : Caller) (s : State) : ActOutcome ends c s (checkConfigAct c s) := by
  unfold checkConfigAct
  split
  · exact .refused ..
  · exact .effect _ _ .checkConfig ReplyCode.ok_carriedOut

theorem readLineAct_outcome {ends : Prop} (n : Nat) (c : Caller) (s : State) : ActOutcome ends c s (readLineAct n c s) := by
  unfold readLineAct; split <;> exact .answered ..

theorem readTripAct_outcome {ends : Prop} (n : Nat) (c : Caller) (s : State) : ActOutcome ends c s (readTripAct n c s) := by
  unfold readTripAct
  split
  · split <;> exact .answered ..
  · exact .answered ..

theorem readUnitAct_outcome {ends : Prop} (n : Nat) (c : Caller) (s : State) : ActOutcome ends c s (readUnitAct n c s) := by
  unfold readUnitAct; split <;> exact .answered ..

theorem readAccountSlot_outcome {ends : Prop} (i : Fin 24) (c : Caller) (s : State) : ActOutcome ends c s (readAccountSlot i c s) := by
  unfold readAccountSlot; split <;> exact .answered ..

theorem readAccountAct_outcome {ends : Prop} (n : AccountName) (c : Caller) (s : State) : ActOutcome ends c s (readAccountAct n c s) := by
  unfold readAccountAct
  split
  · split
    · exact readAccountSlot_outcome ..
    · exact .answered ..
  · split
    · split
      · exact .answered ..
      · exact readAccountSlot_outcome ..
    · exact .answered ..

theorem readShiftTallyAct_outcome {ends : Prop} (n m : Nat) (c : Caller) (s : State) : ActOutcome ends c s (readShiftTallyAct n m c s) := by
  unfold readShiftTallyAct
  split
  · exact .answered ..
  · split <;> exact .answered ..
  · exact .answered ..

theorem findAct_outcome {ends : Prop} (a b d e m : Nat) (o : List Byte) (c : Caller) (s : State) : ActOutcome ends c s (findAct a b d e m o c s) := by
  unfold findAct
  split
  · exact .answered ..
  · split
    · exact .answered ..
    · split <;> exact .answered ..

theorem readConfigAct_outcome {ends : Prop} (n m : Nat) (c : Caller) (s : State) : ActOutcome ends c s (readConfigAct n m c s) := by
  unfold readConfigAct; split <;> exact .answered ..

/-- Every act but that of SELECT_SOURCE answers with the state as it was or carries its effect out. -/
theorem OwnerAct.outcome {ends : Prop} (may : ends) {act : Act} (owner : OwnerAct act) :
    (∃ n, act = selectSourceAct n) ∨ ∀ c s, ActOutcome ends c s (act c s) := by
  cases owner with
  | selectSource n => exact .inl ⟨n, rfl⟩
  | setTime => exact .inr fun _ _ => setTimeAct_outcome ..
  | readTime => exact .inr fun _ _ => .answered ..
  | testTrip => exact .inr fun _ _ => testTripAct_outcome ..
  | cancelTest => exact .inr fun _ _ => cancelTestAct_outcome ..
  | readLine => exact .inr fun _ _ => readLineAct_outcome ..
  | acknowledge => exact .inr fun _ _ => acknowledgeAct_outcome ..
  | assignCause => exact .inr fun _ _ => assignCauseAct_outcome ..
  | retireTrip => exact .inr fun _ _ => retireTripAct_outcome ..
  | readTrip => exact .inr fun _ _ => readTripAct_outcome ..
  | readUnit => exact .inr fun _ _ => readUnitAct_outcome ..
  | openAccount => exact .inr fun _ _ => openAccountAct_outcome ..
  | bind => exact .inr fun _ _ => bindAct_outcome ..
  | unbind => exact .inr fun _ _ => unbindAct_outcome ..
  | preset => exact .inr fun _ _ => presetAct_outcome ..
  | retireAccount => exact .inr fun _ _ => retireAccountAct_outcome ..
  | serviceDone => exact .inr fun _ _ => serviceDoneAct_outcome ..
  | readAccount => exact .inr fun _ _ => readAccountAct_outcome ..
  | checkpoint => exact .inr fun _ _ => checkpointAct_outcome ..
  | readStore => exact .inr fun _ _ => .answered ..
  | setRosterSlot => exact .inr fun _ _ => setRosterSlotAct_outcome ..
  | startHandover => exact .inr fun _ _ => startHandoverAct_outcome ..
  | signOn => exact .inr fun _ _ => signOnAct_outcome ..
  | release => exact .inr fun _ _ => releaseAct_outcome may ..
  | abortHandover => exact .inr fun _ _ => abortHandoverAct_outcome may ..
  | readWatch => exact .inr fun _ _ => .answered ..
  | readShiftTally => exact .inr fun _ _ => readShiftTallyAct_outcome ..
  | find => exact .inr fun _ _ => findAct_outcome ..
  | readConditions => exact .inr fun _ _ => .answered ..
  | clearConditions => exact .inr fun _ _ => clearConditionsAct_outcome ..
  | setMask => exact .inr fun _ _ => setMaskAct_outcome ..
  | configure => exact .inr fun _ _ => configureAct_outcome ..
  | readConfig => exact .inr fun _ _ => readConfigAct_outcome ..
  | checkConfig => exact .inr fun _ _ => checkConfigAct_outcome ..

/-- What an act may do: leave the state as it was or one of the effects; and answer, or wait for the write it asked for. -/
def Act.Does (ends : Prop) (act : Act) : Prop :=
  ∀ c s, ((act c s).1 = s ∨ Effect ends c s (act c s).1)
    ∧ ((act c s).2.isSome = true ∨ ((act c s).2 = none ∧ Reserves s (act c s).1))

theorem ActOutcome.does {ends : Prop} {c : Caller} {s : State} {r : State × Answer} (outcome : ActOutcome ends c s r) :
    (r.1 = s ∨ Effect ends c s r.1) ∧ (r.2.isSome = true ∨ (r.2 = none ∧ Reserves s r.1)) := by
  obtain ⟨code, body, same⟩ | ⟨e, ⟨code, body, answered, -⟩ | waits⟩ := outcome
  · rw [same]; exact ⟨.inl rfl, .inl rfl⟩
  · exact ⟨.inr e, .inl (by rw [answered]; rfl)⟩
  · exact ⟨.inr e, .inr waits⟩

theorem selectSourceAct_does (ends : Prop) (n : Nat) : Act.Does ends (selectSourceAct n) := by
  intro c s
  obtain outcome | ⟨q, body, current, withdrawn⟩ := selectSourceAct_outcome (ends := ends) n c s
  · exact outcome.does
  · rw [withdrawn]; exact ⟨.inr (.withdraw q current), .inl rfl⟩

/-- An owner's act does what the effects say. -/
theorem OwnerAct.does {ends : Prop} (may : ends) {act : Act} (owner : OwnerAct act) : act.Does ends := by
  obtain ⟨n, rfl⟩ | all := owner.outcome may
  · exact selectSourceAct_does ends n
  · exact fun c s => (all c s).does

/-- The commands that may end a handover by request: RELEASE, ABORT_HANDOVER, and a SEND, which may spell either. -/
def Ends (i : Instr) : Prop := (∃ h carry, i = .release h carry) ∨ (∃ h, i = .abortHandover h) ∨ ∃ dt bytes, i = .send dt bytes

/-- Every request command ends in an owner's act of its row's kind and level; SELECT_SOURCE apart, it has the outcomes of such an act. -/
theorem request_command {c : Instr} {h : Header} {kind level : Nat} (row : Safety.requestRow c = some (h, kind, level)) :
    ∃ act, OwnerAct act ∧ (∀ s, exec c s = .next (s.request h kind level act))
      ∧ ((∃ n, c = .selectSource h n ∧ act = selectSourceAct n) ∨ ∀ k s, ActOutcome (Ends c) k s (act k s)) := by
  cases c <;> simp only [Safety.requestRow, reduceCtorEq, Option.some.injEq, Prod.mk.injEq] at row <;> obtain ⟨rfl, rfl, rfl⟩ := row
  case selectSource => exact ⟨_, .selectSource _, fun _ => rfl, .inl ⟨_, rfl, rfl⟩⟩
  case setTime => exact ⟨_, .setTime _ _, fun _ => rfl, .inr fun _ _ => setTimeAct_outcome ..⟩
  case readTime => exact ⟨_, .readTime, fun _ => rfl, .inr fun _ _ => .answered ..⟩
  case testTrip => exact ⟨_, .testTrip _ _, fun _ => rfl, .inr fun _ _ => testTripAct_outcome ..⟩
  case cancelTest => exact ⟨_, .cancelTest _, fun _ => rfl, .inr fun _ _ => cancelTestAct_outcome ..⟩
  case readLine => exact ⟨_, .readLine _, fun _ => rfl, .inr fun _ _ => readLineAct_outcome ..⟩
  case acknowledge => exact ⟨_, .acknowledge _ _, fun _ => rfl, .inr fun _ _ => acknowledgeAct_outcome ..⟩
  case assignCause => exact ⟨_, .assignCause _ _ _, fun _ => rfl, .inr fun _ _ => assignCauseAct_outcome ..⟩
  case retireTrip => exact ⟨_, .retireTrip _ _, fun _ => rfl, .inr fun _ _ => retireTripAct_outcome ..⟩
  case readTrip => exact ⟨_, .readTrip _, fun _ => rfl, .inr fun _ _ => readTripAct_outcome ..⟩
  case readUnit => exact ⟨_, .readUnit _, fun _ => rfl, .inr fun _ _ => readUnitAct_outcome ..⟩
  case openAccount => exact ⟨_, .openAccount _ _ _ _ _, fun _ => rfl, .inr fun _ _ => openAccountAct_outcome ..⟩
  case bind => exact ⟨_, .bind _ _ _, fun _ => rfl, .inr fun _ _ => bindAct_outcome ..⟩
  case unbind => exact ⟨_, .unbind _ _, fun _ => rfl, .inr fun _ _ => unbindAct_outcome ..⟩
  case preset => exact ⟨_, .preset _ _ _ _, fun _ => rfl, .inr fun _ _ => presetAct_outcome ..⟩
  case retireAccount => exact ⟨_, .retireAccount _ _, fun _ => rfl, .inr fun _ _ => retireAccountAct_outcome ..⟩
  case serviceDone => exact ⟨_, .serviceDone _ _, fun _ => rfl, .inr fun _ _ => serviceDoneAct_outcome ..⟩
  case readAccount => exact ⟨_, .readAccount _, fun _ => rfl, .inr fun _ _ => readAccountAct_outcome ..⟩
  case checkpoint => exact ⟨_, .checkpoint, fun _ => rfl, .inr fun _ _ => checkpointAct_outcome ..⟩
  case readStore => exact ⟨_, .readStore, fun _ => rfl, .inr fun _ _ => .answered ..⟩
  case setRosterSlot => exact ⟨_, .setRosterSlot _ _ _ _ _, fun _ => rfl, .inr fun _ _ => setRosterSlotAct_outcome ..⟩
  case startHandover => exact ⟨_, .startHandover, fun _ => rfl, .inr fun _ _ => startHandoverAct_outcome ..⟩
  case signOn => exact ⟨_, .signOn, fun _ => rfl, .inr fun _ _ => signOnAct_outcome ..⟩
  case release => exact ⟨_, .release _, fun _ => rfl, .inr fun _ _ => releaseAct_outcome (.inl ⟨_, _, rfl⟩) ..⟩
  case abortHandover => exact ⟨_, .abortHandover, fun _ => rfl, .inr fun _ _ => abortHandoverAct_outcome (.inr (.inl ⟨_, rfl⟩)) ..⟩
  case readWatch => exact ⟨_, .readWatch, fun _ => rfl, .inr fun _ _ => .answered ..⟩
  case readShiftTally => exact ⟨_, .readShiftTally _ _, fun _ => rfl, .inr fun _ _ => readShiftTallyAct_outcome ..⟩
  case find => exact ⟨_, .find _ _ _ _ _ _, fun _ => rfl, .inr fun _ _ => findAct_outcome ..⟩
  case readConditions => exact ⟨_, .readConditions, fun _ => rfl, .inr fun _ _ => .answered ..⟩
  case clearConditions => exact ⟨_, .clearConditions _, fun _ => rfl, .inr fun _ _ => clearConditionsAct_outcome ..⟩
  case setMask => exact ⟨_, .setMask _, fun _ => rfl, .inr fun _ _ => setMaskAct_outcome ..⟩
  case configure => exact ⟨_, .configure _ _ _, fun _ => rfl, .inr fun _ _ => configureAct_outcome ..⟩
  case readConfig => exact ⟨_, .readConfig _ _, fun _ => rfl, .inr fun _ _ => readConfigAct_outcome ..⟩
  case checkConfig => exact ⟨_, .checkConfig, fun _ => rfl, .inr fun _ _ => checkConfigAct_outcome ..⟩

/-- The act of a request command does what the effects say, and ends a handover only for the requests that may. -/
theorem request_does {c : Instr} {h : Header} {kind level : Nat} (row : Safety.requestRow c = some (h, kind, level)) :
    ∃ act, act.Does (Ends c) ∧ ∀ s, exec c s = .next (s.request h kind level act) := by
  obtain ⟨act, -, runs, ⟨n, -, rfl⟩ | all⟩ := request_command row
  · exact ⟨_, selectSourceAct_does _ n, runs⟩
  · exact ⟨act, fun k s => (all k s).does, runs⟩

end Sys2Proof.Machine

namespace Sys2Proof.Proofs

open Sys2Proof Sys2Proof.Machine Sys2Proof.Claim

/-- Settles O1: both halves are the two branches of `step`. -/
theorem frontCommandRuns : Obligations.FrontCommandRuns := by
  refine ⟨fun c rest s => rfl, fun s empty => ?_⟩
  simp only [step, empty]

/-- Settles O4: a request command makes the port's checks before its owner's act. -/
theorem portChecksRequests : Obligations.PortChecksRequests := by
  intro c h kind level s row
  obtain ⟨act, -, runs, -⟩ := request_command row
  refine ⟨fun down => ?_, fun full => ?_, fun i up free low => ?_⟩
  · rw [runs, State.request_down h kind level act s down]
  · rw [runs, State.request_ignored h kind level act s full]
  · rw [Answers, runs, State.request_privilege h kind level act s i up free low]
    rfl

/-- An outcome of rows 4 to 19 is not one of a request carried out. -/
theorem not_carriedOut {code : ReplyCode} (low : 4 ≤ code.code) : ¬ code.carriedOut := by
  rintro (rfl | rfl | rfl) <;> exact absurd low (by decide)

/-- The reply that a fill leaves waiting in its slot is the answer's. -/
theorem fill_waiting {i : Fin 2} {head : ReplyHead} {a : Answer} {s : State} {n : Nat} {r : Reply}
    (waits : (s.fill i head a).port.slots[i] = .waiting n r) : ∃ code body, a = some (code, body) ∧ r = ⟨head, code, body⟩ := by
  cases a with
  | none => simp [State.fill] at waits
  | some p =>
    obtain ⟨code, body⟩ := p
    rw [State.fill_some, State.place_slot] at waits
    cases waits
    exact ⟨code, body, rfl, rfl⟩

/-- What the reply in its slot says of an act that has one of the two outcomes. -/
theorem refused_unchanged {ends : Prop} {c : Caller} {s : State} {x : State × Answer} {i : Fin 2} {head : ReplyHead} {n : Nat} {r : Reply}
    (outcome : ActOutcome ends c s x) (waits : (x.1.fill i head x.2).port.slots[i] = .waiting n r) (not : ¬ r.code.carriedOut) :
    x.1.fill i head x.2 = s.place i r := by
  obtain ⟨code, body, answered, rfl⟩ := fill_waiting waits
  obtain ⟨code', body', rfl⟩ | ⟨-, out⟩ := outcome
  · cases answered
    rfl
  · obtain ⟨code', body', same, carried⟩ | ⟨none, -⟩ := out
    · rw [same] at answered
      cases answered
      exact absurd carried not
    · rw [none] at answered
      cases answered

/-- Settles O5: an act that answers a refusal leaves the state, and SELECT_SOURCE with the current source withdraws a switch. -/
theorem refusedRequestsChangeNothing : Obligations.RefusedRequestsChangeNothing := by
  intro c h kind level i s t n r row up free runs waits
  obtain ⟨act, -, exec_eq, acts⟩ := request_command row
  rw [exec_eq] at runs
  cases runs
  by_cases low : level < s.port.levels[h.requester].val
  · rw [State.request_privilege h kind level act s i up free low, State.place_slot] at waits
    cases waits
    rw [State.request_privilege h kind level act s i up free low]
    exact ⟨fun _ _ => rfl, fun _ => .inl rfl⟩
  · rw [State.request_taken h kind level act s i up free (Nat.not_lt.mp low)] at waits ⊢
    obtain ⟨source, rfl, rfl⟩ | all := acts
    · obtain plain | ⟨q, body, -, withdrawn⟩ := selectSourceAct_outcome (ends := True) source
        ⟨h.requester, s.port.levels[h.requester], h.crew⟩ (s.pass h.dt)
      · refine ⟨fun low _ => refused_unchanged plain waits (not_carriedOut low), fun redundant => .inl ?_⟩
        exact refused_unchanged plain waits (by rw [redundant]; rintro (e | e | e) <;> cases e)
      · rw [withdrawn, answer, State.fill_some] at waits ⊢
        rw [State.place_slot] at waits
        cases waits
        exact ⟨fun low _ => absurd low (by decide : ¬ 4 ≤ ReplyCode.redundant.code), fun _ => .inr ⟨⟨source, rfl⟩, rfl⟩⟩
    · refine ⟨fun low _ => refused_unchanged (all _ _) waits (not_carriedOut low), fun redundant => .inl ?_⟩
      exact refused_unchanged (all _ _) waits (by rw [redundant]; rintro (e | e | e) <;> cases e)

end Sys2Proof.Proofs
end

section
/-! What a property of states must withstand to be kept by every step, listed once by the operations that commands end in; and the
shorter list for a property that asks nothing of Time Base and pins. -/

namespace Sys2Proof.Machine

open Sys2Proof Sys2Proof.Claim

/-! ### What the operations make of the Time Base -/

theorem State.presentMinute_time (s : State) :
    s.presentMinute.time = { s.time with lastPresented := if s.up then some s.localTime else s.time.lastPresented } := by
  unfold State.presentMinute
  split
  · rename_i up
    simp [up]
  · rename_i down
    simp [down]

@[simp] theorem State.raise_up (e : Event) (s : State) : (s.raise e).up = s.up := by simp [State.up]

@[simp] theorem State.raise_localTime (e : Event) (s : State) : (s.raise e).localTime = s.localTime := by
  simp [State.localTime, State.stationSeconds]

theorem State.applyStep_time (off : Int) (s : State) : (s.applyStep off).time =
    { s.time.step s.config.slewStep off with
      lastPresented := if s.up then some ({ s with time := s.time.step s.config.slewStep off } : State).localTime
        else s.time.lastPresented } := by
  unfold State.applyStep
  rw [State.presentMinute_time, State.raise_up, State.raise_localTime, State.raise_time]
  rfl

theorem State.endHandover_time (s : State) : s.endHandover.time = match s.time.pendingStep with
    | none => s.time
    | some off => (s.applyStep off).time := by
  unfold State.endHandover State.handoverSignal
  rw [State.handlePending_time]
  cases s.time.pendingStep <;> rfl

theorem State.strandedStep_time (s : State) : s.strandedStep.time = match s.time.pendingStep with
    | none => s.time
    | some off => if s.watch.handover then s.time else (s.applyStep off).time := by
  unfold State.strandedStep
  cases pending : s.time.pendingStep with
  | none => simp
  | some off =>
    cases free : s.watch.handover
    · simp [State.endHandover_time, pending]
    · simp

/-- The tick leaves the watch's state. -/
theorem State.tick_watch_state (s : State) : s.tick.watch.state = s.watch.state := by
  unfold State.tick State.watchTick State.windowExpiry State.warningExpiry
  rw [State.storeTick_watch]
  repeat' split
  all_goals simp

/-- A pending step that a counted boundary finds with no handover in progress, where the blocks are up, is applied there (R37). -/
def State.stranded (s : State) : Option Int := if s.up && !s.watch.handover then s.time.pendingStep else none

/-- A counted boundary counts, applies a stranded step, and may present a local time. -/
theorem State.countBoundary_time (n : Nat) (aligned : Bool) (s : State) : ∃ l : Option LocalTime,
    (s.countBoundary n aligned).time = match s.stranded with
      | none => { s.time.count s.config.slewStep n aligned with lastPresented := l }
      | some off => { (s.time.count s.config.slewStep n aligned).step s.config.slewStep off with lastPresented := l } := by
  have presented : ∀ u : State, ∃ l, u.presentIfMoved.time = { u.time with lastPresented := l } := fun u => by
    unfold State.presentIfMoved
    split
    · exact ⟨_, rfl⟩
    · exact ⟨_, u.presentMinute_time⟩
  unfold State.countBoundary
  extract_lets s1
  have sameUp : s1.up = s.up := rfl
  have handover : s1.tick.watch.handover = s.watch.handover := by
    unfold Watch.handover; rw [State.tick_watch_state]
  have pending : s1.tick.time.pendingStep = s.time.pendingStep := by rw [State.tick_time]; rfl
  have config : s1.tick.config.slewStep = s.config.slewStep := by rw [State.tick_config]
  unfold State.stranded
  cases up : s.up
  · simp only [sameUp, up, Bool.false_eq_true, if_false, Bool.false_and]
    exact ⟨s1.time.lastPresented, rfl⟩
  · simp only [sameUp, up, if_true, Bool.true_and]
    obtain ⟨l, eq⟩ := presented s1.tick.strandedStep
    refine ⟨l, ?_⟩
    rw [eq, State.strandedStep_time, pending, handover]
    cases s.watch.handover with
    | true => cases s.time.pendingStep <;> simp only [if_true, State.tick_time] <;> rfl
    | false =>
      cases s.time.pendingStep with
      | none => simp only [State.tick_time]; rfl
      | some off => simp only [Bool.false_eq_true, if_false, State.applyStep_time, config, State.tick_time]; rfl

@[simp] theorem State.countBoundary_anchor (n : Nat) (aligned : Bool) (s : State) :
    (s.countBoundary n aligned).time.anchor = s.time.anchor := by
  obtain ⟨l, eq⟩ := s.countBoundary_time n aligned
  rw [eq]
  cases s.stranded <;> rfl

/-! ### The list of the operations -/

/-- An item put in force leaves the store. -/
@[simp] theorem State.putItem_store (code index : Nat) (value : Int) (s : State) : (s.putItem code index value).store = s.store := by
  have enabled : (s.enableLine code index value).store = s.store := by
    unfold State.enableLine
    repeat' split
    all_goals rfl
  unfold State.putItem
  dsimp only
  repeat' split
  all_goals simp [enabled]

/-- A request command, or a SEND, which may spell one. -/
def Takes (i : Instr) : Prop := (Safety.requestRow i).isSome = true ∨ ∃ dt bytes, i = .send dt bytes

/-- A cold start is taken: at COLD_START, or at the release of the reset line where one waited (R179). -/
def BeginsCold (i : Instr) (s : State) : Prop :=
  (∃ dt, i = .coldStart dt) ∨ (∃ dt, i = .resetLineReleased dt) ∧ s.pins.startWaiting = some .cold

/-- A warm start is taken: at WARM_START, or at the release of the reset line where one waited (R179). -/
def BeginsWarm (i : Instr) (s : State) : Prop :=
  (∃ dt, i = .warmStart dt) ∨ (∃ dt, i = .resetLineReleased dt) ∧ s.pins.startWaiting = some .warm

/-- What leads from one property of states to another over a command: the passing of time, the bytes shifted out, a slot freed and the
warning's level keep the first; one operation of a block goes from the first to the second; a reply placed keeps the second. -/
structure Leads (P : State → Prop) (Q : Instr → State → Prop) : Prop where
  pass : ∀ s dt, P s → P (s.pass dt)
  shiftOut : ∀ s bytes, P s → P (s.shiftOut bytes)
  freed : ∀ (s : State) (i : Fin 2), P s → P { s with port := { s.port with slots := s.port.slots.set i .free } }
  setWarning : ∀ s b, P s → P (s.setWarning b)
  stay : ∀ i s, P s → Q i s
  place : ∀ i s k r, Q i s → Q i (s.place k r)
  reserve : ∀ i s t k head, Reserves s t → P s → Q i t → Q i (t.fill k head none)
  effect : ∀ i c s t, Takes i → Effect (Ends i) c s t → P s → Q i t
  frameError : ∀ i s, Takes i → P s → Q i (s.raise .frameError)
  pulse : ∀ dt s, s.timeUp = true → P s → Q (.refPulse dt) s.pulse
  absence : ∀ s m, s.timeUp = true → P s → Q .absenceLimitExpiry (s.reach m).refFailure
  flywheel : ∀ s a, s.timeUp = true → s.time.source = .ref → s.time.anchor = some a → P s → Q .flywheelBoundary (s.flywheel a)
  second : ∀ s, s.timeUp = true → s.time.source ≠ .ref → P s →
    Q .secondBoundary ((s.reach s.time.nextBoundary).countBoundary s.time.nextBoundary false).completeOnBoundary
  backup : ∀ s : State, s.onBackup = true → P s → Q .backupBoundary
    { s.reach s.time.nextBoundary with
      time := (s.reach s.time.nextBoundary).time.count s.config.slewStep s.time.nextBoundary false }
  scannerTick : ∀ s, s.up = true → P s → Q .testExpiry s.scannerTick
  storeTick : ∀ s, s.up = true → P s → Q .periodicTrigger s.storeTick
  warningExpiry : ∀ s, s.up = true → P s → Q .warningDeadlineExpiry s.warningExpiry
  windowExpiry : ∀ s, s.up = true → P s → Q .windowDeadlineExpiry s.windowExpiry
  crystalReady : ∀ dt s, s.time.crystalRunning = false → P s → Q (.crystalReady dt) s.crystalReady
  crystalStop : ∀ dt s, P s → Q (.crystalStop dt) s.crystalStop
  sampleLines : ∀ dt s levels first, s.up = true → P s → Q (.tripLineSample dt levels first) (s.sampleLines levels first)
  sampleUnits : ∀ dt s lines, s.up = true → P s → Q (.modeLineSample dt lines) (s.sampleUnits lines)
  beginFreeze : ∀ dt s, s.up = true → s.tally.freeze = false → P s → Q (.powerFailWarning dt) s.beginFreeze
  release : ∀ dt s, s.up = true → s.tally.freeze = true → P s → Q (.warningReleased dt) s.credit.releaseWalk
  imageEnd : ∀ dt s verify, s.up = true → P s → Q (.imageWriteEnd dt verify) (s.imageEnd verify)
  configWriteEnd : ∀ dt s verify, s.up = true → P s → Q (.configWriteEnd dt verify) (s.configWriteEnd verify)
  powerLost : ∀ dt s image config, s.timeUp = true → P s → Q (.mainPowerLost dt image config)
    { s.stopBlocks image config with
      time := (s.stopBlocks image config).time.powerLost, pins := (s.stopBlocks image config).pins.loseMain }
  loseMain : ∀ dt s image config, s.timeUp = false → P s → Q (.mainPowerLost dt image config) { s with pins := s.pins.loseMain }
  loseBackup : ∀ dt s, P s → Q (.backupSupplyLost dt) { s with pins := s.pins.loseBackup }
  waits : ∀ i s k, s.pins.mainPower = false → k ≠ .resetLine → P s → Q i { s with pins := { s.pins.rise with startWaiting := some k } }
  coldStart : ∀ i s p, BeginsCold i s → P s → Q i ({ s with pins := p } : State).coldStart
  warmStart : ∀ i s p, BeginsWarm i s → P s → Q i ({ s with pins := p } : State).warmStart
  resetStart : ∀ dt s, s.pins.startWaiting = some .resetLine ∨ s.timeUp = true → P s → Q (.resetLineReleased dt) s.resetStart
  resetUp : ∀ dt s image config, s.up = true → P s → Q (.resetLineAsserted dt image config)
    { s.stopBlocks image config with pins := { (s.stopBlocks image config).pins with resetLine := true } }
  resetPin : ∀ i s b, P s → Q i { s with pins := { s.pins with resetLine := b } }

section
variable {P : State → Prop} {Q : Instr → State → Prop}

/-- A request taken: a failed check places a refusal, and an act answers or waits for the write it asked for. -/
theorem Leads.takeRequest (k : Leads P Q) {i : Instr} (takes : Takes i) (requester : Fin 4) (crew : Fin 16) (tag : Byte) (kind : Nat)
    (intake : Intake) (acts : ∀ level act, intake = .request level act → Act.Does (Ends i) act) (s : State) (p : P s) :
    Q i (s.takeRequest requester crew tag kind intake) := by
  have refused := fun n r => k.place i s n r (k.stay i s p)
  unfold State.takeRequest
  split
  · exact k.stay i s p
  · rename_i n _
    dsimp only
    split
    · exact refused _ _
    · exact refused _ _
    · rename_i required act
      split
      · exact refused _ _
      · obtain ⟨effect, replies⟩ := acts required act rfl ⟨requester, s.port.levels[requester], crew⟩ s
        have after : Q i (act ⟨requester, s.port.levels[requester], crew⟩ s).1 := by
          obtain same | e := effect
          · rw [same]; exact k.stay i s p
          · exact k.effect i _ s _ takes e p
        obtain answered | ⟨waits, reserves⟩ := replies
        · obtain ⟨x, eq⟩ := Option.isSome_iff_exists.mp answered
          rw [eq]
          exact k.place _ _ _ _ after
        · rw [waits]
          exact k.reserve i s _ _ _ reserves p after

/-- A request command. -/
theorem Leads.request (k : Leads P Q) {c : Instr} {h : Header} {kind level : Nat} (row : Safety.requestRow c = some (h, kind, level))
    {s t : State} (runs : exec c s = .next t) (p : P s) : Q c t := by
  obtain ⟨act, does, eq⟩ := request_does row
  rw [eq] at runs
  cases runs
  have passed := k.pass s h.dt p
  unfold State.request
  dsimp only
  split
  · exact k.takeRequest (.inl (by rw [row]; rfl)) _ _ _ _ _ (fun _ _ same => by cases same; exact does) _ passed
  · exact k.stay _ _ passed

/-- A transfer that the port does not take. -/
theorem Leads.idleTransfer (k : Leads P Q) (i : Instr) (n : Nat) (s : State) (p : P s) : Q i (s.idleTransfer n) := by
  unfold State.idleTransfer
  split
  · exact k.stay _ _ (k.shiftOut _ _ p)
  · exact k.stay _ _ p

/-- The frame of a SEND. -/
theorem Leads.takeFrame (k : Leads P Q) (dt : Nat) (bytes : List Byte) (s : State) (p : P s) : Q (.send dt bytes) (s.takeFrame bytes) := by
  have takes : Takes (.send dt bytes) := .inr ⟨dt, bytes, rfl⟩
  unfold State.takeFrame
  split
  · exact k.stay _ _ p
  · split
    · exact k.frameError _ _ takes p
    · exact k.takeRequest takes _ _ _ _ _
        (fun _ _ same => (intakeFor_owner _ _ _ _ same).does (.inr (.inr ⟨dt, bytes, rfl⟩))) _ p

/-- A COLLECT. -/
theorem Leads.collectReply (k : Leads P Q) (i : Instr) (n : Nat) (s : State) (p : P s) : Q i (s.collectReply n) := by
  unfold State.collectReply
  split
  · exact k.stay _ _ (k.shiftOut _ _ p)
  · dsimp only
    split
    · exact k.stay _ _ (k.freed _ _ (k.shiftOut _ _ p))
    · exact k.stay _ _ (k.shiftOut _ _ p)

/-- The release of the reset line. -/
theorem Leads.lineReleased (k : Leads P Q) (dt : Nat) (s : State) (p : P s) : Q (.resetLineReleased dt) s.lineReleased := by
  unfold State.lineReleased
  split
  · rename_i waiting
    exact k.coldStart _ s s.pins (.inr ⟨⟨dt, rfl⟩, waiting⟩) p
  · rename_i waiting
    exact k.warmStart _ s s.pins (.inr ⟨⟨dt, rfl⟩, waiting⟩) p
  · rename_i waiting
    exact k.resetStart dt s (.inl waiting) p
  · rename_i waiting
    split
    · rename_i main
      exact k.resetStart dt s (.inr (by simp [State.timeUp, main, waiting])) p
    · exact k.resetPin _ s false p

/-- Main power that rises. -/
theorem Leads.powerUp (k : Leads P Q) (i : Instr) (kind : StartKind) (start : State → State) (s : State) (off : s.pins.mainPower = false)
    (ne : kind ≠ .resetLine) (starts : Q i (start { s with pins := s.pins.rise })) (p : P s) : Q i (s.powerUp kind start) := by
  unfold State.powerUp
  dsimp only
  split
  · exact k.waits i s kind off ne p
  · exact starts

/-- Every command leads from the first property to the second. -/
theorem Leads.exec (k : Leads P Q) {c : Instr} {s t : State} (runs : exec c s = .next t) (p : P s) : Q c t := by
  cases c
  case send dt bytes =>
    cases runs
    split
    · exact k.takeFrame _ _ _ (k.shiftOut _ _ (k.pass _ _ p))
    · exact k.idleTransfer _ _ _ (k.pass _ _ p)
  case collect dt n =>
    cases runs
    split
    · exact k.collectReply _ _ _ (k.pass _ _ p)
    · exact k.idleTransfer _ _ _ (k.pass _ _ p)
  case statusPoll dt code n =>
    cases runs
    split
    · exact k.stay _ _ (k.shiftOut _ _ (k.pass _ _ p))
    · exact k.idleTransfer _ _ _ (k.pass _ _ p)
  case refPulse dt =>
    cases runs
    split
    · rename_i up
      exact k.pulse _ _ up (k.pass _ _ p)
    · exact k.stay _ _ (k.pass _ _ p)
  case absenceLimitExpiry =>
    cases runs
    split
    · rename_i up
      exact k.absence _ _ (by simp_all) p
    · exact k.stay _ _ p
  case flywheelBoundary =>
    cases runs
    split
    · rename_i a anchor
      split
      · rename_i up
        simp only [Bool.and_eq_true, decide_eq_true_eq] at up
        exact k.flywheel s a up.1 up.2 anchor p
      · exact k.stay _ _ p
    · exact k.stay _ _ p
  case secondBoundary =>
    cases runs
    split
    · rename_i up
      simp only [Bool.and_eq_true, decide_eq_true_eq] at up
      exact k.second s up.1 up.2 p
    · exact k.stay _ _ p
  case testExpiry =>
    cases runs
    split
    · rename_i up; exact k.scannerTick s up p
    · exact k.stay _ _ p
  case periodicTrigger =>
    cases runs
    split
    · rename_i up
      simp only [Bool.and_eq_true] at up
      exact k.storeTick s up.1 p
    · exact k.stay _ _ p
  case warningDeadlineExpiry =>
    cases runs
    split
    · rename_i up; exact k.warningExpiry s up p
    · exact k.stay _ _ p
  case windowDeadlineExpiry =>
    cases runs
    split
    · rename_i up; exact k.windowExpiry s up p
    · exact k.stay _ _ p
  case crystalReady dt =>
    cases runs
    split
    · exact k.stay _ _ (k.pass _ _ p)
    · rename_i stopped
      exact k.crystalReady _ _ (Bool.eq_false_iff.mpr stopped) (k.pass _ _ p)
  case crystalStop dt =>
    cases runs
    exact k.crystalStop _ _ (k.pass _ _ p)
  case tripLineSample dt levels first =>
    cases runs
    split
    · rename_i up; exact k.sampleLines _ _ _ _ up (k.pass _ _ p)
    · exact k.stay _ _ (k.pass _ _ p)
  case modeLineSample dt lines =>
    cases runs
    split
    · rename_i up; exact k.sampleUnits _ _ _ up (k.pass _ _ p)
    · exact k.stay _ _ (k.pass _ _ p)
  case powerFailWarning dt =>
    cases runs
    split
    · rename_i up
      simp only [Bool.and_eq_true, Bool.not_eq_true'] at up
      exact k.beginFreeze _ _ up.1 up.2 (k.setWarning _ _ (k.pass _ _ p))
    · exact k.stay _ _ (k.setWarning _ _ (k.pass _ _ p))
  case warningReleased dt =>
    cases runs
    split
    · rename_i up
      simp only [Bool.and_eq_true] at up
      exact k.release _ _ up.1 up.2 (k.setWarning _ _ (k.pass _ _ p))
    · exact k.stay _ _ (k.setWarning _ _ (k.pass _ _ p))
  case imageWriteEnd dt verify =>
    cases runs
    split
    · rename_i up; exact k.imageEnd _ _ _ up (k.pass _ _ p)
    · exact k.stay _ _ (k.pass _ _ p)
  case configWriteEnd dt verify =>
    cases runs
    split
    · rename_i up; exact k.configWriteEnd _ _ _ up (k.pass _ _ p)
    · exact k.stay _ _ (k.pass _ _ p)
  case mainPowerLost dt image config =>
    cases runs
    split
    · rename_i up; exact k.powerLost _ _ _ _ up (k.pass _ _ p)
    · rename_i down
      split
      · exact k.loseMain _ _ _ _ (Bool.eq_false_iff.mpr down) (k.pass _ _ p)
      · exact k.stay _ _ (k.pass _ _ p)
  case backupBoundary =>
    cases runs
    split
    · rename_i on
      simp only [Bool.and_eq_true] at on
      exact k.backup s on.1.1 p
    · exact k.stay _ _ p
  case backupSupplyLost dt =>
    cases runs
    exact k.loseBackup _ _ (k.pass _ _ p)
  case coldStart dt =>
    cases runs
    split
    · rename_i off
      simp only [Bool.and_eq_true, Bool.not_eq_true'] at off
      exact k.powerUp _ _ _ _ off.1 (by decide) (k.coldStart _ _ _ (.inl ⟨dt, rfl⟩) (k.pass _ _ p)) (k.pass _ _ p)
    · exact k.stay _ _ (k.pass _ _ p)
  case warmStart dt =>
    cases runs
    split
    · rename_i off
      simp only [Bool.and_eq_true, Bool.not_eq_true'] at off
      exact k.powerUp _ _ _ _ off.1 (by decide) (k.warmStart _ _ _ (.inl ⟨dt, rfl⟩) (k.pass _ _ p)) (k.pass _ _ p)
    · exact k.stay _ _ (k.pass _ _ p)
  case resetLineAsserted dt image config =>
    cases runs
    split
    · rename_i up; exact k.resetUp _ _ _ _ up (k.pass _ _ p)
    · exact k.resetPin _ _ _ (k.pass _ _ p)
  case resetLineReleased dt =>
    cases runs
    split
    · exact k.lineReleased _ _ (k.pass _ _ p)
    · exact k.stay _ _ (k.pass _ _ p)
  all_goals exact k.request rfl runs p

/-- A property that every operation a command ends in keeps. -/
structure Kept (P : State → Prop) : Prop extends Leads P fun _ => P where
  queue : ∀ s l, P s → P { s with pending := l }

/-- Every step keeps it. -/
theorem Kept.step (k : Kept P) {s t : State} (runs : step s = .next t) (p : P s) : P t := by
  unfold Machine.step at runs
  split at runs
  · cases runs; exact p
  · exact k.exec runs (k.queue _ _ p)

end

/-! ### What the Time Base does at a boundary, a pulse and a step -/

/-- What leads from one property of states to another over a boundary, a pulse or a step of station time: the judgement of a pulse, the
count and the tick keep the first; a step goes from the first to the second; the minute event, the pending slot, the completion of a
switch and a REF failure keep the second. -/
structure LeadsByTime (P Q : State → Prop) : Prop where
  firstPulse : ∀ s, P s →
    P { s with time := { s.time with lastPulse := s.time.clock, anchor := some s.time.clock, goodRun := 0, badRun := 0 } }
  goodPulse : ∀ s qualified, P s → P { s with time := { s.time with
    lastPulse := s.time.clock, anchor := some s.time.clock, goodRun := satSucc 255 s.time.goodRun, badRun := 0, refQualified := qualified } }
  badPulse : ∀ s, P s →
    P { s with time := { s.time with lastPulse := s.time.clock, badRun := satSucc 255 s.time.badRun, goodRun := 0 } }
  autoReturn : ∀ s, s.time.source ≠ .ref → P s → P { s with time := { s.time with target := some .ref } }
  count : ∀ s position aligned, P s → P { s with time := s.time.count s.config.slewStep position aligned }
  scannerTick : ∀ s, P s → P s.scannerTick
  tallyTick : ∀ s, P s → P s.tallyTick
  warningExpiry : ∀ s, P s → P s.warningExpiry
  windowExpiry : ∀ s, P s → P s.windowExpiry
  storeTick : ∀ s, P s → P s.storeTick
  stay : ∀ s, P s → Q s
  step : ∀ s off, s.watch.handover = false → s.time.pendingStep = some off → P s → Q { s with time := s.time.step s.config.slewStep off }
  raise : ∀ s e, Q s → Q (s.raise e)
  present : ∀ s l, Q s → Q { s with time := { s.time with lastPresented := some l } }
  takeMinute : ∀ s t, Q s → Q (s.takeMinute t)
  handlePending : ∀ s, Q s → Q s.handlePending
  completeSwitch : ∀ s, (s.time.target = some .ref → s.time.anchor.isSome = true) → Q s → Q s.completeSwitch
  refFailure : ∀ s, Q s → Q s.refFailure

section
variable {P Q : State → Prop}

/-- A minute event. -/
theorem LeadsByTime.presentMinute (k : LeadsByTime P Q) (s : State) (q : Q s) : Q s.presentMinute := by
  unfold State.presentMinute
  split
  · exact k.takeMinute _ _ (k.present _ _ q)
  · exact q

/-- A step of station time, the new time once set. -/
theorem LeadsByTime.applyStep (k : LeadsByTime P Q) (s : State) (off : Int) (stepped : Q { s with time := s.time.step s.config.slewStep off }) :
    Q (s.applyStep off) :=
  k.presentMinute _ (k.raise _ _ stepped)

/-- The end of a handover handed on. -/
theorem LeadsByTime.endHandover (k : LeadsByTime P Q) (s : State) (free : s.watch.handover = false) (p : P s) : Q s.endHandover := by
  refine k.handlePending _ ?_
  unfold State.handoverSignal
  split
  · exact k.stay s p
  · rename_i off pending
    exact k.applyStep _ _ (k.step s off free pending p)

/-- The completion of a switch at a boundary. -/
theorem LeadsByTime.completeOnBoundary (k : LeadsByTime P Q) (s : State) (q : Q s) : Q s.completeOnBoundary := by
  unfold State.completeOnBoundary
  split
  · rename_i ready
    exact k.completeSwitch s (by simp [ready.1]) q
  · exact q

/-- The second tick. -/
theorem LeadsByTime.tick (k : LeadsByTime P Q) (s : State) (p : P s) : P s.tick :=
  k.storeTick _ (k.windowExpiry _ (k.warningExpiry _ (k.tallyTick _ (k.scannerTick _ p))))

/-- A stranded step. -/
theorem LeadsByTime.strandedStep (k : LeadsByTime P Q) (s : State) (p : P s) : Q s.strandedStep := by
  unfold State.strandedStep
  split
  · rename_i stranded
    simp only [Bool.and_eq_true, Bool.not_eq_true'] at stranded
    exact k.endHandover s stranded.2 p
  · exact k.stay s p

/-- A counted boundary. -/
theorem LeadsByTime.countBoundary (k : LeadsByTime P Q) (s : State) (n : Nat) (aligned : Bool) (p : P s) :
    Q (s.countBoundary n aligned) := by
  have counted := k.count s n aligned p
  unfold State.countBoundary
  dsimp only
  split
  · have stranded := k.strandedStep _ (k.tick _ counted)
    unfold State.presentIfMoved
    split
    · exact stranded
    · exact k.presentMinute _ stranded
  · exact k.stay _ counted

/-- The completion of a switch to REF. -/
theorem LeadsByTime.completeToRef (k : LeadsByTime P Q) (s : State) (anchor : s.time.anchor.isSome = true) (p : P s) :
    Q s.completeToRef := by
  unfold State.completeToRef
  dsimp only
  split
  · exact k.completeSwitch _ (fun _ => by simpa using anchor) (k.countBoundary _ _ _ p)
  · exact k.completeSwitch _ (fun _ => anchor) (k.stay _ p)

/-- A reference pulse. -/
theorem LeadsByTime.pulse (k : LeadsByTime P Q) (s : State) (p : P s) : Q s.pulse := by
  unfold State.pulse
  dsimp only
  split
  · exact k.stay _ (k.firstPulse s p)
  · split
    · unfold State.goodPulse
      dsimp only
      split
      · exact k.completeOnBoundary _ (k.countBoundary _ _ _ (k.goodPulse s _ p))
      · rename_i source
        split
        · exact k.completeToRef _ rfl (k.goodPulse s _ p)
        · split
          · have judged := k.goodPulse s
              (s.time.refQualified || (!s.time.refQualified && decide (s.config.refQualify ≤ satSucc 255 s.time.goodRun))) p
            have begun := k.autoReturn _ (by exact source) judged
            exact k.completeToRef _ rfl begun
          · exact k.stay _ (k.goodPulse s _ p)
    · unfold State.badPulse
      dsimp only
      split
      · exact k.refFailure _ (k.stay _ (k.badPulse s p))
      · exact k.stay _ (k.badPulse s p)

end

/-- A property that the operations of a boundary, a step of station time and a minute event keep, and any change of the Time Base. -/
structure KeptByTime (P : State → Prop) : Prop where
  time : ∀ s τ, P s → P { s with time := τ }
  raise : ∀ s e, P s → P (s.raise e)
  scannerTick : ∀ s, P s → P s.scannerTick
  tallyTick : ∀ s, P s → P s.tallyTick
  warningExpiry : ∀ s, P s → P s.warningExpiry
  windowExpiry : ∀ s, P s → P s.windowExpiry
  storeTick : ∀ s, P s → P s.storeTick
  takeMinute : ∀ s t, P s → P (s.takeMinute t)
  handlePending : ∀ s, P s → P s.handlePending

section
variable {P : State → Prop}

/-- The completion of a switch keeps it. -/
theorem KeptByTime.completeSwitch (k : KeptByTime P) (s : State) (p : P s) : P s.completeSwitch := by
  unfold State.completeSwitch
  split
  · exact p
  · exact k.raise _ _ (k.time _ _ p)

/-- The fall back of a REF failure keeps it. -/
theorem KeptByTime.refFailure (k : KeptByTime P) (s : State) (p : P s) : P s.refFailure := by
  unfold State.refFailure
  dsimp only
  split
  · exact k.raise _ _ (k.time _ _ p)
  · exact k.time _ _ p

/-- What the Time Base does keeps it. -/
theorem KeptByTime.leads (k : KeptByTime P) : LeadsByTime P P where
  firstPulse s := k.time s _
  goodPulse s _ := k.time s _
  badPulse s := k.time s _
  autoReturn s _ := k.time s _
  count s _ _ := k.time s _
  scannerTick := k.scannerTick
  tallyTick := k.tallyTick
  warningExpiry := k.warningExpiry
  windowExpiry := k.windowExpiry
  storeTick := k.storeTick
  stay _ := id
  step s _ _ _ := k.time s _
  raise := k.raise
  present s _ := k.time s _
  takeMinute := k.takeMinute
  handlePending := k.handlePending
  completeSwitch s _ := k.completeSwitch s
  refFailure := k.refFailure

/-- A step of station time keeps it. -/
theorem KeptByTime.applyStep (k : KeptByTime P) (s : State) (off : Int) (p : P s) : P (s.applyStep off) :=
  k.leads.applyStep s off (k.time _ _ p)

/-- A crystal ready event keeps it. -/
theorem KeptByTime.crystalReady (k : KeptByTime P) (s : State) (p : P s) : P s.crystalReady := by
  unfold State.crystalReady
  dsimp only
  repeat' split
  · exact k.completeSwitch _ (k.time _ _ p)
  · exact k.time _ _ p
  · exact k.raise _ _ (k.time _ _ p)
  · exact k.time _ _ p

/-- A crystal stop keeps it. -/
theorem KeptByTime.crystalStop (k : KeptByTime P) (s : State) (p : P s) : P s.crystalStop := by
  unfold State.crystalStop
  dsimp only
  repeat' split
  · exact k.raise _ _ (k.time _ _ p)
  · exact k.time _ _ p
  · exact k.time _ _ p

end

/-- A property that asks nothing of queue, Time Base, pins and port, and that the operations of the other blocks keep. -/
structure KeptAside (P : State → Prop) : Prop where
  aside : ∀ s l τ π φ, P s → P { s with pending := l, time := τ, pins := π, port := φ }
  inject : ∀ s line duration, P s → P (s.inject line duration)
  endTest : ∀ s line, P s → P (s.endTest line)
  acknowledge : ∀ s (k : Fin 48) (r : TripRecord) ack, s.trips.slots[k] = some r → P s → P (s.setTrip k { r with ack := some ack })
  cause : ∀ s (k : Fin 48) (r : TripRecord) code, s.trips.slots[k] = some r → P s → P (s.setTrip k { r with cause := code })
  retire : ∀ s k, P s → P { s with trips := s.trips.retire s.config.lines k }
  markCarries : ∀ s, P s → P { s with trips := s.trips.markCarries }
  openAccount : ∀ s k tag cls interval margin f, s.tally.tagSlot tag = none → P s →
    P (s.openAccount k (openedAccount s.tally.serial tag cls interval margin f))
  bind : ∀ s (k : Fin 24) (a : Account) d (l : LiveFields) u, s.tally.accounts[k] = .held a d → a.live = some l →
    s.tally.boundSlot u l.cls = none → P s → P (s.setAccount k (.held (a.bindTo (some u)) true))
  unbind : ∀ s (k : Fin 24) (a : Account) d, s.tally.accounts[k] = .held a d → P s → P (s.setAccount k (.held (a.bindTo none) true))
  preset : ∀ s (k : Fin 24) (a : Account) d f (o : PresetOptions) (l : LiveFields), s.tally.accounts[k] = .held a d →
    presetLive f o a.live = some l → o.tag.any (s.tally.tagElsewhere k) = false →
    (a.live.any fun m => m.bound.isSome && m.cls != l.cls) = false → P s →
    P (answerEvaluated k { a with figures := f, fraction := 0, live := some l } s).1
  retireAccount : ∀ s k, P s → P (s.setAccount k (.free true))
  serviceDone : ∀ s (k : Fin 24) (a : Account) d (l : LiveFields) due, s.tally.accounts[k] = .held a d → a.live = some l → P s →
    P (answerEvaluated k { a with live := some { l with nextDue := due } } s).1
  trigger : ∀ s, P s → P s.trigger
  roster : ∀ s ρ, P s → P { s with config := { s.config with roster := ρ } }
  item : ∀ s code index value, itemInRange code value = true → s.scannerRefuses code index value = false → P s →
    P { s.enableLine code index value with config := itemSet s.config code index value }
  askConfigWrite : ∀ s, s.store.configWrite = none → P s → P s.askConfigWrite
  checkConfig : ∀ s, P s → P s.checkConfig
  openHandover : ∀ s crew window, crew ≠ 0 → s.watch.state = .onWatch → crew ≠ s.watch.crew → P s →
    P (s.openHandover .unscheduled crew window 0)
  takeWatch : ∀ s crew, crew ≠ 0 → s.watch.state = .noWatch → P s → P (s.takeWatch crew)
  sign : ∀ s crew, crew ≠ 0 → s.watch.state = .opened → P s → P { s with watch := { s.watch with state := .signed, incoming := crew } }
  completed : ∀ s stamp, s.watch.state = .signed → P s →
    P { s.boundary stamp s.watch.crew with watch := (s.boundary stamp s.watch.crew).watch.closeHandover s.watch.incoming }
  aborted : ∀ s, s.watch.handover = true → P s → P { s with watch := s.watch.closeHandover s.watch.crew }
  scannerTick : ∀ s, P s → P s.scannerTick
  tallyTick : ∀ s, P s → P s.tallyTick
  warningExpiry : ∀ s, P s → P s.warningExpiry
  windowExpiry : ∀ s, P s → P s.windowExpiry
  storeTick : ∀ s, P s → P s.storeTick
  takeMinute : ∀ s t, P s → P (s.takeMinute t)
  handlePending : ∀ s, P s → P s.handlePending
  sampleLines : ∀ s levels first, P s → P (s.sampleLines levels first)
  sampleUnits : ∀ s lines, P s → P (s.sampleUnits lines)
  beginFreeze : ∀ s, P s → P s.beginFreeze
  release : ∀ s, P s → P s.credit.releaseWalk
  imageEnd : ∀ s verify, P s → P (s.imageEnd verify)
  configWriteEnd : ∀ s verify, P s → P (s.configWriteEnd verify)
  stopStore : ∀ s image config, P s → P (s.stopStore image config)
  coldStart : ∀ s, P s → P s.coldStart
  warmStart : ∀ s, P s → P s.warmStart
  resetStart : ∀ s, P s → P s.resetStart

section
variable {P : State → Prop}

/-- It holds of a state whose other blocks are those of a state that has it. -/
theorem KeptAside.of_blocks (k : KeptAside P) {s : State} (t : State) (p : P s)
    (same : t = { s with pending := t.pending, time := t.time, pins := t.pins, port := t.port }) : P t := by
  rw [same]; exact k.aside s _ _ _ _ p

theorem KeptAside.time (k : KeptAside P) (s : State) (τ : TimeBase) (p : P s) : P { s with time := τ } := k.of_blocks _ p rfl
theorem KeptAside.pins (k : KeptAside P) (s : State) (π : Pins) (p : P s) : P { s with pins := π } := k.of_blocks _ p rfl
theorem KeptAside.port (k : KeptAside P) (s : State) (φ : Port) (p : P s) : P { s with port := φ } := k.of_blocks _ p rfl

/-- Raising conditions keeps it. -/
theorem KeptAside.raise (k : KeptAside P) (s : State) (e : Event) (p : P s) : P (s.raise e) := by
  unfold State.raise State.raiseWord
  split
  · exact k.port _ _ p
  · exact p

/-- What the Time Base does keeps it. -/
theorem KeptAside.byTime (k : KeptAside P) : KeptByTime P where
  time := k.time
  raise := k.raise
  scannerTick := k.scannerTick
  tallyTick := k.tallyTick
  warningExpiry := k.warningExpiry
  windowExpiry := k.windowExpiry
  storeTick := k.storeTick
  takeMinute := k.takeMinute
  handlePending := k.handlePending

/-- A completion keeps it (R151). -/
theorem KeptAside.complete (k : KeptAside P) (s : State) (signed : s.watch.state = .signed) (p : P s) : P s.complete :=
  k.byTime.leads.endHandover _ rfl (k.completed s s.stamp signed p)

/-- An item put in force keeps it (R175). -/
theorem KeptAside.putItem (k : KeptAside P) (s : State) (code index : Nat) (value : Int)
    (inRange : itemInRange code value = true) (scanner : s.scannerRefuses code index value = false) (p : P s) :
    P (s.putItem code index value) := by
  have item := k.item s code index value inRange scanner p
  unfold State.putItem
  dsimp only
  split
  · exact k.byTime.leads.presentMinute _ (by split <;> exact k.of_blocks _ item rfl)
  · split <;> exact k.of_blocks _ item rfl

/-- The effect of a request keeps it. -/
theorem KeptAside.effect (k : KeptAside P) {ends : Prop} {c : Caller} {s t : State} (e : Effect ends c s t) (p : P s) : P t := by
  cases e with
  | withdraw => exact k.time s _ p
  | selectRc => exact k.raise _ _ (k.time s _ p)
  | beginSwitch => exact k.time s _ p
  | slew => exact k.time s _ p
  | hold => exact k.time s _ p
  | stepNow => exact k.byTime.applyStep s _ p
  | inject => exact k.inject s _ _ p
  | endTest => exact k.endTest s _ p
  | acknowledge _ _ held => exact k.acknowledge s _ _ _ held p
  | cause _ _ _ held => exact k.cause s _ _ _ held p
  | retire => exact k.retire s _ p
  | openAccount _ _ _ _ _ _ new => exact k.openAccount s _ _ _ _ _ _ new p
  | bind _ _ _ _ _ held live free => exact k.bind s _ _ _ _ _ held live free p
  | unbind _ _ _ held => exact k.unbind s _ _ _ held p
  | preset _ _ _ _ _ _ held live new kept => exact k.preset s _ _ _ _ _ _ held live new kept p
  | retireAccount => exact k.retireAccount s _ p
  | serviceDone _ _ _ _ held live => exact k.serviceDone s _ _ _ _ _ held live p
  | checkpoint => exact k.trigger s p
  | roster _ _ idle => exact k.askConfigWrite _ idle (k.roster s _ p)
  | openHandover crew watch other => exact k.openHandover s _ _ crew watch other p
  | takeWatch crew watch => exact k.takeWatch s _ crew watch p
  | sign crew watch incoming =>
    have signed := k.sign s _ crew watch p
    rwa [incoming] at signed
  | replace crew watch => exact k.sign s _ crew watch p
  | complete _ watch => exact k.complete s watch p
  | carry _ watch => exact k.complete _ watch (k.markCarries s p)
  | abort _ handover => exact k.byTime.leads.endHandover _ rfl (k.aborted s handover p)
  | clear => exact k.port s _ p
  | mask => exact k.port s _ p
  | configure code index value _ inRange _ scanner idle =>
    exact k.askConfigWrite _ (by rw [State.putItem_store]; exact idle) (k.putItem s _ _ _ inRange scanner p)
  | checkConfig => exact k.checkConfig s p

/-- Such a property is kept by every operation. -/
theorem KeptAside.kept (k : KeptAside P) : Kept P where
  queue _ _ p := k.of_blocks _ p rfl
  pass s _ p := k.time s _ p
  shiftOut s _ p := k.port s _ p
  freed s _ p := k.port s _ p
  setWarning s _ p := k.pins s _ p
  stay _ _ p := p
  place _ s _ _ p := k.port s _ p
  reserve _ _ t _ _ _ _ p := k.port t _ p
  effect _ _ _ _ _ e p := k.effect e p
  frameError _ s _ p := k.raise s _ p
  pulse _ s _ p := k.byTime.leads.pulse s p
  absence s _ _ p := k.byTime.refFailure _ (k.time s _ p)
  flywheel s _ _ _ _ p := k.byTime.leads.completeOnBoundary _ (k.byTime.leads.countBoundary _ _ _ (k.time s _ p))
  second s _ _ p := k.byTime.leads.completeOnBoundary _ (k.byTime.leads.countBoundary _ _ _ (k.time s _ p))
  backup s _ p := k.time s _ p
  scannerTick s _ p := k.scannerTick s p
  storeTick s _ p := k.storeTick s p
  warningExpiry s _ p := k.warningExpiry s p
  windowExpiry s _ p := k.windowExpiry s p
  crystalReady _ s _ p := k.byTime.crystalReady s p
  crystalStop _ s p := k.byTime.crystalStop s p
  sampleLines _ s levels first _ p := k.sampleLines s levels first p
  sampleUnits _ s lines _ p := k.sampleUnits s lines p
  beginFreeze _ s _ _ p := k.beginFreeze s p
  release _ s _ _ p := k.release s p
  imageEnd _ s verify _ p := k.imageEnd s verify p
  configWriteEnd _ s verify _ p := k.configWriteEnd s verify p
  powerLost _ s image config _ p := k.of_blocks _ (k.stopStore s image config p) rfl
  loseMain _ s _ _ _ p := k.pins s _ p
  loseBackup _ s p := k.pins s _ p
  waits _ s _ _ _ p := k.pins s _ p
  coldStart _ s _ _ p := k.coldStart _ (k.pins s _ p)
  warmStart _ s _ _ p := k.warmStart _ (k.pins s _ p)
  resetStart _ s _ p := k.resetStart s p
  resetUp _ s image config _ p := k.of_blocks _ (k.stopStore s image config p) rfl
  resetPin _ s _ p := k.pins s _ p

end

end Sys2Proof.Machine
end

section
/-! The table of watch states (R142): each operation of the Watch Controller keeps it, and so does every step (O54). -/

namespace Sys2Proof.Safety

open Sys2Proof Sys2Proof.Machine

/-- A crew on watch in ON_WATCH (R142). -/
theorem WatchLaw.crew_of_onWatch {w : Watch} (law : WatchLaw w) (state : w.state = .onWatch) : w.crew ≠ 0 := (law.2.1 state).1

/-- The handover in flight in OPENED and SIGNED (R142). -/
theorem WatchLaw.inFlight {w : Watch} (law : WatchLaw w) (state : w.state = .opened ∨ w.state = .signed) : HandoverInFlight w := by
  obtain ⟨-, -, opened, signed⟩ := law
  exact state.elim (fun h => (opened h).1) signed

/-- An opening from ON_WATCH for another crew keeps the table (R147). -/
theorem WatchLaw.open' {w : Watch} (law : WatchLaw w) (state : w.state = .onWatch) {crew : Fin 16} (some : crew ≠ 0)
    (other : crew ≠ w.crew) (origin : Origin) (window warning elapsed : Nat) : WatchLaw (w.open' origin crew window warning elapsed) := by
  have onWatch := law.crew_of_onWatch state
  simp [WatchLaw, HandoverInFlight, Watch.open', onWatch, some, other]

/-- A handover closed for a crew leaves that crew on watch with none in flight (R151, R153). -/
theorem WatchLaw.closeHandover (w : Watch) {crew : Fin 16} (some : crew ≠ 0) : WatchLaw (w.closeHandover crew) := by
  simp [WatchLaw, NoHandover, Watch.closeHandover, some]

/-- A sign-on to the handover in flight keeps the table (R149). -/
theorem WatchLaw.sign {w : Watch} (law : WatchLaw w) (state : w.state = .opened) {crew : Fin 16} (some : crew ≠ 0) :
    WatchLaw { w with state := .signed, incoming := crew } := by
  obtain ⟨onWatch, -, origin, window, openedAt⟩ := law.inFlight (.inl state)
  simp [WatchLaw, HandoverInFlight, onWatch, some, origin, window, openedAt]

/-- The watch taken from NO_WATCH keeps the table (R149). -/
theorem WatchLaw.take {w : Watch} (law : WatchLaw w) (state : w.state = .noWatch) {crew : Fin 16} (some : crew ≠ 0) :
    WatchLaw { w with crew := crew, state := .onWatch } := by
  obtain ⟨-, none⟩ := law.1 state
  exact ⟨nofun, fun _ => ⟨some, none⟩, nofun, nofun⟩

/-- A warning deadline that expires keeps the table (R155). -/
theorem WatchLaw.warningExpired {w : Watch} (law : WatchLaw w) : WatchLaw { w with warningDeadline := none } := by
  obtain ⟨noWatch, onWatch, opened, signed⟩ := law
  refine ⟨fun h => ?_, fun h => ?_, opened, signed⟩
  · obtain ⟨crew, a, b, c, d, -, e⟩ := noWatch h
    exact ⟨crew, a, b, c, d, rfl, e⟩
  · obtain ⟨crew, a, b, c, d, -, e⟩ := onWatch h
    exact ⟨crew, a, b, c, d, rfl, e⟩

/-- A window deadline that stands and expires keeps the table: a handover is in flight (R155). -/
theorem WatchLaw.windowExpired {w : Watch} (law : WatchLaw w) (stands : w.windowDeadline ≠ none) :
    WatchLaw { w with windowDeadline := none, overdue := true } := by
  obtain ⟨noWatch, onWatch, opened, signed⟩ := law
  refine ⟨fun h => ?_, fun h => ?_, opened, signed⟩
  · obtain ⟨-, -, -, -, -, -, none, -⟩ := noWatch h
    exact absurd none stands
  · obtain ⟨-, -, -, -, -, -, none, -⟩ := onWatch h
    exact absurd none stands

end Sys2Proof.Safety

namespace Sys2Proof.Machine

open Sys2Proof Sys2Proof.Claim Sys2Proof.Safety

/-- Watch and law after the last slot outcome is set. -/
theorem State.slotOutcome_watchLaw (i : Fin 6) (day : Int) (r : SlotResult) (s : State) (law : WatchLaw s.watch) :
    WatchLaw (s.slotOutcome i day r).watch :=
  law

/-- A slot that becomes the pending slot keeps the table. -/
theorem State.makePending_watchLaw (i : Fin 6) (s : State) (law : WatchLaw s.watch) : WatchLaw (s.makePending i).watch := by
  unfold State.makePending
  split
  · exact law
  · rw [State.raise_watch]
    exact law

/-- A handover opened from ON_WATCH keeps the table. -/
theorem State.openHandover_watchLaw (origin : Origin) {crew : Fin 16} (window warning : Nat) (s : State) (law : WatchLaw s.watch)
    (state : s.watch.state = .onWatch) (some : crew ≠ 0) (other : crew ≠ s.watch.crew) :
    WatchLaw (s.openHandover origin crew window warning).watch := by
  unfold State.openHandover
  rw [State.raise_watch]
  exact law.open' state some other origin window warning _

/-- A used slot that starts keeps the table (R145). -/
theorem State.takeSlot_watchLaw (i : Fin 6) (day : Int) (s : State) (used : s.config.roster[i].crew ≠ 0) (law : WatchLaw s.watch) :
    WatchLaw (s.takeSlot i day).watch := by
  unfold State.takeSlot
  dsimp only
  split
  · exact State.slotOutcome_watchLaw _ _ _ _ law
  · rename_i state
    split
    · exact State.slotOutcome_watchLaw _ _ _ _ law
    · rename_i other
      exact State.slotOutcome_watchLaw _ _ _ _ (State.openHandover_watchLaw _ _ _ _ law state used other)
  · exact State.slotOutcome_watchLaw _ _ _ _ (State.makePending_watchLaw _ _ law)
  · exact State.slotOutcome_watchLaw _ _ _ _ (State.makePending_watchLaw _ _ law)

/-- A slot in its turn keeps the table. -/
theorem State.trySlot_watchLaw (t : LocalTime) (i : Fin 6) (s : State) (law : WatchLaw s.watch) : WatchLaw (s.trySlot t i).watch := by
  by_cases starts : s.slotStarts t i = true
  · rw [State.trySlot_of_starts starts]
    obtain ⟨used, -⟩ := (State.slotStarts_iff t s i).mp starts
    exact State.takeSlot_watchLaw i t.day _ used law
  · rwa [State.trySlot_of_not_starts starts]

/-- What each step of a fold keeps, the fold keeps. -/
theorem foldl_keeps_of {α : Type} {P : State → Prop} (f : State → α → State) (keeps : ∀ s a, P s → P (f s a)) (l : List α) (s : State)
    (p : P s) : P (l.foldl f s) := by
  induction l generalizing s with
  | nil => exact p
  | cons a l ih => exact ih _ (keeps s a p)

/-- A minute event keeps the table (R144). -/
theorem State.takeMinute_watchLaw (t : LocalTime) (s : State) (law : WatchLaw s.watch) : WatchLaw (s.takeMinute t).watch := by
  unfold State.takeMinute
  split
  · exact foldl_keeps_of (P := fun s => WatchLaw s.watch) _ (fun s i => State.trySlot_watchLaw t i s) _ s law
  · exact law

/-- The pending slot handled keeps the table (R146). -/
theorem State.handlePending_watchLaw (s : State) (law : WatchLaw s.watch) : WatchLaw s.handlePending.watch := by
  have freed : WatchLaw { s.watch with pendingSlot := none } := law
  unfold State.handlePending
  split
  · exact law
  · dsimp only
    split
    · exact State.slotOutcome_watchLaw _ _ _ _ freed
    · rename_i used
      exact State.takeSlot_watchLaw _ _ _ used freed

/-- The warning deadline's expiry keeps the table. -/
theorem State.warningExpiry_watchLaw (s : State) (law : WatchLaw s.watch) : WatchLaw s.warningExpiry.watch := by
  unfold State.warningExpiry
  split
  · rw [State.raise_watch]
    exact law.warningExpired
  · exact law

/-- The window deadline's expiry keeps the table. -/
theorem State.windowExpiry_watchLaw (s : State) (law : WatchLaw s.watch) : WatchLaw s.windowExpiry.watch := by
  unfold State.windowExpiry
  split
  · rename_i due
    exact law.windowExpired fun none => by simp [none, reached] at due
  · exact law

/-- A shift boundary keeps the table. -/
theorem State.boundary_watchLaw (stamp : Stamp) (crew : Fin 16) (s : State) (law : WatchLaw s.watch) :
    WatchLaw (s.boundary stamp crew).watch := by
  unfold State.boundary
  rw [State.trigger_watch]
  exact law

/-- The taking up of the watch at a start keeps the table (R160). -/
theorem State.takeUpWatch_watchLaw (s : State) (law : WatchLaw s.watch) : WatchLaw s.takeUpWatch.watch := by
  have expired : WatchLaw s.watchTick.watch := State.windowExpiry_watchLaw _ (State.warningExpiry_watchLaw _ law)
  unfold State.takeUpWatch
  dsimp only
  split
  · exact State.handlePending_watchLaw _ expired
  · exact expired

@[simp] theorem State.foundWarning_watch (s : State) : s.foundWarning.watch = s.watch := by unfold State.foundWarning; split <;> rfl

/-- A start that takes retained state up keeps the table. -/
theorem State.resume_watchLaw (gap : Nat) (keep : Bool) (s : State) (law : WatchLaw s.watch) : WatchLaw (s.resume gap keep).watch := by
  unfold State.resume
  simp only [State.startTrigger_watch, State.foundWarning_watch, State.raise_watch]
  refine State.takeUpWatch_watchLaw _ ?_
  rw [State.checkImages_watch]
  split <;> simpa using law

/-- The watch after a cold start meets the table (R159). -/
theorem State.coldStart_watchLaw (s : State) : WatchLaw s.coldStart.watch := by
  unfold State.coldStart
  simp only [State.startTrigger_watch, State.foundWarning_watch, State.raiseWord_watch, State.raise_watch, State.startPort_watch]
  simp [State.coldWatch, WatchLaw, NoHandover]

@[simp] theorem State.enableLine_watch (code index : Nat) (value : Int) (s : State) : (s.enableLine code index value).watch = s.watch := by
  unfold State.enableLine
  repeat' split
  all_goals rfl

/-- The table of watch states is kept by every operation: only those of the Watch Controller touch it. -/
theorem watchLaw_kept : KeptAside fun s => WatchLaw s.watch where
  aside _ _ _ _ _ law := law
  inject s line duration law := by simpa [State.inject] using law
  endTest _ _ law := law
  acknowledge _ _ _ _ _ law := law
  cause _ _ _ _ _ law := law
  retire _ _ law := law
  markCarries _ law := law
  openAccount _ _ _ _ _ _ _ _ law := by simpa [State.openAccount] using law
  bind _ _ _ _ _ _ _ _ _ law := law
  unbind _ _ _ _ _ law := law
  preset _ _ _ _ _ _ _ _ _ _ _ law := by simpa [answerEvaluated, answer] using law
  retireAccount _ _ law := law
  serviceDone _ _ _ _ _ _ _ _ law := by simpa [answerEvaluated, answer] using law
  trigger s law := by simpa using law
  roster _ _ law := law
  item s code index value _ _ law := by simpa using law
  askConfigWrite s _ law := by simpa using law
  checkConfig s law := by simpa using law
  openHandover s crew window some state other law := State.openHandover_watchLaw _ _ _ s law state some other
  takeWatch s crew some state law := State.boundary_watchLaw _ _ _ (law.take state some)
  sign s crew some state law := law.sign state some
  completed s stamp signed law := WatchLaw.closeHandover _ (law.inFlight (.inr signed)).2.1
  aborted s handover law := by
    refine WatchLaw.closeHandover _ (law.inFlight ?_).1
    simpa [Watch.handover] using handover
  scannerTick s law := by simpa using law
  tallyTick s law := by simpa using law
  warningExpiry := State.warningExpiry_watchLaw
  windowExpiry := State.windowExpiry_watchLaw
  storeTick s law := by simpa using law
  takeMinute s t law := State.takeMinute_watchLaw t s law
  handlePending := State.handlePending_watchLaw
  sampleLines s levels first law := by simpa using law
  sampleUnits s lines law := by simpa using law
  beginFreeze s law := by simpa using law
  release s law := by simpa using law
  imageEnd s verify law := by simpa using law
  configWriteEnd s verify law := by simpa using law
  stopStore s image config law := by simpa using law
  coldStart s _ := s.coldStart_watchLaw
  warmStart s law := State.resume_watchLaw _ _ _ (by simpa using law)
  resetStart s law := State.resume_watchLaw _ _ _ (by simpa using law)

end Sys2Proof.Machine

namespace Sys2Proof.Proofs

open Sys2Proof Sys2Proof.Machine

/-- Settles O54: every operation keeps the table of watch states. -/
theorem watchLawIsKept : Obligations.WatchLawIsKept := fun _ _ runs law => watchLaw_kept.kept.step runs law

end Sys2Proof.Proofs
end

section
/-! The laws of the Trip Table (R56, R66): each operation of the table keeps them, and so does every step (O55). -/

namespace Sys2Proof.Machine

/-- What a vector holds after one of its places is set. -/
theorem getElem_set_fin {α : Type} {n : Nat} (v : Vector α n) (i j : Fin n) (x : α) :
    (v.set i x)[j] = if i = j then x else v[j] := by
  by_cases h : i = j
  · subst h; simp
  · have ne : i.val ≠ j.val := fun e => h (Fin.ext e)
    simp [h, ne]

end Sys2Proof.Machine

namespace Sys2Proof.Safety

open Sys2Proof Sys2Proof.Machine

/-- A table whose records and entries are those of a lawful table on the same lines, with no record newly live and no slot newly free,
is lawful. -/
theorem TripLaw.of_same_lines {t u : TripTable} (law : TripLaw t)
    (records : ∀ (i : Fin 48) (q : TripRecord), u.slots[i] = some q →
      ∃ r, t.slots[i] = some r ∧ r.line = q.line ∧ (q.isLive = true → r.isLive = true))
    (occupied : ∀ i : Fin 48, t.slots[i].isSome = true → u.slots[i].isSome = true)
    (entries : u.pendingList.map PendingEntry.line = t.pendingList.map PendingEntry.line) : TripLaw u := by
  obtain ⟨one, apart, nodup, full⟩ := law
  refine ⟨fun i j r q hi hj liveR liveQ same => ?_, fun i r e hi live mem same => ?_, entries ▸ nodup, fun some i => ?_⟩
  · obtain ⟨r', hr, lineR, backR⟩ := records i r hi
    obtain ⟨q', hq, lineQ, backQ⟩ := records j q hj
    exact one i j r' q' hr hq (backR liveR) (backQ liveQ) (by rw [lineR, lineQ, same])
  · obtain ⟨r', hr, lineR, backR⟩ := records i r hi
    have listed : e.line ∈ t.pendingList.map PendingEntry.line := entries ▸ List.mem_map_of_mem mem
    obtain ⟨e', mem', lineE⟩ := List.mem_map.mp listed
    exact apart i r' e' hr (backR live) mem' (by rw [lineR, same, lineE])
  · refine occupied i (full (fun none => some ?_) i)
    have lines : u.pendingList.map PendingEntry.line = [] := by rw [entries, none]; rfl
    exact List.map_eq_nil_iff.mp lines

/-- A record replaced by one of the same line, not newly live, keeps the laws. -/
theorem TripLaw.setRecord {t : TripTable} (law : TripLaw t) {k : Fin 48} {r q : TripRecord} (held : t.slots[k] = some r)
    (line : r.line = q.line) (live : q.isLive = true → r.isLive = true) : TripLaw { t with slots := t.slots.set k (some q) } := by
  refine law.of_same_lines (fun i p hp => ?_) (fun i hi => ?_) rfl
  · rw [getElem_set_fin] at hp
    split at hp
    · rename_i same
      subst same
      cases hp
      exact ⟨r, held, line, live⟩
    · exact ⟨p, hp, rfl, id⟩
  · rw [getElem_set_fin]
    split
    · rfl
    · exact hi

/-- Entries amended on their lines keep the laws. -/
theorem TripLaw.mapEntries {t : TripTable} (law : TripLaw t) (f : PendingEntry → PendingEntry) (line : ∀ e, (f e).line = e.line) :
    TripLaw { t with pendingList := t.pendingList.map f } := by
  refine law.of_same_lines (fun i p hp => ⟨p, hp, rfl, id⟩) (fun i hi => hi) ?_
  rw [List.map_map]
  exact List.map_congr_left fun e _ => line e

/-- A lawful table with a free slot lists no entry (R66). -/
theorem TripLaw.empty_of_free {t : TripTable} (law : TripLaw t) {k : Fin 48} (free : t.slots[k] = none) : t.pendingList = [] := by
  by_contra some
  have occupied := law.2.2.2 some k
  rw [free] at occupied
  cases occupied

/-- A record on a line without a live item fills a free slot lawfully (R58). -/
theorem TripLaw.fillSlot {t : TripTable} (law : TripLaw t) {k : Fin 48} (free : t.slots[k] = none) (q : TripRecord) (serial : Word16)
    (none : t.liveSlot q.line = none) : TripLaw { t with slots := t.slots.set k (some q), serial := serial } := by
  have noLive := (TripTable.liveSlot_none t q.line).mp none
  have empty := law.empty_of_free free
  obtain ⟨one, -, -, -⟩ := law
  refine ⟨fun i j r p hi hj liveR liveP same => ?_, fun i r e _ _ mem => ?_, ?_, fun some => absurd empty some⟩
  · simp only [getElem_set_fin] at hi hj
    split at hi <;> split at hj
    · exact (‹k = i›).symm.trans ‹k = j›
    · cases hi
      have := noLive j p hj same.symm
      simp [this] at liveP
    · cases hj
      have := noLive i r hi same
      simp [this] at liveR
    · exact one i j r p hi hj liveR liveP same
  · rw [empty] at mem
    cases mem
  · simp [empty]

/-- An entry is placed somewhere in the list (R65). -/
theorem insertEntry_perm (now : BitVec 8) (e : PendingEntry) (l : List PendingEntry) : (insertEntry now e l).Perm (e :: l) := by
  induction l with
  | nil => exact .refl _
  | cons x xs ih =>
    unfold insertEntry
    split
    · exact (ih.cons x).trans (.swap e x xs)
    · exact .refl _

/-- An entry on a line without a live item, while all slots are occupied, is listed lawfully (R59). -/
theorem TripLaw.addEntry {t : TripTable} (law : TripLaw t) (now : BitVec 8) (e : PendingEntry) (none : t.liveSlot e.line = none)
    (unlisted : ∀ x ∈ t.pendingList, x.line ≠ e.line) (full : t.freeSlot = .none) :
    TripLaw { t with pendingList := insertEntry now e t.pendingList } := by
  have noLive := (TripTable.liveSlot_none t e.line).mp none
  have perm := insertEntry_perm now e t.pendingList
  obtain ⟨one, apart, nodup, -⟩ := law
  refine ⟨one, fun i r x hi live mem same => ?_, ?_, fun _ => (TripTable.freeSlot_none t).mp full⟩
  · rcases List.mem_cons.mp (perm.mem_iff.mp mem) with rfl | listed
    · have := noLive i r hi same
      simp [this] at live
    · exact apart i r x hi live listed same
  · rw [(perm.map _).nodup_iff, List.map_cons, List.nodup_cons]
    refine ⟨fun mem => ?_, nodup⟩
    obtain ⟨x, listed, line⟩ := List.mem_map.mp mem
    exact unlisted x listed line

/-- What the table makes of an assertion keeps the laws (R58 to R62). -/
theorem TripLaw.assertion {t : TripTable} (law : TripLaw t) (lines : Vector LineConfig 32) (now : BitVec 8) (a : Assertion) :
    TripLaw (t.assertion lines now a) := by
  unfold TripTable.assertion
  split
  · rename_i k live
    obtain ⟨r, held, line, isLive⟩ := t.liveSlot_some a.line k live
    rw [held]
    exact law.setRecord held rfl fun _ => isLive
  · rename_i none
    split
    · refine law.mapEntries _ fun e => ?_
      split <;> rfl
    · rename_i unlisted
      have apart : ∀ x ∈ t.pendingList, x.line ≠ a.line := by simpa using unlisted
      split
      · rename_i k free
        refine law.fillSlot ?_ (newRecord t.serial lines[a.line] a) _ none
        simpa using List.find?_some free
      · rename_i full
        exact law.addEntry now (newEntry a) none apart full

/-- What the table makes of a release keeps the laws (R63, R64). -/
theorem TripLaw.releaseLine {t : TripTable} (law : TripLaw t) (line : Fin 32) (stamp : Stamp) : TripLaw (t.releaseLine line stamp) := by
  unfold TripTable.releaseLine
  split
  · rename_i k live
    obtain ⟨r, held, _, isLive⟩ := t.liveSlot_some line k live
    rw [held]
    exact law.setRecord held rfl fun _ => isLive
  · refine law.mapEntries _ fun e => ?_
    split <;> rfl

/-- A slot freed, and filled from the head of the pending list, keeps the laws (R70, R71). -/
theorem TripLaw.retire {t : TripTable} (law : TripLaw t) (lines : Vector LineConfig 32) (k : Fin 48) : TripLaw (t.retire lines k) := by
  obtain ⟨one, apart, nodup, full⟩ := law
  unfold TripTable.retire
  split
  · rename_i empty
    refine ⟨fun i j r q hi hj => ?_, fun i r e _ _ mem => ?_, nodup, fun some => absurd empty some⟩
    · simp only [getElem_set_fin] at hi hj
      split at hi <;> split at hj
      · cases hi
      · cases hi
      · cases hj
      · exact one i j r q hi hj
    · rw [show t.pendingList = [] from empty] at mem
      cases mem
  · rename_i e rest list
    rw [list] at apart nodup full
    rw [List.map_cons, List.nodup_cons] at nodup
    obtain ⟨unlisted, nodup⟩ := nodup
    refine ⟨fun i j r q hi hj liveR liveQ same => ?_, fun i r x hi live mem same => ?_, nodup, fun _ i => ?_⟩
    · simp only [getElem_set_fin] at hi hj
      split at hi <;> split at hj
      · exact (‹k = i›).symm.trans ‹k = j›
      · cases hi
        exact absurd same.symm (apart j q e hj liveQ List.mem_cons_self)
      · cases hj
        exact absurd same (apart i r e hi liveR List.mem_cons_self)
      · exact one i j r q hi hj liveR liveQ same
    · simp only [getElem_set_fin] at hi
      split at hi
      · cases hi
        exact unlisted (List.mem_map.mpr ⟨x, mem, same.symm⟩)
      · exact apart i r x hi live (List.mem_cons_of_mem e mem) same
    · rw [getElem_set_fin]
      split
      · rfl
      · exact full (by simp) i

/-- Marking carries keeps the laws (R73). -/
theorem TripLaw.markCarries {t : TripTable} (law : TripLaw t) : TripLaw t.markCarries := by
  refine law.of_same_lines (fun i q hq => ?_) (fun i hi => ?_) ?_
  · simp only [TripTable.markCarries, Fin.getElem_fin, Vector.getElem_ofFn, Option.map_eq_some_iff] at hq
    obtain ⟨r, held, rfl⟩ := hq
    exact ⟨r, held, by split <;> rfl, fun live => by split at live <;> exact live⟩
  · simpa [TripTable.markCarries] using hi
  · simp only [TripTable.markCarries, List.map_map]
    rfl

/-- An empty table is lawful. -/
theorem TripLaw.empty (serial : Word16) : TripLaw { slots := Vector.replicate 48 none, pendingList := [], serial := serial } := by
  refine ⟨fun i j r q hi => ?_, fun i r e hi => ?_, List.nodup_nil, fun some => absurd rfl some⟩ <;> simp at hi

end Sys2Proof.Safety

namespace Sys2Proof.Machine

open Sys2Proof Sys2Proof.Claim Sys2Proof.Safety

/-- An assertion taken keeps the laws. -/
theorem State.takeAssertion_tripLaw (a : Assertion) (s : State) (law : TripLaw s.trips) : TripLaw (s.takeAssertion a).trips := by
  unfold State.takeAssertion
  rw [State.raise_trips]
  exact law.assertion _ _ _

/-- An event of a line handed on keeps the laws (R43). -/
theorem State.handOn_tripLaw (line : Fin 32) (e : LineEvent) (s : State) (law : TripLaw s.trips) : TripLaw (s.handOn line e).trips := by
  unfold State.handOn
  split
  · dsimp only
    rw [State.reportTrip_trips]
    exact State.takeAssertion_tripLaw _ _ law
  · exact law.releaseLine _ _

/-- One line sampled in its turn keeps the laws. -/
theorem State.sampleOne_tripLaw (stamp : Stamp) (levels : Vector Bool 32) (line : Fin 32) (s : State) (law : TripLaw s.trips) :
    TripLaw (s.sampleOne stamp levels line).trips := by
  unfold State.sampleOne
  dsimp only
  repeat' split
  · exact State.handOn_tripLaw _ _ _ law
  · exact law
  · exact law

/-- Test injections ended keep the laws (R47). -/
theorem State.endTests_tripLaw (due : TestInjection → Bool) (s : State) (law : TripLaw s.trips) : TripLaw (s.endTests due).trips := by
  refine foldl_keeps_of (P := fun s => TripLaw s.trips) _ (fun s i law => ?_) _ s law
  split
  · exact law.releaseLine _ _
  · exact law

@[simp] theorem State.foundWarning_trips (s : State) : s.foundWarning.trips = s.trips := by unfold State.foundWarning; split <;> rfl

/-- A start that takes retained state up keeps the laws. -/
theorem State.resume_tripLaw (gap : Nat) (keep : Bool) (s : State) (law : TripLaw s.trips) : TripLaw (s.resume gap keep).trips := by
  have lines : TripLaw s.takeUpLines.trips := State.endTests_tripLaw _ _ law
  unfold State.resume
  simp only [State.startTrigger_trips, State.foundWarning_trips, State.raise_trips, State.takeUpWatch_trips, State.checkImages_trips]
  split <;> simpa using lines

@[simp] theorem State.coldConfig_trips (s : State) : s.coldConfig.trips = s.trips := by unfold State.coldConfig; split <;> rfl
@[simp] theorem State.coldTallies_trips (s : State) : s.coldTallies.1.trips = s.trips := rfl

/-- The table after a cold start is empty (R76). -/
theorem State.coldStart_tripLaw (s : State) : TripLaw s.coldStart.trips := by
  unfold State.coldStart
  simp only [State.startTrigger_trips, State.foundWarning_trips, State.raiseWord_trips, State.raise_trips, State.startPort_trips,
    State.coldWatch_trips, State.coldTallies_trips]
  exact TripLaw.empty 0

/-- A line enabled or disabled leaves the table. -/
@[simp] theorem State.enableLine_trips (code index : Nat) (value : Int) (s : State) : (s.enableLine code index value).trips = s.trips := by
  unfold State.enableLine
  repeat' split
  all_goals rfl

/-- The laws of the Trip Table are kept by every operation. -/
theorem tripLaw_kept : KeptAside fun s => TripLaw s.trips where
  aside _ _ _ _ _ law := law
  inject s line duration law := State.takeAssertion_tripLaw _ _ law
  endTest _ _ law := law.releaseLine _ _
  acknowledge _ _ _ _ held law := law.setRecord held rfl (by simp only [TripRecord.isLive_iff]; grind)
  cause _ _ _ _ held law := law.setRecord held rfl id
  retire _ _ law := law.retire _ _
  markCarries _ law := law.markCarries
  openAccount _ _ _ _ _ _ _ _ law := by simpa [State.openAccount] using law
  bind _ _ _ _ _ _ _ _ _ law := law
  unbind _ _ _ _ _ law := law
  preset _ _ _ _ _ _ _ _ _ _ _ law := by simpa [answerEvaluated, answer] using law
  retireAccount _ _ law := law
  serviceDone _ _ _ _ _ _ _ _ law := by simpa [answerEvaluated, answer] using law
  trigger s law := by simpa using law
  roster _ _ law := law
  item s code index value _ _ law := by simpa using law
  askConfigWrite s _ law := by simpa using law
  checkConfig s law := by simpa using law
  openHandover s crew window _ _ _ law := by simpa using law
  takeWatch s crew _ _ law := by simpa using law
  sign _ _ _ _ law := law
  completed s stamp _ law := by simpa using law
  aborted _ _ law := law
  scannerTick s law := State.endTests_tripLaw _ s law
  tallyTick s law := by simpa using law
  warningExpiry s law := by simpa using law
  windowExpiry s law := by simpa using law
  storeTick s law := by simpa using law
  takeMinute s t law := by simpa using law
  handlePending s law := by simpa using law
  sampleLines s levels first law := foldl_keeps_of _ (fun s i => State.sampleOne_tripLaw _ _ i s) _ s law
  sampleUnits s lines law := by simpa using law
  beginFreeze s law := by simpa using law
  release s law := by simpa using law
  imageEnd s verify law := by simpa using law
  configWriteEnd s verify law := by simpa using law
  stopStore s image config law := by simpa using law
  coldStart s _ := s.coldStart_tripLaw
  warmStart s law := State.resume_tripLaw _ _ _ (by simpa using law)
  resetStart s law := State.resume_tripLaw _ _ _ (by simpa using law)

end Sys2Proof.Machine

namespace Sys2Proof.Proofs

open Sys2Proof Sys2Proof.Machine

/-- Settles O55: every operation keeps the laws of the Trip Table. -/
theorem tripLawIsKept : Obligations.TripLawIsKept := fun _ _ runs law => tripLaw_kept.kept.step runs law

end Sys2Proof.Proofs
end

section
/-! The laws of the account table (R99, R103): each operation of the Tally Engine keeps them, and so does every step (O56). -/

namespace Sys2Proof.Machine

/-- What the laws of the account table read of an account: tag, binding and class, where it is LIVE. -/
def LiveFields.name (l : LiveFields) : List Byte × Option (Fin 8) × AccountClass := (l.tag, l.bound, l.cls)

/-- The name of an account, none where it is LOST. -/
def Account.name (a : Account) : Option (List Byte × Option (Fin 8) × AccountClass) := a.live.map LiveFields.name

/-! ### What accrual leaves of an account -/

@[simp] theorem Account.evaluate_name (a : Account) : a.evaluate.1.name = a.name := by
  unfold Account.evaluate
  split
  · rfl
  · rename_i l live
    simp [Account.name, live, LiveFields.name]

@[simp] theorem Account.evaluateIfMoved_name (a b : Account) : (a.evaluateIfMoved b).1.name = a.name := by
  unfold Account.evaluateIfMoved
  split
  · rfl
  · exact a.evaluate_name

@[simp] theorem Account.earn_name (k : Nat) (a : Account) : (a.earn k).name = a.name := rfl
@[simp] theorem Account.earnParts_name (k : Nat) (a : Account) : (a.earnParts k).name = a.name := rfl

theorem accrueSecond_name (cfg : LiveConfig) (c : AccountClass) (m : RunMode) (a : Account) :
    (accrueSecond cfg c m a).1.name = a.name := by
  simp only [accrueSecond, Account.evaluate_name, Account.earnParts_name]
  rfl

theorem reportAccount_name (cfg : LiveConfig) (r : Report) (c : AccountClass) (a : Account) :
    (reportAccount cfg r c a).1.name = a.name := by
  cases r with
  | start m =>
    simp only [reportAccount, accrueStart, Account.evaluateIfMoved_name, Account.earn_name]
    rfl
  | change m =>
    simp only [reportAccount, accrueChange, Account.evaluateIfMoved_name, Account.earn_name]
    rfl
  | closing =>
    simp only [reportAccount, accrueClosing]
    split
    · simp only [Account.evaluate_name, Account.earn_name]
      rfl
    · rfl

theorem accrueTrip_name (cfg : LiveConfig) (mode : UnitMode) (c : AccountClass) (a : Account) :
    (accrueTrip cfg mode c a).1.name = a.name := by
  simp only [accrueTrip, Account.evaluate_name]
  split <;> rfl

theorem creditAccount_name (cfg : LiveConfig) (e : SideEntry) (c : AccountClass) (a : Account) :
    (creditAccount cfg e c a).1.name = a.name := by
  simp only [creditAccount, Account.evaluate_name, Account.earn_name, Account.earnParts_name]
  rfl

/-- The name of the account in a slot, none where the slot is free or the account LOST. -/
def AccountSlot.name (a : AccountSlot) : Option (List Byte × Option (Fin 8) × AccountClass) := a.account.bind Account.name

/-- A slot's name is that of its live fields. -/
theorem AccountSlot.name_eq (a : AccountSlot) : a.name = a.liveFields.map LiveFields.name := by
  cases a <;> rfl

/-- A change for bound accounts that leaves every account's name leaves the slot's. -/
theorem AccountSlot.onBound_name {f : Fin 8 → AccountClass → Option (Account → Account × Word32)}
    (keeps : ∀ u c g a, f u c = some g → (g a).1.name = a.name) (a : AccountSlot) : (a.onBound f).1.name = a.name := by
  unfold AccountSlot.onBound
  split
  · rfl
  · rename_i b d
    split
    · rfl
    · rename_i l live
      split
      · rfl
      · rename_i g found
        obtain ⟨u, -, fu⟩ := Option.bind_eq_some_iff.mp found
        exact keeps u l.cls g b fu

/-- The slot an account change leaves, whatever the marks and conditions. -/
theorem State.onBound_slot (f : Fin 8 → AccountClass → Option (Account → Account × Word32)) (s : State) (k : Fin 24) :
    (s.onBound f).tally.accounts[k] = (s.tally.accounts[k].onBound f).1 := by
  simp [State.onBound]

/-- A change for bound accounts that leaves every account's name leaves every slot's. -/
theorem State.onBound_name {f : Fin 8 → AccountClass → Option (Account → Account × Word32)}
    (keeps : ∀ u c g a, f u c = some g → (g a).1.name = a.name) (s : State) (k : Fin 24) :
    (s.onBound f).tally.accounts[k].name = s.tally.accounts[k].name := by
  rw [State.onBound_slot]
  exact AccountSlot.onBound_name keeps _

/-- A change for the accounts of one unit changes none by another function. -/
theorem forUnit_some {u v : Fin 8} {g : AccountClass → Account → Account × Word32} {c : AccountClass}
    {h : Account → Account × Word32} (e : forUnit u g v c = some h) : h = g c := by
  unfold forUnit at e
  split at e
  · cases e; rfl
  · cases e

end Sys2Proof.Machine

namespace Sys2Proof.Safety

open Sys2Proof Sys2Proof.Machine

/-- A table is lawful whose LIVE accounts have the tags and classes of those in a lawful one, bound as there or not at all. -/
theorem AccountLaw.of_names {t u : Tally} (law : AccountLaw t)
    (names : ∀ (k : Fin 24) (m : LiveFields), u.accounts[k].liveFields = some m →
      ∃ l, t.accounts[k].liveFields = some l ∧ l.tag = m.tag ∧ l.cls = m.cls ∧ (m.bound.isSome = true → l.bound = m.bound)) :
    AccountLaw u := by
  intro i j m q hi hj
  obtain ⟨l, hl, tagI, clsI, boundI⟩ := names i m hi
  obtain ⟨p, hp, tagJ, clsJ, boundJ⟩ := names j q hj
  refine ⟨fun tag => (law i j l p hl hp).1 (by rw [tagI, tagJ, tag]), fun some bound cls => ?_⟩
  have boundL := boundI some
  have boundP := boundJ (bound ▸ some)
  exact (law i j l p hl hp).2 (boundL ▸ some) (by rw [boundL, boundP, bound]) (by rw [clsI, clsJ, cls])

/-- A table with the names of a lawful one is lawful. -/
theorem AccountLaw.of_same_names {t u : Tally} (law : AccountLaw t) (names : ∀ k : Fin 24, u.accounts[k].name = t.accounts[k].name) :
    AccountLaw u := by
  refine law.of_names fun k m live => ?_
  have same := names k
  rw [AccountSlot.name_eq, AccountSlot.name_eq, live, Option.map_some, eq_comm, Option.map_eq_some_iff] at same
  obtain ⟨l, found, name⟩ := same
  simp only [LiveFields.name, Prod.mk.injEq] at name
  obtain ⟨tag, bound, cls⟩ := name
  exact ⟨l, found, tag, cls, fun _ => bound⟩

/-- A table with the accounts of a lawful one, whatever the marks, is lawful. -/
theorem AccountLaw.of_accounts {t u : Tally} (law : AccountLaw t)
    (same : ∀ k : Fin 24, u.accounts[k].account = t.accounts[k].account) : AccountLaw u :=
  law.of_same_names fun k => by simp only [AccountSlot.name, same]

/-- A slot put in a lawful table is lawful where no other LIVE account has its tag, and none bound its class and unit. -/
theorem AccountLaw.set {t : Tally} (law : AccountLaw t) (k : Fin 24) (a : AccountSlot)
    (alone : ∀ m, a.liveFields = some m → ∀ j l, j ≠ k → t.accounts[j].liveFields = some l →
      l.tag ≠ m.tag ∧ (m.bound.isSome = true → l.bound = m.bound → l.cls ≠ m.cls)) :
    AccountLaw { t with accounts := t.accounts.set k a } := by
  intro i j l m hi hj
  simp only [getElem_set_fin] at hi hj
  by_cases ki : k = i <;> by_cases kj : k = j
  · exact ⟨fun _ => ki.symm.trans kj, fun _ _ _ => ki.symm.trans kj⟩
  · rw [if_pos ki] at hi
    rw [if_neg kj] at hj
    obtain ⟨tag, bound⟩ := alone l hi j m (Ne.symm kj) hj
    exact ⟨fun e => absurd e.symm tag, fun some eq cls => absurd cls.symm (bound some eq.symm)⟩
  · rw [if_neg ki] at hi
    rw [if_pos kj] at hj
    obtain ⟨tag, bound⟩ := alone m hj i l (Ne.symm ki) hi
    exact ⟨fun e => absurd e tag, fun some eq cls => absurd cls (bound (eq ▸ some) eq)⟩
  · rw [if_neg ki] at hi
    rw [if_neg kj] at hj
    exact law i j l m hi hj

/-- A slot put with the name it had keeps the laws. -/
theorem AccountLaw.set_same {t : Tally} (law : AccountLaw t) (k : Fin 24) (a : AccountSlot) (name : a.name = t.accounts[k].name) :
    AccountLaw { t with accounts := t.accounts.set k a } := by
  refine law.of_same_names fun i => ?_
  rw [getElem_set_fin]
  split
  · rename_i same
    rw [name, same]
  · rfl

end Sys2Proof.Safety

namespace Sys2Proof.Machine

open Sys2Proof Sys2Proof.Claim Sys2Proof.Safety

/-! ### Accrual -/

theorem State.tallyTick_accountLaw (s : State) (law : AccountLaw s.tally) : AccountLaw s.tallyTick.tally := by
  refine law.of_same_names fun k => State.onBound_name (fun u c g a found => ?_) _ k
  unfold tickAccount at found
  split at found
  · obtain ⟨m, -, rfl⟩ := Option.map_eq_some_iff.mp found
    exact accrueSecond_name _ _ _ _
  · cases found

theorem State.takeReport_accountLaw (u : Fin 8) (r : Report) (s : State) (law : AccountLaw s.tally) :
    AccountLaw (s.takeReport u r).tally := by
  unfold State.takeReport
  split
  · exact law
  · refine law.of_same_names fun k => State.onBound_name (fun v c g a found => ?_) _ k
    rw [forUnit_some found]
    exact reportAccount_name _ _ _ _

theorem State.takeTripReport_accountLaw (u : Fin 8) (mode : UnitMode) (s : State) (law : AccountLaw s.tally) :
    AccountLaw (s.takeTripReport u mode).tally := by
  refine law.of_same_names fun k => State.onBound_name (fun v c g a found => ?_) _ k
  rw [forUnit_some found]
  exact accrueTrip_name _ _ _ _

@[simp] theorem AccountSlot.markBound_account (a : AccountSlot) : a.markBound.account = a.account := by cases a <;> rfl

theorem State.credit_accountLaw (s : State) (law : AccountLaw s.tally) : AccountLaw s.credit.tally := by
  unfold State.credit
  have marked : AccountLaw { (s.tally.changeUnits fun u c => creditCounts s.tally.side[u] c) with
      accounts := Vector.ofFn fun i : Fin 24 => s.tally.accounts[i].markBound, side := Vector.replicate 8 .zero, freeze := false } :=
    law.of_accounts fun k => by simp
  refine marked.of_same_names fun k => State.onBound_name (fun u c g a found => ?_) _ k
  cases found
  exact creditAccount_name _ _ _ _

theorem State.handOn_accountLaw (line : Fin 32) (e : LineEvent) (s : State) (law : AccountLaw s.tally) :
    AccountLaw (s.handOn line e).tally := by
  unfold State.handOn
  split
  · dsimp only
    unfold State.reportTrip
    split
    · exact State.takeTripReport_accountLaw _ _ _ (by simpa using law)
    · simpa using law
  · exact law

theorem State.sampleOne_accountLaw (stamp : Stamp) (levels : Vector Bool 32) (line : Fin 32) (s : State) (law : AccountLaw s.tally) :
    AccountLaw (s.sampleOne stamp levels line).tally := by
  unfold State.sampleOne
  dsimp only
  repeat' split
  · exact State.handOn_accountLaw _ _ _ law
  · exact law
  · exact law

theorem State.sampleUnit_accountLaw (lines : Vector UnitLines 8) (u : Fin 8) (s : State) (law : AccountLaw s.tally) :
    AccountLaw (s.sampleUnit lines u).tally := by
  unfold State.sampleUnit
  exact foldl_keeps_of (P := fun s => AccountLaw s.tally) _ (fun s r => State.takeReport_accountLaw u r s) _ _ law

/-! ### Walks and starts -/

/-- What leaves the records keeps the laws. -/
theorem State.SameRecords.accountLaw {a b : State} (same : a.SameRecords b) (law : AccountLaw b.tally) : AccountLaw a.tally :=
  law.of_accounts same.2.2.2.2.1

theorem State.imageEnd_accountLaw (verify : ImageVerify) (s : State) (law : AccountLaw s.tally) :
    AccountLaw (s.imageEnd verify).tally := by
  unfold State.imageEnd
  split
  · exact law
  · split
    · exact (State.afterImage_same _ _).accountLaw law
    · split
      · exact (State.afterImage_same _ _).accountLaw (law.of_accounts fun k => Tally.setMark_account _ _ _ k)
      · exact law

theorem State.configWriteEnd_accountLaw (verify : ConfigVerify) (s : State) (law : AccountLaw s.tally) :
    AccountLaw (s.configWriteEnd verify).tally := by
  have tally := s.configEnd_tally verify
  unfold State.configWriteEnd
  split <;> rename_i ended <;> rw [ended] at tally
  · refine (State.afterConfig_same _).accountLaw ?_
    rw [State.placeReserved_tally, tally]
    exact law
  · rw [tally]
    exact law

theorem State.stopStore_accountLaw (image : Image) (config : ConfigImage) (s : State) (law : AccountLaw s.tally) :
    AccountLaw (s.stopStore image config).tally := by
  unfold State.stopStore
  dsimp only
  split
  · exact law.of_accounts fun k => Tally.setMark_account _ _ _ k
  · exact law

theorem State.checkImages_accountLaw (s : State) (law : AccountLaw s.tally) : AccountLaw s.checkImages.tally := by
  have marked : ∀ (l : List (Fin 32)) (t : Tally), AccountLaw t →
      AccountLaw (l.foldl (fun t i => if s.store.foundGood i then t else t.setMark true i) t) := by
    intro l
    induction l with
    | nil => exact fun t law => law
    | cons i l ih =>
      refine fun t law => ih _ ?_
      dsimp only
      split
      · exact law
      · exact law.of_accounts fun k => Tally.setMark_account _ _ _ k
  exact marked _ _ law

@[simp] theorem State.foundWarning_accounts (s : State) : s.foundWarning.tally.accounts = s.tally.accounts := by
  unfold State.foundWarning; split <;> rfl

theorem State.foundWarning_accountLaw (s : State) (law : AccountLaw s.tally) : AccountLaw s.foundWarning.tally :=
  law.of_accounts fun k => by simp

@[simp] theorem State.takeUpUnits_accounts (gap : Nat) (s : State) : (s.takeUpUnits gap).tally.accounts = s.tally.accounts := rfl

theorem State.resume_accountLaw (gap : Nat) (keep : Bool) (s : State) (law : AccountLaw s.tally) :
    AccountLaw (s.resume gap keep).tally := by
  have units : AccountLaw (s.takeUpLines.takeUpUnits gap).tally := by
    have lines : AccountLaw s.takeUpLines.tally := by simpa using law
    exact lines.of_accounts fun k => by rw [State.takeUpUnits_accounts]
  unfold State.resume
  refine (State.startTrigger_same _).accountLaw (State.foundWarning_accountLaw _ ?_)
  rw [State.raise_tally, State.takeUpWatch_tally]
  refine State.checkImages_accountLaw _ ?_
  split
  · exact units
  · exact State.credit_accountLaw _ units

/-! ### The restore at a cold start (R120) -/

/-- The table as its images restore it, slots with bad images free, with the serial counter of R120 step 1. -/
def Tally.restored (store : Store) (t : Tally) : Tally :=
  { t with
    accounts := Vector.ofFn fun k : Fin 24 => (restoredSlot store k).getD (.free false)
    serial := restoredSerial store }

/-- The table with the slots of a list held LOST, in its order (R120). -/
def Tally.loseAll (l : List (Fin 24)) (t : Tally) : Tally := l.foldl (fun a k => a.lose k) t

/-- The table after step 2 of R120: the slots with bad images are LOST. -/
def Tally.badLost (store : Store) (t : Tally) : Tally :=
  (t.restored store).loseAll ((List.finRange 24).filter fun k => (restoredSlot store k).isNone)

/-- The table after step 3 of R120: the slots outranked for their tags are LOST. -/
def Tally.twinsLost (store : Store) (t : Tally) : Tally :=
  (t.badLost store).loseAll ((List.finRange 24).filter fun k => (t.badLost store).outranked store sameTag k)

/-- Slots held LOST have no live fields, and the others stand. -/
theorem loseAll_liveFields (l : List (Fin 24)) (t : Tally) (k : Fin 24) :
    (t.loseAll l).accounts[k].liveFields = if k ∈ l then none else t.accounts[k].liveFields := by
  induction l generalizing t with
  | nil => simp [Tally.loseAll]
  | cons i l ih =>
    rw [show t.loseAll (i :: l) = (t.lose i).loseAll l from rfl, ih]
    by_cases listed : k ∈ l
    · simp [listed]
    · simp only [listed, if_false, Tally.lose, getElem_set_fin, List.mem_cons, or_false, eq_comm (a := k)]
      split <;> rfl

/-- Of two slots one outranks the other (R120 steps 3 and 4). -/
theorem Store.outranks_total (t : Store) {i j : Fin 24} (ne : i ≠ j) : t.outranks i j = true ∨ t.outranks j i = true := by
  simp only [Store.outranks, Bool.or_eq_true, Bool.and_eq_true, decide_eq_true_eq, beq_iff_eq]
  omega

/-- A LIVE account outranked by one that shares the property. -/
theorem Tally.outranked_of {t : Tally} {store : Store} {same : LiveFields → LiveFields → Bool} {i j : Fin 24} {l m : LiveFields}
    (ranks : store.outranks j i = true) (hi : t.accounts[i].liveFields = some l) (hj : t.accounts[j].liveFields = some m)
    (shared : same l m = true) : t.outranked store same i = true := by
  simp only [Tally.outranked, List.any_eq_true, List.mem_finRange, true_and, Bool.and_eq_true]
  exact ⟨j, ranks, by rw [hi, hj]; simpa using shared⟩

/-- The live fields of a slot made unbound. -/
theorem AccountSlot.unbound_liveFields (a : AccountSlot) : a.unbound.liveFields = a.liveFields.map fun l => { l with bound := none } := by
  cases a <;> rfl

/-- The table with the slots outranked for their bindings made unbound (R120 step 4). -/
def Tally.freeDoubles (store : Store) (t : Tally) : Tally :=
  { t with accounts := Vector.ofFn fun k : Fin 24 =>
      if t.outranked store sameBinding k then t.accounts[k].unbound else t.accounts[k] }

/-- With the slots outranked for their tags held LOST, and then those outranked for their bindings made unbound, the laws hold. -/
theorem accountLaw_of_settled (store : Store) (lost : Tally) {unique : Tally}
    (kept : ∀ k : Fin 24, unique.accounts[k].liveFields = if lost.outranked store sameTag k then none else lost.accounts[k].liveFields) :
    AccountLaw (unique.freeDoubles store) := by
  have names : ∀ (k : Fin 24) (m : LiveFields),
      (unique.freeDoubles store).accounts[k].liveFields = some m →
      ∃ l, unique.accounts[k].liveFields = some l ∧ l.tag = m.tag ∧ l.cls = m.cls
        ∧ (m.bound.isSome = true → l.bound = m.bound ∧ unique.outranked store sameBinding k = false) := by
    intro k m live
    simp only [Tally.freeDoubles, Fin.getElem_fin, Vector.getElem_ofFn] at live
    by_cases out : unique.outranked store sameBinding k = true
    · rw [if_pos out, AccountSlot.unbound_liveFields, Option.map_eq_some_iff] at live
      obtain ⟨l, found, rfl⟩ := live
      exact ⟨l, found, rfl, rfl, fun bound => nomatch bound⟩
    · rw [if_neg out] at live
      exact ⟨m, live, rfl, rfl, fun _ => ⟨rfl, Bool.eq_false_iff.mpr out⟩⟩
  intro i j m q hi hj
  obtain ⟨l, hl, tagI, clsI, boundI⟩ := names i m hi
  obtain ⟨p, hp, tagJ, clsJ, boundJ⟩ := names j q hj
  refine ⟨fun tag => ?_, fun some bound cls => ?_⟩
  · by_contra ne
    rw [kept] at hl hp
    split at hl
    · cases hl
    rename_i notI
    split at hp
    · cases hp
    rename_i notJ
    rcases store.outranks_total ne with ranks | ranks
    · exact notJ (Tally.outranked_of ranks hp hl (by simp [sameTag, tagI, tagJ, tag]))
    · exact notI (Tally.outranked_of ranks hl hp (by simp [sameTag, tagI, tagJ, tag]))
  · by_contra ne
    obtain ⟨boundL, notI⟩ := boundI some
    obtain ⟨boundP, notJ⟩ := boundJ (bound ▸ some)
    rcases store.outranks_total ne with ranks | ranks
    · have := Tally.outranked_of (same := sameBinding) ranks hp hl (by simp [sameBinding, boundL, boundP, clsI, clsJ, cls, ← bound, some])
      simp [this] at notJ
    · have := Tally.outranked_of (same := sameBinding) ranks hl hp (by simp [sameBinding, boundL, boundP, clsI, clsJ, cls, ← bound, some])
      simp [this] at notI

/-- The settled table takes the four steps of R120 in turn. -/
theorem settledAccounts_eq (store : Store) (t : Tally) : (settledAccounts store t).1 = (t.twinsLost store).freeDoubles store := rfl

/-- The account table settled at a cold start is lawful. -/
theorem settledAccounts_accountLaw (store : Store) (t : Tally) : AccountLaw (settledAccounts store t).1 := by
  rw [settledAccounts_eq]
  refine accountLaw_of_settled store (t.badLost store) fun k => ?_
  rw [Tally.twinsLost, loseAll_liveFields]
  simp [List.mem_filter]

theorem State.coldStart_accountLaw (s : State) : AccountLaw s.coldStart.tally := by
  unfold State.coldStart
  refine (State.startTrigger_same _).accountLaw (State.foundWarning_accountLaw _ ?_)
  simp only [State.raiseWord_tally, State.raise_tally, State.startPort_tally, State.coldWatch_tally]
  exact settledAccounts_accountLaw _ _

/-! ### The requests -/

/-- No LIVE account holds a tag that no slot answers to (R99). -/
theorem Tally.tagSlot_none {t : Tally} {tag : List Byte} (none : t.tagSlot tag = none) {k : Fin 24} {l : LiveFields}
    (live : t.accounts[k].liveFields = some l) : l.tag ≠ tag := by
  have := List.find?_eq_none.mp none k (List.mem_finRange k)
  unfold AccountSlot.liveFields at live
  rw [live] at this
  simpa using this

/-- No LIVE account in another slot holds a tag that is not elsewhere (R114). -/
theorem Tally.tagElsewhere_false {t : Tally} {i k : Fin 24} {tag : List Byte} (none : t.tagElsewhere i tag = false) {l : LiveFields}
    (other : k ≠ i) (live : t.accounts[k].liveFields = some l) : l.tag ≠ tag := by
  have := List.any_eq_false.mp none k (List.mem_finRange k)
  unfold AccountSlot.liveFields at live
  rw [live] at this
  simpa [other] using this

/-- No LIVE account of a class is bound to a unit that has no such slot (R103). -/
theorem Tally.boundSlot_none {t : Tally} {u : Fin 8} {c : AccountClass} (none : t.boundSlot u c = none) {k : Fin 24} {l : LiveFields}
    (live : t.accounts[k].liveFields = some l) (bound : l.bound = some u) : l.cls ≠ c := by
  have := List.find?_eq_none.mp none k (List.mem_finRange k)
  unfold AccountSlot.liveFields at live
  rw [live] at this
  simpa [bound] using this

/-- The live fields of an account in its slot. -/
theorem liveFields_of_held {t : Tally} {k : Fin 24} {a : Account} {d : Bool} (held : t.accounts[k] = .held a d) :
    t.accounts[k].liveFields = a.live := by
  rw [held]; rfl

/-- An evaluated account's live fields name the account as before. -/
theorem Account.evaluate_live {a : Account} {m : LiveFields} (live : a.evaluate.1.live = some m) :
    ∃ l, a.live = some l ∧ l.tag = m.tag ∧ l.bound = m.bound ∧ l.cls = m.cls := by
  have same := a.evaluate_name
  simp only [Account.name, live, Option.map_some] at same
  obtain ⟨l, found, name⟩ := Option.map_eq_some_iff.mp same.symm
  simp only [LiveFields.name, Prod.mk.injEq] at name
  exact ⟨l, found, name⟩

/-- A new account with a tag no LIVE account holds keeps the laws (R100, R101). -/
theorem State.openAccount_accountLaw {s : State} (law : AccountLaw s.tally) (k : Fin 24) {tag : List Byte} (cls : AccountClass)
    (interval margin : Nat) (f : Figures) (new : s.tally.tagSlot tag = none) :
    AccountLaw (s.openAccount k (openedAccount s.tally.serial tag cls interval margin f)).tally := by
  unfold State.openAccount
  rw [State.raiseWord_tally]
  refine law.set k _ fun m live j l _ found => ?_
  obtain ⟨p, opened, tagP, boundP, -⟩ := Account.evaluate_live live
  cases opened
  exact ⟨tagP ▸ Tally.tagSlot_none new found, fun some => by rw [← boundP] at some; cases some⟩

/-- A binding to a unit with no account of the class keeps the laws (R103). -/
theorem State.bind_accountLaw {s : State} (law : AccountLaw s.tally) {k : Fin 24} {a : Account} {d : Bool} {l : LiveFields} {u : Fin 8}
    (held : s.tally.accounts[k] = .held a d) (live : a.live = some l) (free : s.tally.boundSlot u l.cls = none) :
    AccountLaw (s.setAccount k (.held (a.bindTo (some u)) true)).tally := by
  have own : s.tally.accounts[k].liveFields = some l := (liveFields_of_held held).trans live
  refine law.set k _ fun m bound j p other found => ?_
  have fields : { l with bound := some u } = m := by
    have e : (a.bindTo (some u)).live = some m := bound
    simpa [Account.bindTo, live] using e
  subst fields
  exact ⟨fun tag => other ((law j k p l found own).1 tag), fun _ unit => Tally.boundSlot_none free found unit⟩

/-- A release from a unit keeps the laws (R104). -/
theorem State.unbind_accountLaw {s : State} (law : AccountLaw s.tally) {k : Fin 24} {a : Account} {d : Bool}
    (held : s.tally.accounts[k] = .held a d) : AccountLaw (s.setAccount k (.held (a.bindTo none) true)).tally := by
  refine law.of_names fun i m found => ?_
  simp only [State.setAccount, getElem_set_fin] at found
  split at found
  · rename_i same
    subst same
    have e : a.live.map (fun l => { l with bound := none }) = some m := found
    obtain ⟨l, live, rfl⟩ := Option.map_eq_some_iff.mp e
    exact ⟨l, (liveFields_of_held held).trans live, rfl, rfl, fun some => nomatch some⟩
  · exact ⟨m, found, rfl, rfl, fun _ => rfl⟩

/-- What a PRESET leaves of tag, binding and class of a LIVE account: the tag held or carried, and the binding held (R115). -/
theorem presetLive_held {f : Figures} {o : PresetOptions} {m l : LiveFields} (live : presetLive f o (some m) = some l) :
    l.tag = o.tag.getD m.tag ∧ l.bound = m.bound := by
  simp only [presetLive, Option.some.injEq] at live
  subst live
  exact ⟨rfl, rfl⟩

/-- What a PRESET makes of a LOST account: the tag carried, and no binding (R115). -/
theorem presetLive_lost {f : Figures} {o : PresetOptions} {l : LiveFields} (live : presetLive f o none = some l) :
    o.tag = some l.tag ∧ l.bound = none := by
  simp only [presetLive] at live
  split at live
  · rename_i tag _ _ _
    cases live
    exact ⟨tag, rfl⟩
  · cases live

/-- A PRESET whose tag is not elsewhere, and that keeps the class of a bound account, keeps the laws (R114, R115). -/
theorem State.preset_accountLaw {s : State} (law : AccountLaw s.tally) {k : Fin 24} {a : Account} {d : Bool} {f : Figures}
    {o : PresetOptions} {l : LiveFields} (held : s.tally.accounts[k] = .held a d) (live : presetLive f o a.live = some l)
    (new : o.tag.any (s.tally.tagElsewhere k) = false) (kept : (a.live.any fun m => m.bound.isSome && m.cls != l.cls) = false) :
    AccountLaw (answerEvaluated k { a with figures := f, fraction := 0, live := some l } s).1.tally := by
  have own := liveFields_of_held held
  simp only [answerEvaluated, answer, State.raiseWord_tally]
  refine law.set k _ fun m evaluated j p other found => ?_
  obtain ⟨q, same, tag, bound, cls⟩ := Account.evaluate_live evaluated
  cases same
  rw [← tag, ← bound, ← cls]
  cases hm : a.live with
  | none =>
    rw [hm] at live
    obtain ⟨tagL, boundL⟩ := presetLive_lost live
    rw [tagL, Option.any_some] at new
    exact ⟨Tally.tagElsewhere_false new other found, fun some => by rw [boundL] at some; cases some⟩
  | some m =>
    rw [hm] at live kept own
    obtain ⟨tagL, boundL⟩ := presetLive_held live
    obtain ⟨tagM, boundM⟩ := law j k p m found own
    refine ⟨?_, fun some unit cls => ?_⟩
    · rw [tagL]
      cases ho : o.tag with
      | none => exact fun e => other (tagM e)
      | some t =>
        rw [ho, Option.any_some] at new
        exact Tally.tagElsewhere_false new other found
    · rw [boundL] at some unit
      have clsM : m.cls = l.cls := by simpa [some] using kept
      exact other (boundM (unit ▸ some) unit (cls.trans clsM.symm))

/-- SERVICE_DONE keeps the laws: no name changes (R113). -/
theorem State.serviceDone_accountLaw {s : State} (law : AccountLaw s.tally) {k : Fin 24} {a : Account} {d : Bool} {l : LiveFields}
    (due : Nat) (held : s.tally.accounts[k] = .held a d) (live : a.live = some l) :
    AccountLaw (answerEvaluated k { a with live := some { l with nextDue := due } } s).1.tally := by
  simp only [answerEvaluated, answer, State.raiseWord_tally]
  refine law.set_same k _ ?_
  rw [held]
  simp only [AccountSlot.name, AccountSlot.account, Option.bind_some, Account.evaluate_name]
  simp only [Account.name, live, Option.map_some]
  rfl

@[simp] theorem State.enableLine_tally (code index : Nat) (value : Int) (s : State) : (s.enableLine code index value).tally = s.tally := by
  unfold State.enableLine
  repeat' split
  all_goals rfl

/-- The laws of the account table are kept by every operation. -/
theorem accountLaw_kept : KeptAside fun s => AccountLaw s.tally where
  aside _ _ _ _ _ law := law
  inject s line duration law := by simpa [State.inject] using law
  endTest _ _ law := law
  acknowledge _ _ _ _ _ law := law
  cause _ _ _ _ _ law := law
  retire _ _ law := law
  markCarries _ law := law
  openAccount s k _ cls interval margin f new law := State.openAccount_accountLaw law k cls interval margin f new
  bind _ _ _ _ _ _ held live free law := State.bind_accountLaw law held live free
  unbind _ _ _ _ held law := State.unbind_accountLaw law held
  preset _ _ _ _ _ _ _ held live new kept law := State.preset_accountLaw law held live new kept
  retireAccount _ k law := law.set k _ fun _ none => nomatch none
  serviceDone _ _ _ _ _ due held live law := State.serviceDone_accountLaw law due held live
  trigger s law := s.trigger_same.accountLaw law
  roster _ _ law := law
  item s code index value _ _ law := by simpa using law
  askConfigWrite s _ law := by simpa using law
  checkConfig s law := by simpa using law
  openHandover s crew window _ _ _ law := by simpa using law
  takeWatch s crew _ _ law := (State.trigger_same _).accountLaw law
  sign _ _ _ _ law := law
  completed s stamp _ law := (State.trigger_same _).accountLaw law
  aborted _ _ law := law
  scannerTick s law := by simpa using law
  tallyTick := State.tallyTick_accountLaw
  warningExpiry s law := by simpa using law
  windowExpiry s law := by simpa using law
  storeTick s law := by
    unfold State.storeTick
    split
    · exact law
    · exact (State.trigger_same _).accountLaw law
  takeMinute s t law := by simpa using law
  handlePending s law := by simpa using law
  sampleLines s levels first law := foldl_keeps_of _ (fun s i => State.sampleOne_accountLaw _ _ i s) _ s law
  sampleUnits s lines law := foldl_keeps_of _ (fun s u => State.sampleUnit_accountLaw lines u s) _ s law
  beginFreeze s law := (State.takeWarning_same _).accountLaw law
  release s law := by simpa using State.credit_accountLaw s law
  imageEnd s verify law := State.imageEnd_accountLaw verify s law
  configWriteEnd s verify law := State.configWriteEnd_accountLaw verify s law
  stopStore s image config law := State.stopStore_accountLaw image config s law
  coldStart s _ := s.coldStart_accountLaw
  warmStart s law := State.resume_accountLaw _ _ _ (by simpa using law)
  resetStart s law := State.resume_accountLaw _ _ _ (by simpa using law)

end Sys2Proof.Machine

namespace Sys2Proof.Proofs

open Sys2Proof Sys2Proof.Machine

/-- Settles O56: every operation keeps the laws of the account table. -/
theorem accountLawIsKept : Obligations.AccountLawIsKept := fun _ _ runs law => accountLaw_kept.kept.step runs law

end Sys2Proof.Proofs
end

section
/-! What a line holds in each line state (03 section 3.2): each operation of the Scanner keeps it, and so does every step (O57). -/

namespace Sys2Proof.Safety

open Sys2Proof Sys2Proof.Machine

/-- A line settled in RELEASED or ASSERTED holds no run and no stamp. -/
theorem LineLaw.settledAt (cfg : LineConfig) (l : LineState) {phase : LinePhase} (settled : phase = .released ∨ phase = .asserted) :
    LineLaw cfg (l.settledAt phase) := by
  rcases settled with rfl | rfl <;> simp [LineLaw, LineState.settledAt]

/-- A line that begins to assert holds a run of one, the stamp and the mode of its first asserted sample (R40). -/
theorem LineLaw.asserting {cfg : LineConfig} (l : LineState) (stamp : Stamp) {mode : TripMode} (first : Bool)
    (none : mode = .stationCommon ↔ cfg.unit = 0) :
    LineLaw cfg { l with phase := .asserting, run := 1, held := some stamp, heldMode := some mode, firstRun := first } := by
  simp [LineLaw, none]

/-- A line that begins to release holds a run of one and the stamp of its first released sample (R41). -/
theorem LineLaw.releasing (cfg : LineConfig) (l : LineState) (stamp : Stamp) (first : Bool) :
    LineLaw cfg { l with phase := .releasing, run := 1, held := some stamp, heldMode := none, firstRun := first } := by
  simp [LineLaw]

/-- A run that grows keeps the law. -/
theorem LineLaw.grow {cfg : LineConfig} {l : LineState} (law : LineLaw cfg l) (run : l.phase = .asserting ∨ l.phase = .releasing) :
    LineLaw cfg { l with run := l.run + 1 } := by
  obtain ⟨-, asserting, releasing⟩ := law
  refine ⟨fun settled => ?_, fun h => ?_, fun h => ?_⟩
  · rcases run with run | run <;> rcases settled with settled | settled <;> exact nomatch run.symm.trans settled
  · obtain ⟨-, rest⟩ := asserting h
    exact ⟨Nat.le_add_left 1 _, rest⟩
  · obtain ⟨-, rest⟩ := releasing h
    exact ⟨Nat.le_add_left 1 _, rest⟩

/-- In RELEASED a line's law asks nothing of its configuration. -/
theorem LineLaw.of_released {cfg : LineConfig} {l : LineState} (law : LineLaw cfg l) (released : l.phase = .released) (cfg' : LineConfig) :
    LineLaw cfg' l := by
  obtain ⟨settled, -, -⟩ := law
  refine ⟨settled, fun h => ?_, fun h => ?_⟩ <;> cases released.symm.trans h

/-- The law asks of a line's configuration its unit alone. -/
theorem LineLaw.of_unit {cfg cfg' : LineConfig} {l : LineState} (law : LineLaw cfg l) (unit : cfg'.unit = cfg.unit) : LineLaw cfg' l := by
  unfold LineLaw
  rw [unit]
  exact law

/-- One sample keeps the law (R40 to R42). -/
theorem LineLaw.sampleLine {cfg : LineConfig} {l : LineState} (law : LineLaw cfg l) (stamp : Stamp) {mode : TripMode} (on : Bool)
    (none : mode = .stationCommon ↔ cfg.unit = 0) : LineLaw cfg (sampleLine cfg stamp mode on l).1 := by
  have looked : LineLaw cfg { l with startLook := false } := law
  unfold Machine.sampleLine
  dsimp only
  split
  · unfold assertedSample
    split
    · split
      · exact .settledAt cfg _ (.inr rfl)
      · exact .asserting _ stamp _ none
    · rename_i phase
      split
      · exact .settledAt cfg _ (.inr rfl)
      · exact looked.grow (.inl phase)
    · exact looked
    · exact .settledAt cfg _ (.inr rfl)
  · unfold releasedSample
    split
    · exact looked
    · exact .settledAt cfg _ (.inl rfl)
    · split
      · exact .settledAt cfg _ (.inl rfl)
      · exact .releasing cfg _ stamp _
    · rename_i phase
      split
      · exact .settledAt cfg _ (.inl rfl)
      · exact looked.grow (.inr phase)

/-- What a line holds in each line state, on every line. -/
def LinesLaw (s : State) : Prop := ∀ i : Fin 32, LineLaw s.config.lines[i] s.lines[i]

/-- A line put in place by one lawful under its configuration keeps the law. -/
theorem LinesLaw.set {s : State} (law : LinesLaw s) {i : Fin 32} {l : LineState} (one : LineLaw s.config.lines[i] l) :
    LinesLaw { s with lines := s.lines.set i l } := by
  intro j
  simp only [getElem_set_fin]
  split
  · rename_i same
    exact same ▸ one
  · exact law j

/-- A test injection made or ended on a line keeps the law. -/
theorem LinesLaw.setTest {s : State} (law : LinesLaw s) (i : Fin 32) (test : Option TestInjection) :
    LinesLaw { s with lines := s.lines.set i { s.lines[i] with test := test } } := law.set (law i)

end Sys2Proof.Safety

namespace Sys2Proof.Machine

open Sys2Proof Sys2Proof.Claim Sys2Proof.Safety

/-- The mode of a line is NONE exactly where it is mapped to station common (03 section 3.2). -/
theorem State.lineMode_none (s : State) (i : Fin 32) : s.lineMode i = .stationCommon ↔ s.config.lines[i].unit = 0 := by
  unfold State.lineMode unitAt
  split
  · rename_i u unit
    split at unit
    · rename_i pos
      refine ⟨nofun, fun h => ?_⟩
      rw [h] at pos
      exact absurd pos (by decide)
    · cases unit
  · rename_i none
    split at none
    · cases none
    · rename_i pos
      refine ⟨fun _ => Fin.ext (by simpa using pos), fun _ => rfl⟩

/-- A state with the lines and the configuration of a lawful one is lawful. -/
theorem linesLaw_of_same {s t : State} (law : LinesLaw s) (config : t.config = s.config) (lines : t.lines = s.lines) : LinesLaw t := by
  intro i
  rw [config, lines]
  exact law i

theorem State.handOn_linesLaw (line : Fin 32) (e : LineEvent) (s : State) (law : LinesLaw s) : LinesLaw (s.handOn line e) := by
  unfold State.handOn
  split
  · exact linesLaw_of_same (law.setTest line none) (by simp) (by simp)
  · exact law

theorem State.sampleOne_linesLaw (stamp : Stamp) (levels : Vector Bool 32) (line : Fin 32) (s : State) (law : LinesLaw s) :
    LinesLaw (s.sampleOne stamp levels line) := by
  have sampled : LinesLaw { s with
      lines := s.lines.set line (sampleLine s.config.lines[line] stamp (s.lineMode line) levels[line] s.lines[line]).1 } :=
    law.set ((law line).sampleLine stamp levels[line] (s.lineMode_none line))
  unfold State.sampleOne
  dsimp only
  repeat' split
  · exact State.handOn_linesLaw _ _ _ sampled
  · exact sampled
  · exact law

theorem State.endTest_linesLaw (line : Fin 32) (s : State) (law : LinesLaw s) : LinesLaw (s.endTest line) := law.setTest line none

theorem State.endTests_linesLaw (due : TestInjection → Bool) (s : State) (law : LinesLaw s) : LinesLaw (s.endTests due) := by
  refine foldl_keeps_of (P := LinesLaw) _ (fun s i law => ?_) _ s law
  split
  · exact State.endTest_linesLaw i s law
  · exact law

@[simp] theorem State.foundWarning_lines (s : State) : s.foundWarning.lines = s.lines := by unfold State.foundWarning; split <;> rfl
@[simp] theorem State.foundWarning_config (s : State) : s.foundWarning.config = s.config := by unfold State.foundWarning; split <;> rfl

theorem LineState.takeUp_lineLaw (cfg : LineConfig) (enabled : Bool) (l : LineState) : LineLaw cfg (l.takeUp enabled) := by
  unfold LineState.takeUp
  split
  · exact LineLaw.settledAt cfg l (.inl rfl)
  · exact LineLaw.settledAt cfg l (.inl rfl)
  · exact LineLaw.settledAt cfg l (.inr rfl)
  · exact LineLaw.settledAt cfg l (.inr rfl)

theorem State.resume_linesLaw (gap : Nat) (keep : Bool) (s : State) : LinesLaw (s.resume gap keep) := by
  have lines : LinesLaw s.takeUpLines := State.endTests_linesLaw _ _ fun i => by
    simp only [Fin.getElem_fin, Vector.getElem_ofFn]
    exact LineState.takeUp_lineLaw _ _ _
  refine linesLaw_of_same lines ?_ ?_ <;> unfold State.resume <;> dsimp only <;> split <;> simp

theorem LineState.cold_lineLaw (cfg : LineConfig) (enabled : Bool) : LineLaw cfg (LineState.cold enabled) := by
  simp [LineLaw, LineState.cold]

@[simp] theorem State.coldTallies_lines (s : State) : s.coldTallies.1.lines = s.lines := rfl
@[simp] theorem State.coldTallies_config (s : State) : s.coldTallies.1.config = s.config := rfl

theorem State.coldTime_linesLaw (s : State) : LinesLaw s.coldTime := fun i => by
  simp only [State.coldTime, Fin.getElem_fin, Vector.getElem_ofFn]
  exact LineState.cold_lineLaw _ _

theorem State.coldStart_linesLaw (s : State) : LinesLaw s.coldStart := by
  refine linesLaw_of_same (State.coldTime_linesLaw ({ s with pins := s.pins.starting } : State).coldConfig) ?_ ?_
    <;> unfold State.coldStart <;> simp

/-- The unit an item leaves a line mapped to: only the unit item of the line itself changes it. -/
theorem itemSet_unit (c : LiveConfig) (code index : Nat) (v : Int) (i : Fin 32) (other : ¬ (code = 3 ∧ index = i.val)) :
    (itemSet c code index v).lines[i].unit = c.lines[i].unit := by
  have mapped : ∀ f : LineConfig → LineConfig, (index = i.val → ∀ l, (f l).unit = l.unit) →
      (c.mapLine index f).lines[i].unit = c.lines[i].unit := by
    intro f keeps
    unfold LiveConfig.mapLine
    split
    · rename_i h
      have at_i := getElem_set_fin c.lines ⟨index, h⟩ i (f c.lines[index])
      dsimp only at at_i ⊢
      rw [at_i]
      split
      · rename_i same
        subst same
        exact keeps rfl _
      · rfl
    · rfl
  unfold itemSet
  split
  case h_3 => exact mapped _ fun same => absurd ⟨rfl, same⟩ other
  case h_2 | h_4 | h_5 | h_6 => exact mapped _ fun _ _ => rfl
  all_goals rfl

/-- A line's part of a change of its enabled item keeps the law (R38). -/
theorem LineState.enable_lineLaw {cfg : LineConfig} {l : LineState} (law : LineLaw cfg l) (on was : Bool)
    (off : on = false → l.phase = .released) : LineLaw cfg (l.enable on was) := by
  unfold LineState.enable
  split
  · split
    · exact law
    · exact LineLaw.settledAt cfg l (.inl rfl)
  · rename_i isOff
    simp [LineLaw, off (Bool.eq_false_iff.mpr isOff)]

/-- A line whose item the Scanner lets change to disabled, or to another unit, is RELEASED (R38). -/
theorem State.released_of_not_refused {s : State} {code : Nat} {i : Fin 32} {value : Int}
    (scanner : s.scannerRefuses code i.val value = false) (item : (code = 2 ∧ value = 0) ∨ code = 3) : s.lines[i].phase = .released := by
  by_contra engaged
  have phase : (s.lines[i].phase != .released) = true := by simpa using engaged
  simp only [State.scannerRefuses, i.isLt, dif_pos, phase] at scanner
  rcases item with ⟨rfl, rfl⟩ | rfl <;> simp at scanner

/-- An item put in force keeps the law: where it maps or disables a line, the line is RELEASED (R38). -/
theorem State.item_linesLaw {s : State} (law : LinesLaw s) {code : Nat} (index : Nat) {value : Int}
    (inRange : itemInRange code value = true) (scanner : s.scannerRefuses code index value = false) :
    LinesLaw { s.enableLine code index value with config := itemSet s.config code index value } := by
  have enabled : LinesLaw (s.enableLine code index value) := by
    unfold State.enableLine
    split
    · rename_i h
      split
      · rename_i isEnable
        subst isEnable
        refine law.set (LineState.enable_lineLaw (law _) _ _ fun off => ?_)
        have zero : value = 0 := by
          simp only [itemInRange, within, Bool.and_eq_true, decide_eq_true_eq] at inRange
          simp only [beq_eq_false_iff_ne, ne_eq] at off
          omega
        exact State.released_of_not_refused (i := ⟨index, h⟩) scanner (.inl ⟨rfl, zero⟩)
      · exact law
    · exact law
  intro i
  by_cases mapped : code = 3 ∧ index = i.val
  · obtain ⟨rfl, rfl⟩ := mapped
    have lines : (s.enableLine 3 i.val value).lines = s.lines := by simp [State.enableLine]
    simp only [lines]
    exact (law i).of_released (State.released_of_not_refused scanner (.inr rfl)) _
  · have config : (s.enableLine code index value).config = s.config := by
      unfold State.enableLine
      repeat' split
      all_goals rfl
    refine (enabled i).of_unit ?_
    rw [config]
    exact itemSet_unit s.config code index value i mapped

/-- What a line holds in each line state is kept by every operation. -/
theorem linesLaw_kept : KeptAside LinesLaw where
  aside _ _ _ _ _ law := law
  inject s line duration law := linesLaw_of_same (law.setTest line _) (by simp [State.inject]) (by simp [State.inject]; rfl)
  endTest s line law := State.endTest_linesLaw line s law
  acknowledge _ _ _ _ _ law := law
  cause _ _ _ _ _ law := law
  retire _ _ law := law
  markCarries _ law := linesLaw_of_same law rfl rfl
  openAccount s _ _ _ _ _ _ _ law := linesLaw_of_same law (by simp [State.openAccount]) (by simp [State.openAccount])
  bind _ _ _ _ _ _ _ _ _ law := law
  unbind _ _ _ _ _ law := law
  preset _ _ _ _ _ _ _ _ _ _ _ law := linesLaw_of_same law (by simp [answerEvaluated, answer]) (by simp [answerEvaluated, answer])
  retireAccount _ _ law := law
  serviceDone _ _ _ _ _ _ _ _ law := linesLaw_of_same law (by simp [answerEvaluated, answer]) (by simp [answerEvaluated, answer])
  trigger s law := linesLaw_of_same law (by simp) (by simp)
  roster _ _ law := law
  item s code index value inRange scanner law := State.item_linesLaw law index inRange scanner
  askConfigWrite s _ law := linesLaw_of_same law (by simp) (by simp)
  checkConfig s law := linesLaw_of_same law (by simp) (by simp)
  openHandover s crew window _ _ _ law := linesLaw_of_same law (by simp) (by simp)
  takeWatch s crew _ _ law := linesLaw_of_same law (by simp) (by simp)
  sign _ _ _ _ law := law
  completed s stamp _ law := linesLaw_of_same law (by simp) (by simp)
  aborted _ _ law := law
  scannerTick s law := State.endTests_linesLaw _ s law
  tallyTick s law := linesLaw_of_same law (by simp) (by simp)
  warningExpiry s law := linesLaw_of_same law (by simp) (by simp)
  windowExpiry s law := linesLaw_of_same law (by simp) (by simp)
  storeTick s law := linesLaw_of_same law (by simp) (by simp)
  takeMinute s t law := linesLaw_of_same law (by simp) (by simp)
  handlePending s law := linesLaw_of_same law (by simp) (by simp)
  sampleLines s levels first law := foldl_keeps_of _ (fun s i => State.sampleOne_linesLaw _ _ i s) _ s law
  sampleUnits s lines law := linesLaw_of_same law (by simp) (by simp)
  beginFreeze s law := linesLaw_of_same law (by simp) (by simp)
  release s law := linesLaw_of_same law (by simp) (by simp)
  imageEnd s verify law := linesLaw_of_same law (by simp) (by simp)
  configWriteEnd s verify law := linesLaw_of_same law (by simp) (by simp)
  stopStore s image config law := linesLaw_of_same law (by simp) (by simp)
  coldStart s _ := s.coldStart_linesLaw
  warmStart s _ := State.resume_linesLaw _ _ _
  resetStart s _ := State.resume_linesLaw _ _ _

end Sys2Proof.Machine

namespace Sys2Proof.Proofs

open Sys2Proof Sys2Proof.Machine

/-- Settles O57: every operation keeps what a line holds in each line state. -/
theorem lineLawIsKept : Obligations.LineLawIsKept := fun _ _ runs law => linesLaw_kept.kept.step runs law

end Sys2Proof.Proofs
end

section
/-! The Store Controller keeps its laws (R128, R132 to R134). -/

namespace Sys2Proof.Machine

open Sys2Proof Sys2Proof.Claim Sys2Proof.Safety

/-! ### The store port (R134) -/

/-- The port is free: no image write and no configuration write holds it. -/
theorem Store.holder_none_iff (t : Store) : t.holder = .none ↔ t.write = none ∧ ∀ b i, t.configWrite ≠ some (.writing b i) := by
  unfold Store.holder
  cases t.write <;> rcases t.configWrite with - | (- | ⟨b, i⟩) <;> simp

end Sys2Proof.Machine

namespace Sys2Proof.Safety

open Sys2Proof Sys2Proof.Machine

/-- With no image write the law asks nothing. -/
theorem StoreLaw.of_no_write {t : Store} (free : t.write = none) : StoreLaw t := by
  simp [StoreLaw, free]

end Sys2Proof.Safety

namespace Sys2Proof.Machine

open Sys2Proof Sys2Proof.Claim Sys2Proof.Safety

/-- A visit that does not pass image 31 captures at a free port, or waits at its index. -/
theorem State.visit_some {n : Nat} {s t : State} (visited : s.visit n = some t) :
    (∃ i, s.store.holder = .none ∧ t = s.capture i)
      ∨ ∃ i, s.store.holder ≠ .none ∧ t = { s with store := { s.store with index := i } } := by
  unfold State.visit at visited
  split at visited
  · cases visited
  · split at visited
    · rename_i i _ free
      cases visited; exact .inl ⟨i, free, rfl⟩
    · rename_i i _ held
      cases visited; exact .inr ⟨i, held, rfl⟩

/-- A visit of a walk under way leaves the law. -/
theorem State.visit_storeLaw {n : Nat} {s t : State} (visited : s.visit n = some t) (free : s.store.write = none)
    (walk : s.store.walk = .walking ∨ s.store.walk = .final) : StoreLaw t.store := by
  obtain ⟨i, none, rfl⟩ | ⟨i, -, rfl⟩ := State.visit_some visited
  · exact ⟨fun _ => walk, fun _ b image => ((Store.holder_none_iff _).mp none).2 b image⟩
  · exact .of_no_write free

theorem State.grantConfig_write (s : State) : s.grantConfig.store.write = s.store.write := by
  unfold State.grantConfig; split <;> rfl

theorem State.grantConfig_walk (s : State) : s.grantConfig.store.walk = s.store.walk := by
  unfold State.grantConfig; split <;> rfl

theorem State.grantConfig_finalDue (s : State) : s.grantConfig.store.finalDue = s.store.finalDue := by
  unfold State.grantConfig; split <;> rfl

/-- The grant of the port goes to a configuration write only while no image write holds it. -/
theorem State.grantConfig_storeLaw (s : State) (law : StoreLaw s.store) : StoreLaw s.grantConfig.store := by
  unfold State.grantConfig
  split
  · rename_i grants
    simp only [Bool.and_eq_true, beq_iff_eq] at grants
    exact .of_no_write ((Store.holder_none_iff _).mp grants.1.2).1
  · exact law

/-- The end of a walk with no write in flight leaves the law. -/
theorem State.endWalk_storeLaw (s : State) (free : s.store.write = none) : StoreLaw s.endWalk.store := by
  unfold State.endWalk
  split
  · split
    · extract_lets b
      cases visited : b.visit 0 with
      | none => exact .of_no_write free
      | some t => exact State.visit_storeLaw visited free (.inl rfl)
    · exact .of_no_write free
  · exact .of_no_write ((State.grantConfig_write _).trans free)
  · exact .of_no_write free
  · exact .of_no_write free

/-- A walk going on with no write in flight leaves the law. -/
theorem State.goOn_storeLaw (n : Nat) (s : State) (free : s.store.write = none)
    (walk : s.store.walk = .walking ∨ s.store.walk = .final) : StoreLaw (s.goOn n).store := by
  unfold State.goOn
  cases visited : s.visit n with
  | none => exact s.endWalk_storeLaw free
  | some t => exact State.visit_storeLaw visited free walk

end Sys2Proof.Machine

namespace Sys2Proof.Safety

open Sys2Proof Sys2Proof.Machine

/-- No image write stands outside a walk. -/
theorem StoreLaw.no_write {t : Store} (law : StoreLaw t) (walking : t.walk ≠ .walking) (final : t.walk ≠ .final) : t.write = none := by
  cases w : t.write with
  | none => rfl
  | some _ => exact ((law.1 (by simp [w])).elim walking final).elim

end Sys2Proof.Safety

namespace Sys2Proof.Machine

open Sys2Proof Sys2Proof.Claim Sys2Proof.Safety

/-- A trigger keeps the law (R126). -/
theorem State.trigger_storeLaw (s : State) (law : StoreLaw s.store) : StoreLaw s.trigger.store := by
  unfold State.trigger
  split
  · rename_i idle
    exact State.goOn_storeLaw _ _ (law.no_write (by simp [idle]) (by simp [idle])) (.inl rfl)
  · rename_i walking
    exact ⟨fun _ => .inl walking, law.2⟩
  · exact law
  · exact law

/-- A final walk begun with no write in flight leaves the law. -/
theorem State.beginFinal_storeLaw (s : State) (free : s.store.write = none) : StoreLaw s.beginFinal.store :=
  State.goOn_storeLaw _ _ free (.inr rfl)

/-- Taking the warning keeps the law (R132). -/
theorem State.takeWarning_storeLaw (s : State) (law : StoreLaw s.store) : StoreLaw s.takeWarning.store := by
  unfold State.takeWarning
  split
  · exact law
  · exact law
  all_goals
    split
    · rename_i none
      exact s.beginFinal_storeLaw ((Store.holder_none_iff _).mp none).1
    · exact law

/-- The release of the warning keeps the law (R133). -/
theorem State.releaseWalk_storeLaw (s : State) (law : StoreLaw s.store) : StoreLaw s.releaseWalk.store := by
  unfold State.releaseWalk
  split
  · exact ⟨fun _ => .inl rfl, law.2⟩
  · rename_i held
    exact .of_no_write (law.no_write (by simp [held]) (by simp [held]))
  · exact law
  · exact law

/-- The store's next move after an image write leaves the law. -/
theorem State.afterImage_storeLaw (i : Fin 32) (s : State) (free : s.store.write = none) : StoreLaw (s.afterImage i).store := by
  have granted := s.grantConfig_write.trans free
  unfold State.afterImage
  split
  · exact s.beginFinal_storeLaw free
  · split
    · rename_i walk
      exact State.goOn_storeLaw _ _ granted (by rwa [State.grantConfig_walk])
    · exact .of_no_write granted

/-- The store's next move after a configuration write leaves the law. -/
theorem State.afterConfig_storeLaw (s : State) (free : s.store.write = none) : StoreLaw s.afterConfig.store := by
  unfold State.afterConfig
  split
  · exact s.beginFinal_storeLaw free
  · split
    · rename_i walk
      exact State.goOn_storeLaw _ _ free walk
    · exact .of_no_write free

/-- The end of an image write keeps the law (R129, R130). -/
theorem State.imageEnd_storeLaw (verify : ImageVerify) (s : State) (law : StoreLaw s.store) : StoreLaw (s.imageEnd verify).store := by
  unfold State.imageEnd
  split
  · exact law
  · rename_i w writes
    split
    · exact State.afterImage_storeLaw _ _ rfl
    · split
      · exact State.afterImage_storeLaw _ _ rfl
      · exact ⟨fun _ => law.1 (by simp [writes]), fun _ => law.2 (by simp [writes])⟩

/-- The end of a configuration write keeps the law (R135). -/
theorem State.configWriteEnd_storeLaw (verify : ConfigVerify) (s : State) (law : StoreLaw s.store) :
    StoreLaw (s.configWriteEnd verify).store := by
  have free : ∀ b i, s.store.configWrite = some (.writing b i) → s.store.write = none := fun b i writes => by
    cases w : s.store.write with
    | none => rfl
    | some _ => exact (law.2 (by simp [w]) b i writes).elim
  unfold State.configWriteEnd State.configEnd
  cases writes : s.store.configWrite with
  | none => exact law
  | some c =>
    cases c with
    | waiting => exact law
    | writing second image =>
      have none := free _ _ writes
      cases verify with
      | matched => exact State.afterConfig_storeLaw _ (by simpa using none)
      | mismatched retained =>
        cases second
        · exact .of_no_write none
        · exact State.afterConfig_storeLaw _ (by simpa using none)

/-- A part that stops has no write in flight (R136). -/
theorem State.stopStore_storeLaw (image : Image) (config : ConfigImage) (s : State) : StoreLaw (s.stopStore image config).store :=
  .of_no_write rfl

/-- The store checked at a start has no write in flight, and the start trigger begins from there (R137, R138). -/
theorem State.startTrigger_storeLaw (s : State) (law : StoreLaw s.store) : StoreLaw s.startTrigger.store := by
  unfold State.startTrigger
  split
  · exact s.takeWarning_storeLaw law
  · exact s.trigger_storeLaw law

@[simp] theorem State.foundWarning_store (s : State) : s.foundWarning.store = s.store := by
  unfold State.foundWarning; split <;> rfl

theorem Store.checked_walk (t : Store) : t.checked.walk ≠ .held := nofun

theorem Store.checked_finalDue (t : Store) : t.checked.finalDue = false := rfl

theorem State.coldTallies_store (s : State) : s.coldTallies.1.store = s.store.checked := rfl

@[simp] theorem State.checkImages_store (s : State) : s.checkImages.store = s.store.checked := rfl

theorem State.resume_storeLaw (gap : Nat) (keep : Bool) (s : State) : StoreLaw (s.resume gap keep).store := by
  refine State.startTrigger_storeLaw _ ?_
  simp only [State.foundWarning_store, State.raise_store, State.takeUpWatch_store, State.checkImages_store]
  exact .of_no_write rfl

theorem State.coldStart_storeLaw (s : State) : StoreLaw s.coldStart.store := by
  refine State.startTrigger_storeLaw _ ?_
  simp only [State.foundWarning_store, State.raiseWord_store, State.raise_store, State.startPort_store, State.coldWatch_store]
  exact .of_no_write rfl

/-- The configuration write asked for takes the port only while it is free (R134, R175). -/
theorem State.askConfigWrite_storeLaw (s : State) (law : StoreLaw s.store) : StoreLaw s.askConfigWrite.store :=
  State.grantConfig_storeLaw _ ⟨law.1, fun _ _ _ => nofun⟩

@[simp] theorem State.enableLine_store (code index : Nat) (value : Int) (s : State) : (s.enableLine code index value).store = s.store := by
  unfold State.enableLine
  repeat' split
  all_goals rfl

/-- One write at a time, and an image write in a walk: only the Store Controller's operations touch the port. -/
theorem storeLaw_kept : KeptAside fun s => StoreLaw s.store where
  aside _ _ _ _ _ law := law
  inject s line duration law := by simpa [State.inject] using law
  endTest _ _ law := law
  acknowledge _ _ _ _ _ law := law
  cause _ _ _ _ _ law := law
  retire _ _ law := law
  markCarries _ law := law
  openAccount _ _ _ _ _ _ _ _ law := by simpa [State.openAccount] using law
  bind _ _ _ _ _ _ _ _ _ law := law
  unbind _ _ _ _ _ law := law
  preset _ _ _ _ _ _ _ _ _ _ _ law := by simpa [answerEvaluated, answer] using law
  retireAccount _ _ law := law
  serviceDone _ _ _ _ _ _ _ _ law := by simpa [answerEvaluated, answer] using law
  trigger s law := s.trigger_storeLaw law
  roster _ _ law := law
  item s code index value _ _ law := by simpa using law
  askConfigWrite s _ law := s.askConfigWrite_storeLaw law
  checkConfig s law := by unfold State.checkConfig; split <;> exact law
  openHandover s crew window _ _ _ law := by simpa using law
  takeWatch s crew _ _ law := State.trigger_storeLaw _ law
  sign _ _ _ _ law := law
  completed s stamp _ law := State.trigger_storeLaw _ law
  aborted _ _ law := law
  scannerTick s law := by simpa using law
  tallyTick s law := by simpa using law
  warningExpiry s law := by simpa using law
  windowExpiry s law := by simpa using law
  storeTick s law := by
    unfold State.storeTick
    split
    · exact law
    · exact State.trigger_storeLaw _ law
  takeMinute s t law := by simpa using law
  handlePending s law := by simpa using law
  sampleLines s levels first law := by simpa using law
  sampleUnits s lines law := by simpa using law
  beginFreeze s law := State.takeWarning_storeLaw _ law
  release s law := State.releaseWalk_storeLaw _ (by simpa using law)
  imageEnd s verify law := s.imageEnd_storeLaw verify law
  configWriteEnd s verify law := s.configWriteEnd_storeLaw verify law
  stopStore s image config _ := s.stopStore_storeLaw image config
  coldStart s _ := s.coldStart_storeLaw
  warmStart _ _ := State.resume_storeLaw ..
  resetStart _ _ := State.resume_storeLaw ..

/-! ### The walk's states (R128, R132, R133) -/

end Sys2Proof.Machine

namespace Sys2Proof.Safety

open Sys2Proof Sys2Proof.Machine

/-- The law of the walk reads the store and the freeze. -/
theorem WalkLaw.of_same {s t : State} (law : WalkLaw s) (store : t.store = s.store) (freeze : t.tally.freeze = s.tally.freeze) :
    WalkLaw t := by
  rw [WalkLaw, store, freeze]; exact law

/-- The law reads walk, final walk due, holder and freeze. -/
theorem WalkLaw.of_fields {s t : State} (law : WalkLaw s) (walk : t.store.walk = s.store.walk)
    (due : t.store.finalDue = s.store.finalDue) (holder : t.store.holder = s.store.holder)
    (freeze : t.tally.freeze = s.tally.freeze) : WalkLaw t := by
  rw [WalkLaw, walk, due, holder, freeze]; exact law

/-- With no final walk due and no walk HELD the law asks nothing. -/
theorem WalkLaw.of_not_due {s : State} (held : s.store.walk ≠ .held) (due : s.store.finalDue = false) : WalkLaw s :=
  ⟨fun walk => (held walk).elim, by simp [due]⟩

/-- With the port free no final walk is due. -/
theorem WalkLaw.not_due {s : State} (law : WalkLaw s) (free : s.store.holder = .none) : s.store.finalDue = false :=
  Bool.eq_false_iff.mpr fun due => (law.2 due).1 free

/-- In FINAL no final walk is due. -/
theorem WalkLaw.not_due_final {s : State} (law : WalkLaw s) (final : s.store.walk = .final) : s.store.finalDue = false :=
  Bool.eq_false_iff.mpr fun due => by simpa [final] using (law.2 due).2

/-- A change of the walk's place in a walk keeps the law. -/
theorem WalkLaw.between {s t : State} (law : WalkLaw s) (due : t.store.finalDue = s.store.finalDue)
    (holder : s.store.holder ≠ .none → t.store.holder ≠ .none) (walk : t.store.walk = .idle ∨ t.store.walk = .walking) : WalkLaw t := by
  refine ⟨fun held => by simp [held] at walk, fun is => ⟨holder (law.2 (due ▸ is)).1, walk⟩⟩

end Sys2Proof.Safety

namespace Sys2Proof.Machine

open Sys2Proof Sys2Proof.Claim Sys2Proof.Safety

/-- A visit keeps the law. -/
theorem State.visit_walkLaw {n : Nat} {s t : State} (visited : s.visit n = some t) (law : WalkLaw s) : WalkLaw t := by
  obtain ⟨i, none, rfl⟩ | ⟨i, -, rfl⟩ := State.visit_some visited
  · refine ⟨fun held => by simpa [State.capture] using law.1 held, fun due => ?_⟩
    exact absurd none (law.2 due).1
  · exact law

/-- The grant of the port keeps the law. -/
theorem State.grantConfig_walkLaw (s : State) (law : WalkLaw s) : WalkLaw s.grantConfig := by
  refine ⟨fun held => ?_, fun due => ⟨?_, ?_⟩⟩
  · rw [State.grantConfig_walk] at held
    rw [State.grantConfig_tally]
    exact law.1 held
  · rw [State.grantConfig_finalDue] at due
    have held := (law.2 due).1
    unfold State.grantConfig
    split
    · rename_i grants
      simp only [Bool.and_eq_true, beq_iff_eq] at grants
      exact (held grants.1.2).elim
    · exact held
  · rw [State.grantConfig_finalDue] at due
    rw [State.grantConfig_walk]
    exact (law.2 due).2

/-- The end of a walk keeps the law: it is HELD only while the warning holds. -/
theorem State.endWalk_walkLaw (s : State) (law : WalkLaw s) : WalkLaw s.endWalk := by
  unfold State.endWalk
  split
  · split
    · extract_lets b
      have begun : WalkLaw b := law.between rfl id (.inr rfl)
      cases visited : b.visit 0 with
      | none => exact begun.between rfl id (.inl rfl)
      | some t => exact State.visit_walkLaw visited begun
    · exact law.between rfl id (.inl rfl)
  · rename_i final
    refine State.grantConfig_walkLaw _ ⟨fun held => ?_, fun due => absurd due (by simp [law.not_due_final final])⟩
    by_contra thawed
    simp [thawed] at held
  · exact law
  · exact law

/-- A walk going on keeps the law. -/
theorem State.goOn_walkLaw (n : Nat) (s : State) (law : WalkLaw s) : WalkLaw (s.goOn n) := by
  unfold State.goOn
  cases visited : s.visit n with
  | none => exact s.endWalk_walkLaw law
  | some t => exact State.visit_walkLaw visited law

/-- A trigger keeps the law. -/
theorem State.trigger_walkLaw (s : State) (law : WalkLaw s) : WalkLaw s.trigger := by
  unfold State.trigger
  split
  · exact State.goOn_walkLaw _ _ (law.between rfl id (.inr rfl))
  · exact law
  · exact law
  · exact law

/-- A final walk leaves the law: none is due any more. -/
theorem State.beginFinal_walkLaw (s : State) : WalkLaw s.beginFinal :=
  State.goOn_walkLaw _ _ (.of_not_due (by simp [Store.begin]) rfl)

/-- Taking the warning keeps the law: the final walk is due only behind a write. -/
theorem State.takeWarning_walkLaw (s : State) (law : WalkLaw s) : WalkLaw s.takeWarning := by
  unfold State.takeWarning
  split
  · exact law
  · exact law
  · rename_i idle
    split
    · exact s.beginFinal_walkLaw
    · rename_i held
      exact ⟨law.1, fun _ => ⟨held, .inl idle⟩⟩
  · rename_i walking
    split
    · exact s.beginFinal_walkLaw
    · rename_i held
      exact ⟨law.1, fun _ => ⟨held, .inr walking⟩⟩

/-- The freeze that begins with the warning keeps the law. -/
theorem State.beginFreeze_walkLaw (s : State) (law : WalkLaw s) : WalkLaw s.beginFreeze :=
  State.takeWarning_walkLaw _ ⟨fun _ => rfl, law.2⟩

/-- The release of the warning leaves the law: HELD goes with the freeze. -/
theorem State.release_walkLaw (s : State) (law : WalkLaw s) : WalkLaw s.credit.releaseWalk := by
  unfold State.releaseWalk
  rw [State.credit_store]
  split
  · rename_i final
    exact .of_not_due nofun (law.not_due_final final)
  · rename_i held
    refine .of_not_due nofun (Bool.eq_false_iff.mpr fun due => ?_)
    simpa [held] using (law.2 due).2
  · rename_i idle
    exact ⟨fun held => by simp [idle] at held, fun due => by simpa using law.2 (by simpa using due)⟩
  · rename_i walking
    exact ⟨fun held => by simp [walking] at held, fun due => by simpa using law.2 (by simpa using due)⟩

/-- The store's next move after an image write leaves the law. -/
theorem State.afterImage_walkLaw (i : Fin 32) (s : State) (held : s.store.walk = .held → s.tally.freeze = true) :
    WalkLaw (s.afterImage i) := by
  unfold State.afterImage
  split
  · exact s.beginFinal_walkLaw
  · rename_i due
    have granted := s.grantConfig_walkLaw ⟨held, fun is => (due is).elim⟩
    split
    · exact State.goOn_walkLaw _ _ granted
    · exact granted

/-- The store's next move after a configuration write leaves the law. -/
theorem State.afterConfig_walkLaw (s : State) (held : s.store.walk = .held → s.tally.freeze = true) : WalkLaw s.afterConfig := by
  unfold State.afterConfig
  split
  · exact s.beginFinal_walkLaw
  · rename_i due
    have law : WalkLaw s := ⟨held, fun is => (due is).elim⟩
    split
    · exact State.goOn_walkLaw _ _ law
    · exact law

/-- The end of an image write keeps the law. -/
theorem State.imageEnd_walkLaw (verify : ImageVerify) (s : State) (law : WalkLaw s) : WalkLaw (s.imageEnd verify) := by
  unfold State.imageEnd
  split
  · exact law
  · rename_i w writes
    split
    · exact State.afterImage_walkLaw _ _ law.1
    · split
      · exact State.afterImage_walkLaw _ _ (by simpa using law.1)
      · refine ⟨law.1, fun due => ⟨?_, (law.2 due).2⟩⟩
        simp [Store.holder]

/-- The end of a configuration write keeps the law. -/
theorem State.configWriteEnd_walkLaw (verify : ConfigVerify) (s : State) (law : WalkLaw s) : WalkLaw (s.configWriteEnd verify) := by
  unfold State.configWriteEnd State.configEnd
  cases writes : s.store.configWrite with
  | none => exact law
  | some c =>
    cases c with
    | waiting => exact law
    | writing second image =>
      cases verify with
      | matched => exact State.afterConfig_walkLaw _ (by simpa using law.1)
      | mismatched retained =>
        cases second
        · exact ⟨law.1, fun due => ⟨fun free => ((Store.holder_none_iff _).mp free).2 true image rfl, (law.2 due).2⟩⟩
        · exact State.afterConfig_walkLaw _ (by simpa using law.1)

/-- The start trigger keeps the law. -/
theorem State.startTrigger_walkLaw (s : State) (law : WalkLaw s) : WalkLaw s.startTrigger := by
  unfold State.startTrigger
  split
  · exact s.takeWarning_walkLaw law
  · exact s.trigger_walkLaw law

theorem State.resume_walkLaw (gap : Nat) (keep : Bool) (s : State) : WalkLaw (s.resume gap keep) := by
  refine State.startTrigger_walkLaw _ (.of_not_due ?_ ?_)
  all_goals simp [Store.checked]

theorem State.coldStart_walkLaw (s : State) : WalkLaw s.coldStart := by
  refine State.startTrigger_walkLaw _ (.of_not_due ?_ ?_)
  all_goals
    simp only [State.foundWarning_store, State.raiseWord_store, State.raise_store, State.startPort_store, State.coldWatch_store,
      State.coldTallies_store]
  · exact Store.checked_walk _
  · exact Store.checked_finalDue _

/-! Counting leaves the freeze. -/

@[simp] theorem State.onBound_freeze (f : Fin 8 → AccountClass → Option (Account → Account × Word32)) (s : State) :
    (s.onBound f).tally.freeze = s.tally.freeze := by simp [State.onBound]
@[simp] theorem State.tallyTick_freeze (s : State) : s.tallyTick.tally.freeze = s.tally.freeze := by
  simp [State.tallyTick, Tally.changeUnits]
@[simp] theorem State.takeReport_freeze (u : Fin 8) (r : Report) (s : State) : (s.takeReport u r).tally.freeze = s.tally.freeze := by
  unfold State.takeReport; split <;> simp [Tally.changeUnit]
@[simp] theorem State.takeTripReport_freeze (u : Fin 8) (m : UnitMode) (s : State) :
    (s.takeTripReport u m).tally.freeze = s.tally.freeze := by simp [State.takeTripReport, Tally.changeUnit]
@[simp] theorem State.reportTrip_freeze (l : Fin 32) (m : TripMode) (s : State) : (s.reportTrip l m).tally.freeze = s.tally.freeze := by
  unfold State.reportTrip; split <;> simp
@[simp] theorem State.handOn_freeze (l : Fin 32) (e : LineEvent) (s : State) : (s.handOn l e).tally.freeze = s.tally.freeze := by
  unfold State.handOn; split <;> simp
@[simp] theorem State.sampleOne_freeze (st : Stamp) (lv : Vector Bool 32) (l : Fin 32) (s : State) :
    (s.sampleOne st lv l).tally.freeze = s.tally.freeze := by
  unfold State.sampleOne; dsimp only; repeat' split
  all_goals simp
@[simp] theorem State.sampleLines_freeze (lv : Vector Bool 32) (fs : List (Fin 32)) (s : State) :
    (s.sampleLines lv fs).tally.freeze = s.tally.freeze := foldl_keeps (·.tally.freeze) _ (fun s i => by simp) s _
@[simp] theorem State.sampleUnit_freeze (ls : Vector UnitLines 8) (u : Fin 8) (s : State) :
    (s.sampleUnit ls u).tally.freeze = s.tally.freeze := foldl_keeps (·.tally.freeze) _ (fun s i => by simp) _ _
@[simp] theorem State.sampleUnits_freeze (ls : Vector UnitLines 8) (s : State) : (s.sampleUnits ls).tally.freeze = s.tally.freeze := by
  unfold State.sampleUnits
  exact foldl_keeps (·.tally.freeze) (fun t u => t.sampleUnit ls u) (fun s i => s.sampleUnit_freeze ls i) s _

/-- HELD under the warning and the final walk due: only the Store Controller and the freeze touch them. -/
theorem walkLaw_kept : KeptAside WalkLaw where
  aside _ _ _ _ _ law := law.of_same rfl rfl
  inject s line duration law := law.of_same (by simp [State.inject]) (by simp [State.inject])
  endTest _ _ law := law.of_same rfl rfl
  acknowledge _ _ _ _ _ law := law.of_same rfl rfl
  cause _ _ _ _ _ law := law.of_same rfl rfl
  retire _ _ law := law.of_same rfl rfl
  markCarries _ law := law.of_same rfl rfl
  openAccount _ _ _ _ _ _ _ _ law := law.of_same (by simp [State.openAccount]) (by simp [State.openAccount])
  bind _ _ _ _ _ _ _ _ _ law := law.of_same rfl rfl
  unbind _ _ _ _ _ law := law.of_same rfl rfl
  preset _ _ _ _ _ _ _ _ _ _ _ law := law.of_same (by simp [answerEvaluated, answer])
    (by simp [answerEvaluated, answer, State.setAccount])
  retireAccount _ _ law := law.of_same rfl rfl
  serviceDone _ _ _ _ _ _ _ _ law := law.of_same (by simp [answerEvaluated, answer])
    (by simp [answerEvaluated, answer, State.setAccount])
  trigger s law := s.trigger_walkLaw law
  roster _ _ law := law.of_same rfl rfl
  item s code index value _ _ law := law.of_same (by simp) (by simp)
  askConfigWrite s idle law := by
    refine State.grantConfig_walkLaw _ ⟨law.1, fun due => ?_⟩
    refine ⟨fun free => (law.2 due).1 ?_, (law.2 due).2⟩
    exact (Store.holder_none_iff _).mpr ⟨((Store.holder_none_iff _).mp free).1, by simp [idle]⟩
  checkConfig s law := by
    unfold State.checkConfig
    split
    · exact law
    · exact law.of_fields rfl rfl rfl rfl
  openHandover s crew window _ _ _ law := law.of_same (by simp) (by simp)
  takeWatch s crew _ _ law := State.trigger_walkLaw _ (law.of_same rfl rfl)
  sign _ _ _ _ law := law.of_same rfl rfl
  completed s stamp _ law := State.trigger_walkLaw _ (law.of_same rfl rfl)
  aborted _ _ law := law.of_same rfl rfl
  scannerTick s law := law.of_same (by simp) (by simp)
  tallyTick s law := law.of_same (by simp) (by simp)
  warningExpiry s law := law.of_same (by simp) (by simp)
  windowExpiry s law := law.of_same (by simp) (by simp)
  storeTick s law := by
    unfold State.storeTick
    split
    · exact law.of_fields rfl rfl rfl rfl
    · exact State.trigger_walkLaw _ (law.of_fields rfl rfl rfl rfl)
  takeMinute s t law := law.of_same (by simp) (by simp)
  handlePending s law := law.of_same (by simp) (by simp)
  sampleLines s levels first law := law.of_same (by simp) (by simp)
  sampleUnits s lines law := law.of_same (by simp) (by simp)
  beginFreeze s law := s.beginFreeze_walkLaw law
  release s law := s.release_walkLaw law
  imageEnd s verify law := s.imageEnd_walkLaw verify law
  configWriteEnd s verify law := s.configWriteEnd_walkLaw verify law
  stopStore s image config _ := .of_not_due nofun rfl
  coldStart s _ := s.coldStart_walkLaw
  warmStart _ _ := State.resume_walkLaw ..
  resetStart _ _ := State.resume_walkLaw ..

end Sys2Proof.Machine
end

section
/-! The Station Port keeps its law (R162, R165): what the blocks do to the port beside the requests is to raise latched events. -/

namespace Sys2Proof.Machine

open Sys2Proof Sys2Proof.Claim Sys2Proof.Safety

/-! ### Raised conditions -/

/-- The zero bits of the latched word. -/
def NoHeldBits (w : Word32) : Prop := w &&& 0xFFFFF000#32 = 0#32

theorem NoHeldBits.zero : NoHeldBits 0#32 := by unfold NoHeldBits; decide

theorem NoHeldBits.event (e : Event) : NoHeldBits e.bit := by
  unfold NoHeldBits; cases e <;> decide

theorem NoHeldBits.or {v w : Word32} (a : NoHeldBits v) (b : NoHeldBits w) : NoHeldBits (v ||| w) := by
  unfold NoHeldBits at *
  rw [BitVec.and_comm, BitVec.and_or_distrib_left, BitVec.and_comm _ v, BitVec.and_comm _ w, a, b]
  rfl

theorem NoHeldBits.and {v : Word32} (a : NoHeldBits v) (w : Word32) : NoHeldBits (v &&& w) := by
  unfold NoHeldBits at *
  rw [BitVec.and_assoc, BitVec.and_comm w, ← BitVec.and_assoc, a]
  simp

theorem NoHeldBits.serviceEvents (a b : Service) : NoHeldBits (serviceEvents a b) := by
  unfold NoHeldBits; cases a <;> cases b <;> decide

/-- Latched events are raised and the rest of the port stands. -/
def Port.Raised (p q : Port) : Prop := ∃ w, NoHeldBits w ∧ q = { p with latched := p.latched ||| w }

theorem Port.Raised.refl (p : Port) : p.Raised p := ⟨0#32, .zero, by simp⟩

theorem Port.Raised.trans {p q r : Port} (a : p.Raised q) (b : q.Raised r) : p.Raised r := by
  obtain ⟨v, zv, rfl⟩ := a
  obtain ⟨w, zw, rfl⟩ := b
  exact ⟨v ||| w, zv.or zw, by simp [BitVec.or_assoc]⟩

/-- Raised conditions, and a configuration write that waits or is in progress still does. -/
def Quiet (s t : State) : Prop := s.port.Raised t.port ∧ t.store.configWrite.isSome = s.store.configWrite.isSome

theorem Quiet.refl (s : State) : Quiet s s := ⟨.refl _, rfl⟩

theorem Quiet.trans {s t u : State} (a : Quiet s t) (b : Quiet t u) : Quiet s u := ⟨a.1.trans b.1, b.2.trans a.2⟩

/-- Operations that touch neither port nor store. -/
theorem Quiet.of_same {s t : State} (port : t.port = s.port) (store : t.store = s.store) : Quiet s t := by
  rw [Quiet, port, store]; exact ⟨.refl _, rfl⟩

/-- A quiet operation after one that touches neither port nor store. -/
theorem Quiet.after {s t u : State} (q : Quiet t u) (port : t.port = s.port) (store : t.store = s.store) : Quiet s u :=
  (Quiet.of_same port store).trans q

/-- Operations of the Store Controller that leave the port and whether a configuration write is asked for. -/
theorem Quiet.of_store {s t : State} (port : t.port = s.port) (asked : t.store.configWrite.isSome = s.store.configWrite.isSome) :
    Quiet s t := by
  rw [Quiet, port]; exact ⟨.refl _, asked⟩

theorem State.raiseWord_quiet (w : Word32) (s : State) (zero : NoHeldBits w) : Quiet s (s.raiseWord w) := by
  unfold State.raiseWord
  split
  · exact ⟨⟨w, zero, rfl⟩, rfl⟩
  · exact .refl s

theorem State.raise_quiet (e : Event) (s : State) : Quiet s (s.raise e) := s.raiseWord_quiet _ (.event e)

/-- A fold of quiet steps is quiet. -/
theorem Quiet.foldl {α : Type} (f : State → α → State) (step : ∀ s a, Quiet s (f s a)) (l : List α) (s : State) :
    Quiet s (l.foldl f s) := by
  induction l generalizing s with
  | nil => exact .refl s
  | cons a l ih => exact (step s a).trans (ih _)

/-! ### Accounts raise service conditions (R112) -/

/-- A change of accounts raises service conditions alone. -/
def RaisesService (g : Account → Account × Word32) : Prop := ∀ a, NoHeldBits (g a).2

theorem Account.evaluate_noHeldBits (a : Account) : NoHeldBits a.evaluate.2 := by
  unfold Account.evaluate
  split
  · exact .zero
  · exact .serviceEvents _ _

theorem Account.evaluateIfMoved_noHeldBits (a b : Account) : NoHeldBits (a.evaluateIfMoved b).2 := by
  unfold Account.evaluateIfMoved
  split
  · exact .zero
  · exact a.evaluate_noHeldBits

theorem accrueSecond_raises (cfg : LiveConfig) (c : AccountClass) (m : RunMode) : RaisesService (accrueSecond cfg c m) :=
  fun _ => Account.evaluate_noHeldBits _

theorem accrueTrip_raises (cfg : LiveConfig) (m : UnitMode) (c : AccountClass) : RaisesService (accrueTrip cfg m c) :=
  fun _ => Account.evaluate_noHeldBits _

theorem creditAccount_raises (cfg : LiveConfig) (e : SideEntry) (c : AccountClass) : RaisesService (creditAccount cfg e c) :=
  fun _ => Account.evaluate_noHeldBits _

theorem reportAccount_raises (cfg : LiveConfig) (r : Report) (c : AccountClass) : RaisesService (reportAccount cfg r c) := by
  intro a
  cases r with
  | start m => exact Account.evaluateIfMoved_noHeldBits _ _
  | change m => exact Account.evaluateIfMoved_noHeldBits _ _
  | closing =>
    unfold reportAccount accrueClosing
    dsimp only
    split
    · exact Account.evaluate_noHeldBits _
    · exact .zero

theorem AccountSlot.onBound_noHeldBits {f : Fin 8 → AccountClass → Option (Account → Account × Word32)}
    (raises : ∀ u c g, f u c = some g → RaisesService g) (a : AccountSlot) : NoHeldBits (a.onBound f).2 := by
  unfold AccountSlot.onBound
  split
  · exact .zero
  · split
    · exact .zero
    · split
      · exact .zero
      · rename_i g found
        obtain ⟨u, -, found⟩ := Option.bind_eq_some_iff.mp found
        exact raises _ _ g found _

theorem foldl_or_noHeldBits {α : Type} (f : α → Word32) (zero : ∀ a, NoHeldBits (f a)) (l : List α) (w : Word32) (start : NoHeldBits w) :
    NoHeldBits (l.foldl (fun w a => w ||| f a) w) := by
  induction l generalizing w with
  | nil => exact start
  | cons a l ih => exact ih _ (start.or (zero a))

theorem State.onBound_quiet {f : Fin 8 → AccountClass → Option (Account → Account × Word32)} (s : State)
    (raises : ∀ u c g, f u c = some g → RaisesService g) : Quiet s (s.onBound f) := by
  have zero := foldl_or_noHeldBits (fun i : Fin 24 => (s.tally.accounts[i].onBound f).2)
    (fun _ => AccountSlot.onBound_noHeldBits raises _) (List.finRange 24) 0#32 .zero
  unfold State.onBound
  exact Quiet.after (State.raiseWord_quiet _ _ zero) rfl rfl

/-- A change for one unit's accounts raises what it raises. -/
theorem forUnit_raises {u : Fin 8} {g : AccountClass → Account → Account × Word32} (raises : ∀ c, RaisesService (g c)) (v : Fin 8)
    (c : AccountClass) (h : Account → Account × Word32) (found : forUnit u g v c = some h) : RaisesService h := by
  unfold forUnit at found
  split at found
  · cases found; exact raises c
  · cases found

theorem State.tallyTick_quiet (s : State) : Quiet s s.tallyTick := by
  refine Quiet.after (State.onBound_quiet _ fun u c g found => ?_) rfl rfl
  unfold tickAccount at found
  split at found
  · obtain ⟨m, -, rfl⟩ := Option.map_eq_some_iff.mp found
    exact accrueSecond_raises _ _ _
  · cases found

theorem State.takeReport_quiet (u : Fin 8) (r : Report) (s : State) : Quiet s (s.takeReport u r) := by
  unfold State.takeReport
  split
  · exact .of_same rfl rfl
  · exact Quiet.after (State.onBound_quiet _ (forUnit_raises fun c => reportAccount_raises _ _ c)) rfl rfl

theorem State.takeTripReport_quiet (u : Fin 8) (m : UnitMode) (s : State) : Quiet s (s.takeTripReport u m) :=
  Quiet.after (State.onBound_quiet _ (forUnit_raises fun c => accrueTrip_raises _ _ c)) rfl rfl

theorem State.credit_quiet (s : State) : Quiet s s.credit := by
  refine Quiet.after (State.onBound_quiet _ fun u c g found => ?_) rfl rfl
  cases found
  exact creditAccount_raises _ _ _

/-! ### The other blocks -/

theorem State.takeAssertion_quiet (a : Assertion) (s : State) : Quiet s (s.takeAssertion a) := by
  unfold State.takeAssertion
  exact Quiet.after (State.raise_quiet _ _) rfl rfl

theorem State.reportTrip_quiet (l : Fin 32) (m : TripMode) (s : State) : Quiet s (s.reportTrip l m) := by
  unfold State.reportTrip
  split
  · exact s.takeTripReport_quiet _ _
  · exact .refl s

theorem State.handOn_quiet (l : Fin 32) (e : LineEvent) (s : State) : Quiet s (s.handOn l e) := by
  unfold State.handOn
  split
  · exact Quiet.after ((State.takeAssertion_quiet _ _).trans (State.reportTrip_quiet _ _ _)) rfl rfl
  · exact .of_same rfl rfl

theorem State.sampleOne_quiet (st : Stamp) (lv : Vector Bool 32) (l : Fin 32) (s : State) : Quiet s (s.sampleOne st lv l) := by
  unfold State.sampleOne
  dsimp only
  split
  · split
    · exact Quiet.after (State.handOn_quiet _ _ _) rfl rfl
    · exact .of_same rfl rfl
  · exact .refl s

theorem State.sampleLines_quiet (lv : Vector Bool 32) (fs : List (Fin 32)) (s : State) : Quiet s (s.sampleLines lv fs) :=
  Quiet.foldl _ (fun s i => State.sampleOne_quiet _ lv i s) _ s

theorem State.sampleUnits_quiet (ls : Vector UnitLines 8) (s : State) : Quiet s (s.sampleUnits ls) := by
  refine Quiet.foldl _ (fun s u => ?_) _ s
  exact Quiet.after (Quiet.foldl (fun (t : State) rep => t.takeReport u rep) (fun s r => s.takeReport_quiet u r) _ _) rfl rfl

theorem State.inject_quiet (line : Fin 32) (duration : Nat) (s : State) : Quiet s (s.inject line duration) := by
  unfold State.inject
  exact Quiet.after (State.takeAssertion_quiet _ _) rfl rfl

theorem State.openHandover_quiet (o : Origin) (c : Fin 16) (w warn : Nat) (s : State) : Quiet s (s.openHandover o c w warn) :=
  Quiet.after (State.raise_quiet _ _) rfl rfl

theorem State.makePending_quiet (i : Fin 6) (s : State) : Quiet s (s.makePending i) := by
  unfold State.makePending
  split
  · exact .of_same rfl rfl
  · exact Quiet.after (State.raise_quiet _ _) rfl rfl

theorem State.takeSlot_quiet (i : Fin 6) (d : Int) (s : State) : Quiet s (s.takeSlot i d) := by
  unfold State.takeSlot
  dsimp only
  split
  · exact .of_same rfl rfl
  · split
    · exact .of_same rfl rfl
    · exact (s.openHandover_quiet _ _ _ _).trans (.of_same rfl rfl)
  · exact (s.makePending_quiet i).trans (.of_same rfl rfl)
  · exact (s.makePending_quiet i).trans (.of_same rfl rfl)

theorem State.takeMinute_quiet (t : LocalTime) (s : State) : Quiet s (s.takeMinute t) := by
  unfold State.takeMinute
  split
  · refine Quiet.foldl _ (fun s i => ?_) _ s
    unfold State.trySlot
    split
    · exact Quiet.after (State.takeSlot_quiet _ _ _) rfl rfl
    · exact .refl s
  · exact .refl s

theorem State.handlePending_quiet (s : State) : Quiet s s.handlePending := by
  unfold State.handlePending
  split
  · exact .refl s
  · dsimp only
    split
    · exact .of_same rfl rfl
    · exact Quiet.after (State.takeSlot_quiet _ _ _) rfl rfl

theorem State.warningExpiry_quiet (s : State) : Quiet s s.warningExpiry := by
  unfold State.warningExpiry
  split
  · exact Quiet.after (State.raise_quiet _ _) rfl rfl
  · exact .refl s

/-! ### The walk leaves whether a configuration write is asked for -/

theorem State.grantConfig_asked (s : State) : s.grantConfig.store.configWrite.isSome = s.store.configWrite.isSome := by
  unfold State.grantConfig
  split
  · rename_i grants
    simp only [Bool.and_eq_true, Store.configWaiting, beq_iff_eq] at grants
    simp [grants.1.1]
  · rfl

theorem State.visit_asked {n : Nat} {s t : State} (visited : s.visit n = some t) :
    t.store.configWrite.isSome = s.store.configWrite.isSome := by
  obtain ⟨i, -, rfl⟩ | ⟨i, -, rfl⟩ := State.visit_some visited <;> rfl

theorem State.endWalk_asked (s : State) : s.endWalk.store.configWrite.isSome = s.store.configWrite.isSome := by
  unfold State.endWalk
  split
  · split
    · extract_lets b
      cases visited : b.visit 0 with
      | none => rfl
      | some t => exact State.visit_asked (s := b) (t := t) visited
    · rfl
  · exact State.grantConfig_asked _
  · rfl
  · rfl

theorem State.goOn_asked (n : Nat) (s : State) : (s.goOn n).store.configWrite.isSome = s.store.configWrite.isSome := by
  unfold State.goOn
  cases visited : s.visit n with
  | none => exact s.endWalk_asked
  | some t => exact State.visit_asked visited

theorem State.trigger_asked (s : State) : s.trigger.store.configWrite.isSome = s.store.configWrite.isSome := by
  unfold State.trigger
  split
  · exact State.goOn_asked _ _
  · rfl
  · rfl
  · rfl

theorem State.beginFinal_asked (s : State) : s.beginFinal.store.configWrite.isSome = s.store.configWrite.isSome :=
  State.goOn_asked _ _

theorem State.takeWarning_asked (s : State) : s.takeWarning.store.configWrite.isSome = s.store.configWrite.isSome := by
  unfold State.takeWarning
  split
  · rfl
  · rfl
  all_goals
    split
    · exact s.beginFinal_asked
    · rfl

theorem State.releaseWalk_asked (s : State) : s.releaseWalk.store.configWrite.isSome = s.store.configWrite.isSome := by
  unfold State.releaseWalk; split <;> rfl

theorem State.afterImage_asked (i : Fin 32) (s : State) :
    (s.afterImage i).store.configWrite.isSome = s.store.configWrite.isSome := by
  unfold State.afterImage
  split
  · exact s.beginFinal_asked
  · split
    · exact (State.goOn_asked _ _).trans s.grantConfig_asked
    · exact s.grantConfig_asked

theorem State.afterConfig_asked (s : State) : s.afterConfig.store.configWrite.isSome = s.store.configWrite.isSome := by
  unfold State.afterConfig
  split
  · exact s.beginFinal_asked
  · split
    · exact State.goOn_asked _ _
    · rfl

theorem State.imageEnd_asked (verify : ImageVerify) (s : State) :
    (s.imageEnd verify).store.configWrite.isSome = s.store.configWrite.isSome := by
  unfold State.imageEnd
  split
  · rfl
  · split
    · exact State.afterImage_asked _ _
    · split
      · exact State.afterImage_asked _ _
      · rfl

theorem State.storeTick_asked (s : State) : s.storeTick.store.configWrite.isSome = s.store.configWrite.isSome := by
  unfold State.storeTick
  split
  · rfl
  · exact State.trigger_asked _

/-- What the Time Base does is quiet. -/
theorem quiet_byTime (s₀ : State) : KeptByTime (Quiet s₀) where
  time _ _ q := q.trans (.of_same rfl rfl)
  raise s e q := q.trans (s.raise_quiet e)
  scannerTick _ q := q.trans (.of_same (by simp) (by simp))
  tallyTick s q := q.trans s.tallyTick_quiet
  warningExpiry s q := q.trans s.warningExpiry_quiet
  windowExpiry _ q := q.trans (.of_same (by simp) (by simp))
  storeTick s q := q.trans (.of_store (by simp) s.storeTick_asked)
  takeMinute s t q := q.trans (s.takeMinute_quiet t)
  handlePending s q := q.trans s.handlePending_quiet


end Sys2Proof.Machine

namespace Sys2Proof.Safety

open Sys2Proof Sys2Proof.Machine

/-! ### The port's law, by its words and its slots -/

/-- The law stands where slots and placing order stand, the words keep their zero bits, and a configuration write asked for still is. -/
theorem PortLaw.of_fields {p q : Port} {t u : Store} (law : PortLaw p t) (slots : q.slots = p.slots) (order : q.nextOrder = p.nextOrder)
    (latched : NoHeldBits q.latched) (mask : q.mask &&& 0xFF00F000#32 = 0#32)
    (asked : t.configWrite.isSome = true → u.configWrite.isSome = true) : PortLaw q u := by
  obtain ⟨-, -, waits, one, past, distinct⟩ := law
  refine ⟨latched, mask, ?_⟩
  rw [slots, order]
  exact ⟨fun i head at' => asked (waits i head at'), one, past, distinct⟩

theorem PortLaw.latched {p : Port} {t : Store} (law : PortLaw p t) : NoHeldBits p.latched := law.1

theorem PortLaw.mask {p : Port} {t : Store} (law : PortLaw p t) : p.mask &&& 0xFF00F000#32 = 0#32 := law.2.1

/-- A quiet operation keeps the law. -/
theorem PortLaw.quiet {s t : State} (law : PortLaw s.port s.store) (quiet : Quiet s t) : PortLaw t.port t.store := by
  obtain ⟨⟨w, zero, raised⟩, asked⟩ := quiet
  rw [raised]
  exact law.of_fields rfl rfl (law.latched.or zero) law.mask (by rw [asked]; exact id)

/-- Free slots, no latched event and no mask meet the law. -/
theorem PortLaw.of_fresh {p : Port} (t : Store) (slots : p.slots = Vector.replicate 2 .free) (latched : p.latched = 0#32)
    (mask : p.mask = 0#32) : PortLaw p t := by
  refine ⟨by rw [latched]; decide, by rw [mask]; decide, ?_⟩
  rw [slots]
  simp

/-- The law of a port that drops its slots. -/
theorem PortLaw.drop {p : Port} {t : Store} (law : PortLaw p t) (u : Store) :
    PortLaw { p with slots := Vector.replicate 2 .free } u := by
  refine ⟨law.latched, law.mask, ?_⟩
  simp

/-- Placing a reply keeps the law, and reserves nothing. -/
theorem PortLaw.place {s : State} {t : Store} (law : PortLaw s.port t) (i : Fin 2) (r : Reply) : PortLaw (s.place i r).port t := by
  obtain ⟨latched, mask, waits, one, past, distinct⟩ := law
  refine ⟨latched, mask, fun j head at' => ?_, fun j k a b at' at'' => ?_, fun j n q at' => ?_, fun j k n q q' at' at'' => ?_⟩
  all_goals simp only [State.place, getElem_set_fin] at *
  · split at at'
    · cases at'
    · exact waits j head at'
  · split at at'
    · cases at'
    · split at at''
      · cases at''
      · exact one j k a b at' at''
  · split at at'
    · cases at'; omega
    · exact (past j n q at').trans (Nat.lt_succ_self _)
  · split at at' <;> split at at''
    · simp_all
    · cases at'
      exact absurd (past k _ _ at'') (lt_irrefl _)
    · cases at''
      exact absurd (past j _ _ at') (lt_irrefl _)
    · exact distinct j k n q q' at' at''

/-- Freeing a slot keeps the law. -/
theorem PortLaw.free {p : Port} {t : Store} (law : PortLaw p t) (i : Fin 2) : PortLaw { p with slots := p.slots.set i .free } t := by
  obtain ⟨latched, mask, waits, one, past, distinct⟩ := law
  refine ⟨latched, mask, fun j head at' => ?_, fun j k a b at' at'' => ?_, fun j n q at' => ?_, fun j k n q q' at' at'' => ?_⟩
  all_goals simp only [getElem_set_fin] at *
  all_goals
    split at at'
    · cases at'
  · exact waits j head at'
  · split at at''
    · cases at''
    · exact one j k a b at' at''
  · exact past j n q at'
  · split at at''
    · cases at''
    · exact distinct j k n q q' at' at''

/-- A slot reserved for a configuration write just asked for keeps the law: none was reserved before. -/
theorem PortLaw.reserve {s t : State} (reserves : Reserves s t) (before : PortLaw s.port s.store) (law : PortLaw t.port t.store) (i : Fin 2)
    (head : ReplyHead) : PortLaw (t.fill i head none).port t.store := by
  obtain ⟨idle, asked, slots⟩ := reserves
  have unreserved : ∀ (j : Fin 2) (a : ReplyHead), t.port.slots[j] ≠ .reserved a := fun j a at' => by
    rw [slots] at at'
    simpa [idle] using before.2.2.1 j a at'
  obtain ⟨latched, mask, waits, one, past, distinct⟩ := law
  refine ⟨latched, mask, fun _ _ _ => asked, fun j k a b at' at'' => ?_, fun j n q at' => ?_, fun j k n q q' at' at'' => ?_⟩
  all_goals simp only [State.fill, getElem_set_fin] at *
  · split at at'
    · split at at''
      · simp_all
      · exact absurd at'' (unreserved k b)
    · exact absurd at' (unreserved j a)
  · split at at'
    · cases at'
    · exact past j n q at'
  · split at at'
    · cases at'
    · split at at''
      · cases at''
      · exact distinct j k n q q' at' at''

/-- A law with no slot reserved stands beside any store. -/
theorem PortLaw.unreserved {p : Port} {t : Store} (law : PortLaw p t) (none : ∀ (i : Fin 2) (a : ReplyHead), p.slots[i] ≠ .reserved a)
    (u : Store) : PortLaw p u := by
  obtain ⟨latched, mask, -, one, past, distinct⟩ := law
  exact ⟨latched, mask, fun i a at' => absurd at' (none i a), one, past, distinct⟩

/-- The reply of a configuration write fills the one slot that was reserved. -/
theorem PortLaw.placeReserved {s : State} {t : Store} (law : PortLaw s.port t) (code : ReplyCode) (u : Store) :
    PortLaw (s.placeReserved code).port u := by
  unfold State.placeReserved
  split
  · rename_i i head found
    obtain ⟨j, -, at'⟩ := List.exists_of_findSome?_eq_some found
    split at at'
    · rename_i a reserved
      cases at'
      refine (law.place i _).unreserved (fun k b => ?_) u
      simp only [State.place, getElem_set_fin]
      split
      · nofun
      · rename_i other
        exact fun again => other (law.2.2.2.1 _ _ _ _ reserved again)
    · cases at'
  · rename_i unfound
    refine law.unreserved (fun k b reserved => ?_) u
    have := List.findSome?_eq_none_iff.mp unfound k (List.mem_finRange k)
    rw [reserved] at this
    cases this

end Sys2Proof.Safety

namespace Sys2Proof.Machine

open Sys2Proof Sys2Proof.Claim Sys2Proof.Safety

/-! ### Every operation keeps the port's law -/

theorem State.enableLine_port (code index : Nat) (value : Int) (s : State) : (s.enableLine code index value).port = s.port := by
  unfold State.enableLine
  repeat' split
  all_goals rfl

/-- An item put in force keeps the port's law: at most the requester levels change and conditions are raised. -/
theorem State.putItem_portLaw (code index : Nat) (value : Int) (s : State) (law : PortLaw s.port s.store) :
    PortLaw (s.putItem code index value).port (s.putItem code index value).store := by
  have enabled : PortLaw (s.enableLine code index value).port (s.enableLine code index value).store := by
    rw [State.enableLine_port, State.enableLine_store]; exact law
  have levels : ∀ l, PortLaw { (s.enableLine code index value).port with levels := l } (s.enableLine code index value).store :=
    fun l => enabled.of_fields rfl rfl enabled.latched enabled.mask id
  unfold State.putItem
  dsimp only
  split
  · refine PortLaw.quiet ?_ ((quiet_byTime _).leads.presentMinute _ (.refl _))
    split <;> exact levels _
  · split <;> exact levels _

theorem State.askConfigWrite_portLaw (s : State) (law : PortLaw s.port s.store) : PortLaw s.askConfigWrite.port s.askConfigWrite.store := by
  rw [State.askConfigWrite_port]
  exact law.of_fields rfl rfl law.latched law.mask fun _ => State.askConfigWrite_isSome s

/-- The effect of a request keeps the port's law. -/
theorem Effect.portLaw {ends : Prop} {c : Caller} {s t : State} (e : Effect ends c s t) (law : PortLaw s.port s.store) : PortLaw t.port t.store := by
  have byTime := quiet_byTime s
  have start := Quiet.refl s
  cases e with
  | selectRc => exact law.quiet (byTime.raise _ _ (byTime.time s _ start))
  | stepNow => exact law.quiet (byTime.applyStep s _ start)
  | inject => exact law.quiet (s.inject_quiet _ _)
  | openAccount => exact law.quiet (Quiet.after (State.raiseWord_quiet _ _ (Account.evaluate_noHeldBits _)) rfl rfl)
  | preset => exact law.quiet (Quiet.after (State.raiseWord_quiet _ _ (Account.evaluate_noHeldBits _)) rfl rfl)
  | serviceDone => exact law.quiet (Quiet.after (State.raiseWord_quiet _ _ (Account.evaluate_noHeldBits _)) rfl rfl)
  | checkpoint => exact law.quiet (.of_store (by simp) s.trigger_asked)
  | roster => exact State.askConfigWrite_portLaw _ law
  | openHandover => exact law.quiet (s.openHandover_quiet _ _ _ _)
  | takeWatch => exact law.quiet (.of_store (by simp) (State.trigger_asked _))
  | complete => exact law.quiet (byTime.leads.endHandover _ rfl (.of_store (by simp) (State.trigger_asked _)))
  | carry => exact law.quiet (byTime.leads.endHandover _ rfl (.of_store (by simp) (State.trigger_asked _)))
  | abort => exact law.quiet (byTime.leads.endHandover _ rfl (.of_same rfl rfl))
  | clear => exact law.of_fields rfl rfl (law.latched.and _) law.mask id
  | mask _ valid => exact law.of_fields rfl rfl law.latched ((wordValid_iff _).mp valid) id
  | configure => exact State.askConfigWrite_portLaw _ (s.putItem_portLaw _ _ _ law)
  | checkConfig => exact law.quiet (.of_store (by simp) (by unfold State.checkConfig; split <;> rfl))
  | _ => exact law

@[simp] theorem State.foundWarning_port (s : State) : s.foundWarning.port = s.port := by
  unfold State.foundWarning; split <;> rfl

/-- A start that takes retained state up raises conditions alone. -/
theorem State.resume_raised (gap : Nat) (keep : Bool) (s : State) : s.port.Raised (s.resume gap keep).port := by
  have taken : s.port.Raised (s.takeUpLines.takeUpUnits gap).port := by
    rw [State.takeUpUnits_port, State.takeUpLines_port]; exact .refl _
  have watched : ∀ u : State, u.port.Raised u.takeUpWatch.port := fun u => by
    have expired : Quiet u u.watchTick := (quiet_byTime u).windowExpiry _ u.warningExpiry_quiet
    unfold State.takeUpWatch
    dsimp only
    split
    · exact (expired.trans (State.handlePending_quiet _)).1
    · exact expired.1
  have rest : ∀ u : State, u.port.Raised ((u.checkImages.takeUpWatch.raise .started).foundWarning.startTrigger).port := fun u => by
    rw [State.startTrigger_port, State.foundWarning_port]
    exact (watched u.checkImages).trans (State.raise_quiet _ _).1
  unfold State.resume
  dsimp only
  split
  · exact taken.trans (rest _)
  · exact (taken.trans (State.credit_quiet _).1).trans (rest _)

/-- A port that a start has just taken up keeps the law whatever is raised in it. -/
theorem State.startPort_portLaw (k : StartKind) (s : State) {q : Port} (raised : (s.startPort k).port.Raised q) (t : Store) :
    PortLaw q t := by
  obtain ⟨w, zero, rfl⟩ := raised
  have fresh : PortLaw (s.startPort k).port t := PortLaw.of_fresh t rfl rfl rfl
  exact fresh.of_fields rfl rfl (fresh.latched.or zero) fresh.mask id

/-- A cold start ends with the port taken up, its conditions raised, the freeze and the start trigger. -/
theorem State.coldStart_end (s : State) : ∃ (u : State) (pins : Pins) (lost : Bool),
    s.coldStart = (({ ((u.startPort .cold).raise .started).raiseWord (if lost then Event.recordLost.bit else 0#32) with
      pins := pins } : State).foundWarning).startTrigger := by
  unfold State.coldStart
  extract_lets begun restored watched raised
  exact ⟨restored.1.coldWatch, { raised.pins with retainedValid := true }, restored.2, rfl⟩

theorem State.coldStart_portLaw (s : State) : PortLaw s.coldStart.port s.coldStart.store := by
  obtain ⟨u, pins, lost, eq⟩ := s.coldStart_end
  have zero : NoHeldBits (if lost then Event.recordLost.bit else 0#32) := by
    split
    · exact .event .recordLost
    · exact .zero
  have raised : (u.startPort .cold).port.Raised
      (((u.startPort .cold).raise .started).raiseWord (if lost then Event.recordLost.bit else 0#32)).port :=
    ((State.raise_quiet _ _).trans (State.raiseWord_quiet _ _ zero)).1
  rw [eq, State.startTrigger_port, State.foundWarning_port]
  exact State.startPort_portLaw _ _ raised _

theorem State.warmStart_portLaw (s : State) : PortLaw s.warmStart.port s.warmStart.store := by
  unfold State.warmStart
  extract_lets checked
  exact State.startPort_portLaw .warm ({ s with pins := s.pins.starting } : State).checkConfig
    (State.resume_raised s.time.gap false { checked with time := s.time.warm s.config.startSource }) _

theorem State.resetStart_portLaw (s : State) : PortLaw s.resetStart.port s.resetStart.store := by
  unfold State.resetStart
  extract_lets checked
  exact State.startPort_portLaw .resetLine ({ s with pins := s.pins.starting } : State).checkConfig
    (State.resume_raised 0 s.pins.warningLine { checked with time := { s.time with lastPresented := none } }) _

/-- The end of a configuration write keeps the port's law: its reply fills the slot that waited. -/
theorem State.configWriteEnd_portLaw (verify : ConfigVerify) (s : State) (law : PortLaw s.port s.store) :
    PortLaw (s.configWriteEnd verify).port (s.configWriteEnd verify).store := by
  have ended : ∀ (t : Store) (code : ReplyCode), PortLaw (({ s with store := t } : State).placeReserved code).afterConfig.port
      (({ s with store := t } : State).placeReserved code).afterConfig.store := fun t code => by
    refine PortLaw.quiet (s := ({ s with store := t } : State).placeReserved code) ?_ (.of_store (by simp) (State.afterConfig_asked _))
    exact PortLaw.placeReserved (s := { s with store := t }) (t := s.store) law code _
  unfold State.configWriteEnd State.configEnd
  cases writes : s.store.configWrite with
  | none => exact law
  | some c =>
    cases c with
    | waiting => exact law
    | writing second image =>
      cases verify with
      | matched => exact ended _ _
      | mismatched retained =>
        cases second
        · exact law.of_fields rfl rfl law.latched law.mask fun _ => rfl
        · exact ended _ _

/-- The port's law is kept by every operation. -/
theorem portLaw_kept : Kept fun s => PortLaw s.port s.store where
  queue _ _ law := law
  pass _ _ law := law
  shiftOut _ _ law := law.of_fields rfl rfl law.latched law.mask id
  freed _ i law := law.free i
  setWarning _ _ law := law
  stay _ _ law := law
  place _ s i r law := PortLaw.place (s := s) law i r
  reserve _ s t i head reserves before law := PortLaw.reserve reserves before law i head
  effect _ _ _ _ _ e law := e.portLaw law
  frameError _ s _ law := law.quiet (s.raise_quiet _)
  pulse _ s _ law := law.quiet ((quiet_byTime s).leads.pulse s (.refl s))
  absence s m _ law := law.quiet ((quiet_byTime s).refFailure (s.reach m) (.of_same rfl rfl))
  flywheel s a _ _ _ law := by
    have reached : Quiet s (s.reach (expectedBoundary a s.time.boundaryPos + s.config.toleranceUs)) := .of_same rfl rfl
    exact law.quiet ((quiet_byTime s).leads.completeOnBoundary _ ((quiet_byTime s).leads.countBoundary _ _ _ reached))
  second s _ _ law := by
    have reached : Quiet s (s.reach s.time.nextBoundary) := .of_same rfl rfl
    exact law.quiet ((quiet_byTime s).leads.completeOnBoundary _ ((quiet_byTime s).leads.countBoundary _ _ _ reached))
  backup _ _ law := law
  scannerTick s _ law := law.quiet (.of_same (by simp) (by simp))
  storeTick s _ law := law.quiet (.of_store (by simp) s.storeTick_asked)
  warningExpiry s _ law := law.quiet s.warningExpiry_quiet
  windowExpiry s _ law := law.quiet (.of_same (by simp) (by simp))
  crystalReady _ s _ law := law.quiet ((quiet_byTime s).crystalReady s (.refl s))
  crystalStop _ s law := law.quiet ((quiet_byTime s).crystalStop s (.refl s))
  sampleLines _ s levels first _ law := law.quiet (s.sampleLines_quiet levels first)
  sampleUnits _ s lines _ law := law.quiet (s.sampleUnits_quiet lines)
  beginFreeze _ s _ _ law := law.quiet (.of_store (by simp) (State.takeWarning_asked _))
  release _ s _ _ law := law.quiet (s.credit_quiet.trans (.of_store (by simp) (State.releaseWalk_asked _)))
  imageEnd _ s verify _ law := law.quiet (.of_store (by simp) (s.imageEnd_asked verify))
  configWriteEnd _ s verify _ law := s.configWriteEnd_portLaw verify law
  powerLost _ s image config _ law := by
    have same : (s.stopStore image config).port = s.port := s.stopStore_port image config
    exact PortLaw.drop (p := (s.stopStore image config).port) (t := s.store) (by rw [same]; exact law) _
  loseMain _ _ _ _ _ law := law
  loseBackup _ _ law := law
  waits _ _ _ _ _ law := law
  coldStart _ _ _ _ _ := State.coldStart_portLaw _
  warmStart _ _ _ _ _ := State.warmStart_portLaw _
  resetStart _ s _ _ := s.resetStart_portLaw
  resetUp _ s image config _ law := by
    have same : (s.stopStore image config).port = s.port := s.stopStore_port image config
    exact PortLaw.drop (p := (s.stopStore image config).port) (t := s.store) (by rw [same]; exact law) _
  resetPin _ _ _ law := law

end Sys2Proof.Machine

namespace Sys2Proof.Proofs

open Sys2Proof Sys2Proof.Machine

/-- Settles O58: the operations of the store keep its laws, and those of the port and the store the port's. -/
theorem storeAndPortLawsAreKept : Obligations.StoreAndPortLawsAreKept :=
  ⟨fun _ _ runs store port => ⟨storeLaw_kept.kept.step runs store, portLaw_kept.step runs port⟩,
    fun _ _ runs law => walkLaw_kept.kept.step runs law⟩

end Sys2Proof.Proofs
end

section
/-! The Time Base over one command: which requests move it, and the law of its ranges (01 section 1.1, R20, R179). -/

namespace Sys2Proof.Machine

open Sys2Proof Sys2Proof.Claim Sys2Proof.Safety

/-! ### The requests that move the Time Base -/

/-- Time Base, pins and slew step stand. -/
def SameTime (s t : State) : Prop := t.time = s.time ∧ t.pins = s.pins ∧ t.config.slewStep = s.config.slewStep

theorem SameTime.refl (s : State) : SameTime s s := ⟨rfl, rfl, rfl⟩

theorem SameTime.trans {s t u : State} (a : SameTime s t) (b : SameTime t u) : SameTime s u :=
  ⟨b.1.trans a.1, b.2.1.trans a.2.1, b.2.2.trans a.2.2⟩

/-- The effects of requests that touch the Time Base. -/
inductive MovesTime (ends : Prop) (s : State) : State → Prop where
  | withdraw : MovesTime ends s { s with time := { s.time with target := none } }
  | selectRc (other : s.time.source ≠ .rc) : MovesTime ends s s.selectRc
  | beginSwitch (q : Target) (other : q.source ≠ s.time.source) : MovesTime ends s (s.beginSwitch q)
  | slew (offset : Int) : MovesTime ends s (s.takeSlew offset)
  | hold (offset : Int) (handover : s.watch.handover = true) : MovesTime ends s (s.holdStep offset)
  | stepNow (offset : Int) (free : s.watch.handover = false) : MovesTime ends s (s.applyStep offset)
  | endHandover (may : ends) (u : State) (same : SameTime s u) (free : u.watch.handover = false) : MovesTime ends s u.endHandover
  | item (code index : Nat) (value : Int) (inRange : itemInRange code value = true) (u : State)
      (same : SameTime (s.putItem code index value) u) : MovesTime ends s u

theorem State.enableLine_time (code index : Nat) (value : Int) (s : State) : (s.enableLine code index value).time = s.time := by
  unfold State.enableLine
  repeat' split
  all_goals rfl

/-- The effect of a request leaves the Time Base or is one that touches it. -/
theorem Effect.time {ends : Prop} {c : Caller} {s t : State} (e : Effect ends c s t) : SameTime s t ∨ MovesTime ends s t := by
  cases e with
  | withdraw => exact .inr .withdraw
  | selectRc other => exact .inr (.selectRc other)
  | beginSwitch q other => exact .inr (.beginSwitch q other)
  | slew offset => exact .inr (.slew offset)
  | hold offset handover => exact .inr (.hold offset handover)
  | stepNow offset free => exact .inr (.stepNow offset free)
  | inject => exact .inl ⟨by simp [State.inject], by simp [State.inject], by simp [State.inject]⟩
  | openAccount => exact .inl ⟨by simp [State.openAccount], by simp [State.openAccount], by simp [State.openAccount]⟩
  | preset => exact .inl ⟨by simp [answerEvaluated, answer], by simp [answerEvaluated, answer], by simp [answerEvaluated, answer]⟩
  | serviceDone => exact .inl ⟨by simp [answerEvaluated, answer], by simp [answerEvaluated, answer], by simp [answerEvaluated, answer]⟩
  | checkpoint => exact .inl ⟨by simp, by simp, by simp⟩
  | roster => exact .inl ⟨by simp, by simp, by simp⟩
  | openHandover => exact .inl ⟨by simp, by simp, by simp⟩
  | takeWatch => exact .inl ⟨by simp, by simp, by simp⟩
  | complete may => exact .inr (.endHandover may _ ⟨by simp, by simp, by simp⟩ rfl)
  | carry may => exact .inr (.endHandover may _ ⟨by simp, by simp, by simp⟩ rfl)
  | abort may => exact .inr (.endHandover may _ ⟨rfl, rfl, rfl⟩ rfl)
  | configure code index value _ inRange =>
    exact .inr (.item code index value inRange _ ⟨by simp, by simp, by simp⟩)
  | checkConfig => exact .inl ⟨by simp, by simp, by simp⟩
  | _ => exact .inl ⟨rfl, rfl, rfl⟩

/-! ### The law of the ranges -/

/-- The part of the law that the Time Base alone answers for, `up` where it runs under main power. -/
def ClockLaw (up : Bool) (t : TimeBase) : Prop :=
  t.elapsed ≤ Config.elapsedTop ∧ t.holdover ≤ Config.countTop ∧ t.goodRun ≤ 255 ∧ t.badRun ≤ 255 ∧ t.boundaryTime ≤ Config.stationTopMs
  ∧ t.target.map Target.source ≠ some t.source
  ∧ (up = true → t.source = .ref → t.anchor.isSome = true)
  ∧ (up = true → t.backupLost = false)

/-- The part of the law that the pins answer for. -/
def PinLaw (p : Pins) : Prop :=
  p.startWaiting ≠ some .resetLine ∧ (p.retainedValid = true → p.mainPower = true ∨ p.backupSupply = true)

theorem timeLaw_iff (s : State) : TimeLaw s ↔ ClockLaw s.timeUp s.time ∧ PinLaw s.pins := by
  unfold TimeLaw ClockLaw PinLaw
  tauto

theorem satSucc_le (top n : Nat) (le : n ≤ top) : satSucc top n ≤ top := by unfold satSucc; split <;> omega

/-- Counting a boundary keeps the ranges (R2, R25, R26). -/
theorem ClockLaw.count {up : Bool} {t : TimeBase} (law : ClockLaw up t) (step n : Nat) (aligned : Bool) :
    ClockLaw up (t.count step n aligned) := by
  obtain ⟨elapsed, holdover, good, bad, -, target, anchor, lost⟩ := law
  refine ⟨satSucc_le _ _ elapsed, ?_, good, bad, ?_, target, anchor, lost⟩
  · simp only [TimeBase.count]
    split
    · exact holdover
    · exact satSucc_le _ _ holdover
  · simp only [TimeBase.count, TimeBase.settle, alignUp]
    repeat' split
    all_goals simp

/-- A step keeps the ranges (R30). -/
theorem ClockLaw.step {up : Bool} {t : TimeBase} (law : ClockLaw up t) (step : Nat) (off : Int) : ClockLaw up (t.step step off) := by
  obtain ⟨elapsed, holdover, good, bad, -, target, anchor, lost⟩ := law
  refine ⟨elapsed, holdover, good, bad, ?_, target, anchor, lost⟩
  simp only [TimeBase.step, clampStation, Config.stationTopMs]
  omega

/-- A completed switch keeps the ranges, where REF becomes current with an anchor (R12). -/
theorem ClockLaw.switch {up : Bool} {t : TimeBase} (law : ClockLaw up t) {q : Target} (anchored : q = .ref → t.anchor.isSome = true) :
    ClockLaw up { t with
      source := q.source, target := none, rcHeld := false, holdover := if q = .ref ∨ t.source = .ref then 0 else t.holdover } := by
  obtain ⟨elapsed, holdover, good, bad, top, -, -, lost⟩ := law
  refine ⟨elapsed, ?_, good, bad, top, nofun, fun _ ref => ?_, lost⟩
  · dsimp only
    split
    · exact Nat.zero_le _
    · exact holdover
  · cases q with
    | ref => exact anchored rfl
    | xtal => cases ref

/-- A fall back to XTAL or RC keeps the ranges. -/
theorem ClockLaw.fallBack {up : Bool} {t u : TimeBase} (law : ClockLaw up t) (source : u.source ≠ .ref) (target : u.target = none)
    (elapsed : u.elapsed = t.elapsed) (holdover : u.holdover ≤ Config.countTop) (good : u.goodRun ≤ 255) (bad : u.badRun ≤ 255)
    (top : u.boundaryTime = t.boundaryTime) (lost : u.backupLost = t.backupLost) : ClockLaw up u := by
  refine ⟨elapsed ▸ law.1, holdover, good, bad, top ▸ law.2.2.2.2.1, by simp [target], fun _ ref => (source ref).elim, ?_⟩
  exact fun is => lost ▸ law.2.2.2.2.2.2.2 is

/-- The law reads the Time Base and the pins. -/
theorem State.timeUp_of_pins {s t : State} (pins : t.pins = s.pins) : t.timeUp = s.timeUp := by unfold State.timeUp; rw [pins]

end Sys2Proof.Machine

namespace Sys2Proof.Safety

open Sys2Proof Sys2Proof.Machine

theorem TimeLaw.of_same {s t : State} (law : TimeLaw s) (time : t.time = s.time) (pins : t.pins = s.pins) : TimeLaw t := by
  rw [timeLaw_iff] at *
  rw [time, pins, State.timeUp_of_pins pins]
  exact law

theorem TimeLaw.of_clock {s t : State} (law : TimeLaw s) (pins : t.pins = s.pins)
    (clock : ClockLaw s.timeUp s.time → ClockLaw s.timeUp t.time) : TimeLaw t := by
  rw [timeLaw_iff] at *
  rw [pins, State.timeUp_of_pins pins]
  exact ⟨clock law.1, law.2⟩

/-- The law when only the pins change, the Time Base running as before or no longer. -/
theorem TimeLaw.of_pins {s t : State} (law : TimeLaw s) (time : t.time = s.time) (stays : t.timeUp = true → s.timeUp = true)
    (pins : PinLaw s.pins → PinLaw t.pins) : TimeLaw t := by
  rw [timeLaw_iff] at *
  obtain ⟨⟨elapsed, holdover, good, bad, top, target, anchor, lost⟩, pinLaw⟩ := law
  rw [time]
  exact ⟨⟨elapsed, holdover, good, bad, top, target, fun up => anchor (stays up), fun up => lost (stays up)⟩, pins pinLaw⟩

theorem TimeLaw.clock {s : State} (law : TimeLaw s) : ClockLaw s.timeUp s.time := ((timeLaw_iff s).mp law).1

theorem TimeLaw.pins {s : State} (law : TimeLaw s) : PinLaw s.pins := ((timeLaw_iff s).mp law).2

end Sys2Proof.Safety

namespace Sys2Proof.Machine

open Sys2Proof Sys2Proof.Claim Sys2Proof.Safety

theorem State.completeSwitch_timeLaw (s : State) (anchored : s.time.target = some .ref → s.time.anchor.isSome = true) (law : TimeLaw s) :
    TimeLaw s.completeSwitch := by
  unfold State.completeSwitch
  split
  · exact law
  · rename_i q target
    refine law.of_clock (by simp) fun clock => ?_
    rw [State.raise_time]
    exact clock.switch fun ref => anchored (by rw [target, ref])

theorem State.refFailure_timeLaw (s : State) (law : TimeLaw s) : TimeLaw s.refFailure := by
  unfold State.refFailure
  dsimp only
  split
  · refine law.of_clock (by simp) fun clock => ?_
    rw [State.raise_time]
    refine clock.fallBack ?_ rfl rfl (Nat.zero_le _) (Nat.zero_le _) (Nat.zero_le _) rfl rfl
    dsimp only
    split <;> nofun
  · rename_i source
    refine law.of_clock rfl fun ⟨elapsed, holdover, _, _, top, target, _, lost⟩ => ?_
    exact ⟨elapsed, holdover, Nat.zero_le _, Nat.zero_le _, top, target, fun _ ref => (source ref).elim, lost⟩

/-- What the Time Base does keeps its law. -/
theorem timeLaw_byTime : LeadsByTime TimeLaw TimeLaw where
  firstPulse s law := law.of_clock rfl fun ⟨elapsed, holdover, _, _, top, target, _, lost⟩ =>
    ⟨elapsed, holdover, Nat.zero_le _, Nat.zero_le _, top, target, fun _ _ => rfl, lost⟩
  goodPulse s _ law := law.of_clock rfl fun ⟨elapsed, holdover, good, _, top, target, _, lost⟩ =>
    ⟨elapsed, holdover, satSucc_le _ _ good, Nat.zero_le _, top, target, fun _ _ => rfl, lost⟩
  badPulse s law := law.of_clock rfl fun ⟨elapsed, holdover, _, bad, top, target, anchor, lost⟩ =>
    ⟨elapsed, holdover, Nat.zero_le _, satSucc_le _ _ bad, top, target, anchor, lost⟩
  autoReturn s source law := law.of_clock rfl fun ⟨elapsed, holdover, good, bad, top, _, anchor, lost⟩ =>
    ⟨elapsed, holdover, good, bad, top, fun same => source (Option.some.inj same).symm, anchor, lost⟩
  count s n aligned law := law.of_clock rfl fun clock => clock.count _ n aligned
  scannerTick s law := law.of_same (by simp) (by simp)
  tallyTick s law := law.of_same (by simp) (by simp)
  warningExpiry s law := law.of_same (by simp) (by simp)
  windowExpiry s law := law.of_same (by simp) (by simp)
  storeTick s law := law.of_same (by simp) (by simp)
  stay _ law := law
  step s off _ _ law := law.of_clock rfl fun clock => clock.step _ off
  raise s e law := law.of_same (by simp) (by simp)
  present s l law := law.of_clock rfl id
  takeMinute s t law := law.of_same (by simp) (by simp)
  handlePending s law := law.of_same (by simp) (by simp)
  completeSwitch := State.completeSwitch_timeLaw
  refFailure := State.refFailure_timeLaw

theorem State.putItem_timeLaw (code index : Nat) (value : Int) (s : State) (law : TimeLaw s) : TimeLaw (s.putItem code index value) := by
  have pins : (s.enableLine code index value).pins = s.pins := by
    unfold State.enableLine
    repeat' split
    all_goals rfl
  have enabled : TimeLaw (s.enableLine code index value) := law.of_same (s.enableLine_time code index value) pins
  unfold State.putItem
  dsimp only
  split
  · refine timeLaw_byTime.presentMinute _ (enabled.of_clock (by split <;> rfl) fun clock => ?_)
    split <;> exact clock
  · refine enabled.of_clock (by split <;> rfl) fun clock => ?_
    split <;> exact clock

/-- The effect of a request keeps the law. -/
theorem Effect.timeLaw {ends : Prop} {c : Caller} {s t : State} (e : Effect ends c s t) (law : TimeLaw s) : TimeLaw t := by
  obtain ⟨time, pins, -⟩ | moves := e.time
  · exact law.of_same time pins
  · cases moves with
    | withdraw =>
      exact law.of_clock rfl fun ⟨elapsed, holdover, good, bad, top, _, anchor, lost⟩ =>
        ⟨elapsed, holdover, good, bad, top, nofun, anchor, lost⟩
    | selectRc =>
      refine law.of_clock (by simp [State.selectRc]) fun clock => ?_
      rw [State.selectRc, State.raise_time]
      obtain ⟨elapsed, holdover, good, bad, top, target, anchor, lost⟩ := clock
      refine ⟨elapsed, ?_, good, bad, top, nofun, nofun, lost⟩
      dsimp only
      split
      · exact Nat.zero_le _
      · exact holdover
    | beginSwitch q other =>
      exact law.of_clock rfl fun ⟨elapsed, holdover, good, bad, top, _, anchor, lost⟩ =>
        ⟨elapsed, holdover, good, bad, top, fun same => other (Option.some.inj same), anchor, lost⟩
    | slew => exact law.of_clock rfl id
    | hold => exact law.of_clock rfl id
    | stepNow offset => exact timeLaw_byTime.applyStep s offset (law.of_clock rfl fun clock => clock.step _ offset)
    | endHandover _ u same free => exact timeLaw_byTime.endHandover u free (law.of_same same.1 same.2.1)
    | item code index value _ u same => exact (s.putItem_timeLaw code index value law).of_same same.1 same.2.1

theorem State.crystalReady_timeLaw (s : State) (law : TimeLaw s) : TimeLaw s.crystalReady := by
  have running : TimeLaw { s with time := { s.time with crystalRunning := true } } := law.of_clock rfl id
  unfold State.crystalReady
  dsimp only
  split
  · rename_i onRc
    split
    · rename_i xtal
      exact State.completeSwitch_timeLaw _ (by simp [xtal]) running
    · rename_i other
      split
      · exact running
      · refine law.of_clock (by simp) fun ⟨elapsed, holdover, good, bad, top, target, _, lost⟩ => ?_
        rw [State.raise_time]
        refine ⟨elapsed, holdover, good, bad, top, fun same => other ?_, nofun, lost⟩
        obtain ⟨q, eq, source⟩ := Option.map_eq_some_iff.mp same
        cases q with
        | ref => cases source
        | xtal => exact eq
  · exact running

theorem State.crystalStop_timeLaw (s : State) (law : TimeLaw s) : TimeLaw s.crystalStop := by
  unfold State.crystalStop
  dsimp only
  split
  · split
    · refine law.of_clock (by simp) fun ⟨elapsed, holdover, good, bad, top, target, _, lost⟩ => ?_
      rw [State.raise_time]
      refine ⟨elapsed, holdover, good, bad, top, fun same => ?_, nofun, lost⟩
      obtain ⟨q, -, source⟩ := Option.map_eq_some_iff.mp same
      cases q <;> cases source
    · exact law.of_clock rfl id
  · rename_i down
    exact law.of_clock rfl fun ⟨elapsed, holdover, good, bad, top, target, anchor, _⟩ =>
      ⟨elapsed, holdover, good, bad, top, target, anchor, fun up => (down up).elim⟩

/-- Main power gone, nothing of the law asks for an anchor or a count kept (R20). -/
theorem ClockLaw.powerLost {up : Bool} {t : TimeBase} (law : ClockLaw up t) : ClockLaw false t.powerLost := by
  obtain ⟨elapsed, holdover, -, -, top, -, -, -⟩ := law
  unfold TimeBase.powerLost
  dsimp only
  split
  · refine ⟨elapsed, ?_, Nat.zero_le _, Nat.zero_le _, top, nofun, nofun, nofun⟩
    dsimp only
    split
    · exact Nat.zero_le _
    · exact holdover
  · exact ⟨elapsed, holdover, Nat.zero_le _, Nat.zero_le _, top, nofun, nofun, nofun⟩

theorem ClockLaw.cold (up : Bool) (start : Target) (t : TimeBase) : ClockLaw up (t.cold start) := by
  refine ⟨Nat.zero_le _, Nat.zero_le _, Nat.zero_le _, Nat.zero_le _, by simp [TimeBase.cold], ?_, nofun, fun _ => rfl⟩
  cases start <;> nofun

theorem ClockLaw.warm {up : Bool} {t : TimeBase} (law : ClockLaw up t) (start : Target) : ClockLaw true (t.warm start) := by
  obtain ⟨elapsed, holdover, -, -, top, -, -, -⟩ := law
  unfold TimeBase.warm
  dsimp only
  split
  · refine ⟨elapsed, holdover, Nat.zero_le _, Nat.zero_le _, top, ?_, nofun, fun _ => rfl⟩
    cases start <;> nofun
  · rename_i kept
    refine ⟨elapsed, holdover, Nat.zero_le _, Nat.zero_le _, top, ?_, nofun, fun _ => Bool.eq_false_iff.mpr kept⟩
    dsimp only
    split <;> nofun

@[simp] theorem State.foundWarning_time (s : State) : s.foundWarning.time = s.time := by
  unfold State.foundWarning; split <;> rfl

@[simp] theorem State.foundWarning_pins (s : State) : s.foundWarning.pins = s.pins := by
  unfold State.foundWarning; split <;> rfl

theorem State.resume_time (gap : Nat) (keep : Bool) (s : State) : (s.resume gap keep).time = s.time := by
  unfold State.resume; dsimp only; split <;> simp

theorem State.resume_pins (gap : Nat) (keep : Bool) (s : State) : (s.resume gap keep).pins = s.pins := by
  unfold State.resume; dsimp only; split <;> simp

theorem State.warmStart_time (s : State) : s.warmStart.time = s.time.warm s.config.startSource := State.resume_time _ _ _

theorem State.warmStart_pins (s : State) : s.warmStart.pins = s.pins.starting := by
  unfold State.warmStart
  dsimp only
  rw [State.resume_pins]
  simp

theorem State.resetStart_time (s : State) : s.resetStart.time = { s.time with lastPresented := none } := State.resume_time _ _ _

theorem State.resetStart_pins (s : State) : s.resetStart.pins = s.pins.starting := by
  unfold State.resetStart
  dsimp only
  rw [State.resume_pins]
  simp

theorem State.coldTallies_time (s : State) : s.coldTallies.1.time = s.time := rfl
theorem State.coldTallies_pins (s : State) : s.coldTallies.1.pins = s.pins := rfl
theorem State.coldTime_time (s : State) : s.coldTime.time = s.time.cold s.config.startSource := rfl
theorem State.coldConfig_time (s : State) : s.coldConfig.time = s.time := by unfold State.coldConfig; split <;> rfl
theorem State.coldConfig_pins (s : State) : s.coldConfig.pins = s.pins := by unfold State.coldConfig; split <;> rfl

theorem State.coldStart_time (s : State) : ∃ start, s.coldStart.time = s.time.cold start := by
  unfold State.coldStart
  simp only [State.startTrigger_time, State.foundWarning_time, State.raiseWord_time, State.raise_time, State.startPort_time,
    State.coldWatch_time, State.coldTallies_time, State.coldTime_time, State.coldConfig_time]
  exact ⟨_, rfl⟩

theorem State.coldStart_pins (s : State) : s.coldStart.pins = { s.pins.starting with retainedValid := true } := by
  unfold State.coldStart
  simp only [State.startTrigger_pins, State.foundWarning_pins, State.raiseWord_pins, State.raise_pins, State.startPort_pins,
    State.coldWatch_pins, State.coldTallies_pins, State.coldTime_pins, State.coldConfig_pins]

/-- A start taken stands under main power with no start waiting. -/
theorem PinLaw.starting (p : Pins) : PinLaw p.starting := ⟨nofun, fun _ => .inl rfl⟩

/-- Every operation keeps the law of the Time Base. -/
theorem timeLaw_kept : Kept TimeLaw where
  queue _ _ law := law.of_same rfl rfl
  pass _ _ law := law.of_clock rfl id
  shiftOut _ _ law := law.of_same rfl rfl
  freed _ _ law := law.of_same rfl rfl
  setWarning _ _ law := law.of_pins rfl id id
  stay _ _ law := law
  place _ _ _ _ law := law.of_same rfl rfl
  reserve _ _ _ _ _ _ _ law := law.of_same rfl rfl
  effect _ _ _ _ _ e law := e.timeLaw law
  frameError _ s _ law := law.of_same (by simp) (by simp)
  pulse _ s _ law := timeLaw_byTime.pulse s law
  absence s m _ law := State.refFailure_timeLaw _ (law.of_clock rfl id)
  flywheel s a _ _ _ law :=
    timeLaw_byTime.completeOnBoundary _ (timeLaw_byTime.countBoundary (s.reach _) _ _ (law.of_clock rfl id))
  second s _ _ law :=
    timeLaw_byTime.completeOnBoundary _ (timeLaw_byTime.countBoundary (s.reach _) _ _ (law.of_clock rfl id))
  backup s _ law := law.of_clock rfl fun clock => ClockLaw.count (t := (s.reach s.time.nextBoundary).time) clock _ _ _
  scannerTick s _ law := law.of_same (by simp) (by simp)
  storeTick s _ law := law.of_same (by simp) (by simp)
  warningExpiry s _ law := law.of_same (by simp) (by simp)
  windowExpiry s _ law := law.of_same (by simp) (by simp)
  crystalReady _ s _ law := s.crystalReady_timeLaw law
  crystalStop _ s law := s.crystalStop_timeLaw law
  sampleLines _ s levels first _ law := law.of_same (by simp) (by simp)
  sampleUnits _ s lines _ law := law.of_same (by simp) (by simp)
  beginFreeze _ s _ _ law := law.of_same (by simp) (by simp)
  release _ s _ _ law := law.of_same (by simp) (by simp)
  imageEnd _ s verify _ law := law.of_same (by simp) (by simp)
  configWriteEnd _ s verify _ law := law.of_same (by simp) (by simp)
  powerLost _ s image config _ law := by
    rw [timeLaw_iff]
    refine ⟨?_, nofun, fun valid => ?_⟩
    · simpa [State.timeUp, Pins.loseMain] using law.clock.powerLost
    · simp only [Pins.loseMain, Bool.and_eq_true] at valid
      exact .inr valid.2
  loseMain _ s _ _ _ law := law.of_pins rfl (by simp [State.timeUp, Pins.loseMain]) fun _ =>
    ⟨nofun, fun valid => .inr (by simp only [Pins.loseMain, Bool.and_eq_true] at valid; exact valid.2)⟩
  loseBackup _ s law := law.of_pins rfl id fun pins =>
    ⟨pins.1, fun valid => .inl (by simp only [Pins.loseBackup, Bool.and_eq_true] at valid; exact valid.2)⟩
  waits _ s k _ ne law := law.of_pins rfl (by simp [State.timeUp]) fun _ =>
    ⟨fun same => ne (Option.some.inj same), fun _ => .inl rfl⟩
  coldStart _ s p _ law := by
    obtain ⟨start, time⟩ := State.coldStart_time { s with pins := p }
    rw [timeLaw_iff, time, State.coldStart_pins]
    exact ⟨.cold _ _ _, nofun, fun _ => .inl rfl⟩
  warmStart _ s p _ law := by
    have up : ({ s with pins := p } : State).warmStart.timeUp = true := by
      unfold State.timeUp; rw [State.warmStart_pins]; rfl
    rw [timeLaw_iff, up, State.warmStart_time, State.warmStart_pins]
    exact ⟨law.clock.warm _, .starting _⟩
  resetStart _ s when law := by
    have timeUp : s.timeUp = true := when.resolve_left law.pins.1
    have up : s.resetStart.timeUp = true := by
      unfold State.timeUp; rw [State.resetStart_pins]; rfl
    rw [timeLaw_iff, up, State.resetStart_time, State.resetStart_pins]
    have clock := law.clock
    rw [timeUp] at clock
    exact ⟨clock, .starting _⟩
  resetUp _ s image config _ law := law.of_pins (by simp) (by simp [State.timeUp]) fun pins => by simpa [PinLaw] using pins
  resetPin _ s b law := law.of_pins rfl id id

end Sys2Proof.Machine

namespace Sys2Proof.Proofs

open Sys2Proof Sys2Proof.Machine

/-- Settles O59: every operation keeps the ranges of the Time Base and the shape of its switch. -/
theorem timeLawIsKept : Obligations.TimeLawIsKept := fun _ _ runs law => timeLaw_kept.step runs law

end Sys2Proof.Proofs
end

section
/-! Elapsed counter, station time and handovers over one command (R14, R17, R31). -/

namespace Sys2Proof.Machine

open Sys2Proof Sys2Proof.Claim Sys2Proof.Safety

/-! ### The elapsed counter (R14) -/

theorem satSucc_eq_upTo (top n : Nat) : satSucc top n = upTo top n := rfl

theorem State.countBoundary_elapsed (n : Nat) (aligned : Bool) (s : State) :
    (s.countBoundary n aligned).time.elapsed = upTo Config.elapsedTop s.time.elapsed := by
  obtain ⟨l, eq⟩ := s.countBoundary_time n aligned
  rw [eq]
  cases s.stranded <;> rfl

theorem State.completeSwitch_elapsed (s : State) : s.completeSwitch.time.elapsed = s.time.elapsed := by
  unfold State.completeSwitch; split <;> simp

theorem State.completeOnBoundary_elapsed (s : State) : s.completeOnBoundary.time.elapsed = s.time.elapsed := by
  unfold State.completeOnBoundary; split
  · exact s.completeSwitch_elapsed
  · rfl

theorem State.refFailure_elapsed (s : State) : s.refFailure.time.elapsed = s.time.elapsed := by
  unfold State.refFailure; dsimp only; split <;> simp

/-- A completed switch to REF counts at most one boundary (R11). -/
theorem State.completeToRef_elapsed (s : State) :
    s.completeToRef.time.elapsed = s.time.elapsed ∨ s.completeToRef.time.elapsed = upTo Config.elapsedTop s.time.elapsed := by
  unfold State.completeToRef
  dsimp only
  rw [State.completeSwitch_elapsed]
  split
  · exact .inr (State.countBoundary_elapsed _ _ _)
  · exact .inl rfl

/-- A pulse counts at most one boundary. -/
theorem State.pulse_elapsed (s : State) :
    s.pulse.time.elapsed = s.time.elapsed ∨ s.pulse.time.elapsed = upTo Config.elapsedTop s.time.elapsed := by
  unfold State.pulse
  dsimp only
  split
  · exact .inl rfl
  · split
    · unfold State.goodPulse
      dsimp only
      repeat' split
      · rw [State.completeOnBoundary_elapsed, State.countBoundary_elapsed]
        exact .inr rfl
      · exact State.completeToRef_elapsed _
      · exact State.completeToRef_elapsed _
      · exact .inl rfl
    · unfold State.badPulse
      dsimp only
      split
      · rw [State.refFailure_elapsed]
        exact .inl rfl
      · exact .inl rfl

theorem State.presentMinute_elapsed (s : State) : s.presentMinute.time.elapsed = s.time.elapsed := by rw [State.presentMinute_time]

theorem State.applyStep_elapsed (off : Int) (s : State) : (s.applyStep off).time.elapsed = s.time.elapsed := by
  rw [State.applyStep_time]; rfl

theorem State.endHandover_elapsed (s : State) : s.endHandover.time.elapsed = s.time.elapsed := by
  rw [State.endHandover_time]
  split
  · rfl
  · exact s.applyStep_elapsed _

theorem State.putItem_elapsed (code index : Nat) (value : Int) (s : State) : (s.putItem code index value).time.elapsed = s.time.elapsed := by
  have enabled := s.enableLine_time code index value
  unfold State.putItem
  dsimp only
  split
  · rw [State.presentMinute_elapsed]
    split
    · simp [TimeBase.keepReading, enabled]
    · simp [enabled]
  · split
    · simp [TimeBase.keepReading, enabled]
    · simp [enabled]

/-- No request changes the elapsed counter. -/
theorem Effect.elapsed {ends : Prop} {c : Caller} {s t : State} (e : Effect ends c s t) : t.time.elapsed = s.time.elapsed := by
  obtain ⟨time, -⟩ | moves := e.time
  · rw [time]
  · cases moves with
    | withdraw => rfl
    | selectRc => simp [State.selectRc]
    | beginSwitch => rfl
    | slew => rfl
    | hold => rfl
    | stepNow => exact State.applyStep_elapsed _ _
    | endHandover _ u same => rw [State.endHandover_elapsed, same.1]
    | item code index value _ u same => rw [same.1, State.putItem_elapsed]

/-- What a command may make of an elapsed counter (R14). -/
def ElapsedAfter (elapsed : Nat) (waiting : Option StartKind) (i : Instr) (n : Nat) : Prop :=
  match i with
  | .secondBoundary | .flywheelBoundary | .backupBoundary | .refPulse _ => n = elapsed ∨ n = upTo Config.elapsedTop elapsed
  | .coldStart _ => n = elapsed ∨ n = 0
  | .resetLineReleased _ => n = elapsed ∨ (waiting = some .cold ∧ n = 0)
  | _ => n = elapsed

theorem ElapsedAfter.stands (elapsed : Nat) (waiting : Option StartKind) (i : Instr) : ElapsedAfter elapsed waiting i elapsed := by
  unfold ElapsedAfter
  split
  · exact .inl rfl
  · exact .inl rfl
  · exact .inl rfl
  · exact .inl rfl
  · exact .inl rfl
  · exact .inl rfl
  · rfl

/-- A command that leaves the counter as it was. -/
theorem ElapsedAfter.of_eq {elapsed n : Nat} {waiting : Option StartKind} {i : Instr} (same : n = elapsed) :
    ElapsedAfter elapsed waiting i n := same ▸ .stands elapsed waiting i

theorem State.coldStart_elapsed (s : State) : s.coldStart.time.elapsed = 0 := by
  obtain ⟨start, time⟩ := s.coldStart_time
  rw [time]
  rfl

/-- The elapsed counter over a command: only boundaries and cold starts change it. -/
theorem elapsed_leads (s₀ : State) :
    Leads (fun s => s.time.elapsed = s₀.time.elapsed ∧ s.pins.startWaiting = s₀.pins.startWaiting)
      (fun i s => ElapsedAfter s₀.time.elapsed s₀.pins.startWaiting i s.time.elapsed) where
  pass _ _ p := p
  shiftOut _ _ p := p
  freed _ _ p := p
  setWarning _ _ p := p
  stay i s p := .of_eq p.1
  place _ _ _ _ q := q
  reserve _ _ _ _ _ _ _ q := q
  effect _ _ _ _ _ e p := .of_eq (e.elapsed.trans p.1)
  frameError _ s _ p := .of_eq (by simpa using p.1)
  pulse dt s _ p := by
    have counts := s.pulse_elapsed
    rwa [p.1] at counts
  absence s m _ p := (State.refFailure_elapsed _).trans p.1
  flywheel s a _ _ _ p := by
    refine .inr ?_
    rw [State.flywheel, State.completeOnBoundary_elapsed, State.countBoundary_elapsed, ← p.1]
    rfl
  second s _ _ p := by
    refine .inr ?_
    rw [State.completeOnBoundary_elapsed, State.countBoundary_elapsed, ← p.1]
    rfl
  backup s _ p := .inr (by rw [← p.1]; rfl)
  scannerTick s _ p := .of_eq (by simpa using p.1)
  storeTick s _ p := .of_eq (by simpa using p.1)
  warningExpiry s _ p := .of_eq (by simpa using p.1)
  windowExpiry s _ p := .of_eq (by simpa using p.1)
  crystalReady _ s _ p := by
    refine .of_eq (Eq.trans ?_ p.1)
    unfold State.crystalReady
    dsimp only
    repeat' split
    · exact State.completeSwitch_elapsed _
    · rfl
    · simp
    · rfl
  crystalStop _ s p := by
    refine .of_eq (Eq.trans ?_ p.1)
    unfold State.crystalStop
    dsimp only
    repeat' split
    · simp
    · rfl
    · rfl
  sampleLines _ s levels first _ p := .of_eq (by simpa using p.1)
  sampleUnits _ s lines _ p := .of_eq (by simpa using p.1)
  beginFreeze _ s _ _ p := .of_eq (by simpa using p.1)
  release _ s _ _ p := .of_eq (by simpa using p.1)
  imageEnd _ s verify _ p := .of_eq (by simpa using p.1)
  configWriteEnd _ s verify _ p := .of_eq (by simpa using p.1)
  powerLost _ s image config _ p := by
    refine .of_eq (Eq.trans ?_ p.1)
    simp only [State.stopBlocks_time, TimeBase.powerLost]
    split <;> rfl
  loseMain _ _ _ _ _ p := .of_eq p.1
  loseBackup _ _ p := .of_eq p.1
  waits _ _ _ _ _ p := .of_eq p.1
  coldStart i s q begins p := by
    have zero := State.coldStart_elapsed { s with pins := q }
    obtain ⟨dt, rfl⟩ | ⟨⟨dt, rfl⟩, waiting⟩ := begins
    · exact .inr zero
    · exact .inr ⟨p.2 ▸ waiting, zero⟩
  warmStart _ s q _ p := by
    refine .of_eq (Eq.trans ?_ p.1)
    rw [State.warmStart_time]
    simp only [TimeBase.warm]
    split <;> rfl
  resetStart _ s _ p := .of_eq (by rw [State.resetStart_time]; exact p.1)
  resetUp _ s image config _ p := .of_eq (by simpa using p.1)
  resetPin _ _ _ p := .of_eq p.1

/-! ### The reading (R17, R24, R25) -/

/-- The reading by its parts. -/
theorem TimeBase.le_reading (step : Nat) (t : TimeBase) (r : Int) (zero : r ≤ 0 ∨ r ≤ t.boundaryTime + (t.msSince : Int)
    ∧ r ≤ t.boundaryTime + 999 + t.slewAmount step) (top : r ≤ Config.stationTopMs) : r ≤ t.reading step := by
  simp only [TimeBase.reading, Config.stationTopMs] at *
  omega

theorem TimeBase.reading_le (step : Nat) (t : TimeBase) : t.reading step ≤ Config.stationTopMs
    ∧ (t.reading step ≤ 0 ∨ t.reading step ≤ t.boundaryTime + (t.msSince : Int)
      ∧ t.reading step ≤ t.boundaryTime + 999 + t.slewAmount step) := by
  simp only [TimeBase.reading, Config.stationTopMs] at *
  omega

/-- The interval clock running on raises the reading. -/
theorem TimeBase.reading_mono (step : Nat) (t : TimeBase) (clock : Nat) (later : t.clock ≤ clock) :
    t.reading step ≤ ({ t with clock := clock } : TimeBase).reading step := by
  have ms : t.msSince ≤ ({ t with clock := clock } : TimeBase).msSince :=
    Nat.div_le_div_right (Nat.sub_le_sub_right later _)
  have amount : ({ t with clock := clock } : TimeBase).slewAmount step = t.slewAmount step := rfl
  obtain ⟨top, zero⟩ := t.reading_le step
  refine TimeBase.le_reading _ _ _ ?_ top
  rw [amount]
  dsimp only
  omega

/-- A slew amount is no less than the plain one, and the plain one no less than the step taken back. -/
theorem neg_le_plainSlew (step : Nat) (rest : Int) : -(step : Int) ≤ plainSlew step rest := by
  unfold plainSlew
  repeat' split
  all_goals omega

theorem TimeBase.neg_le_slewAmount (step : Nat) (t : TimeBase) : -(step : Int) ≤ t.slewAmount step := by
  have plain := neg_le_plainSlew step t.slewRemainder
  simp only [TimeBase.slewAmount]
  repeat' split
  all_goals omega

theorem alignUp_ge (ms : Int) (top : ms ≤ Config.stationTopMs) : ms ≤ alignUp ms := by
  have := Int.emod_nonneg ms (by decide : (1000 : Int) ≠ 0)
  have := Int.emod_lt_of_pos ms (by decide : (0 : Int) < 1000)
  unfold alignUp
  split <;> simp only [Config.stationTopMs] at * <;> omega

/-- A counted boundary does not run the reading back (R25). -/
theorem TimeBase.reading_count (step n : Nat) (aligned : Bool) (t : TimeBase) (short : step ≤ 10) :
    t.reading step ≤ (t.count step n aligned).reading step := by
  obtain ⟨top, zero⟩ := t.reading_le step
  have after := TimeBase.neg_le_slewAmount step (t.count step n aligned)
  have moved : min Config.stationTopMs (t.boundaryTime + 1000 + t.slewAmount step) ≤ (t.count step n aligned).boundaryTime := by
    have same : ({ t with boundaryPos := n, elapsed := satSucc Config.elapsedTop t.elapsed } : TimeBase).slewAmount step
        = t.slewAmount step := rfl
    simp only [TimeBase.count, TimeBase.settle, same]
    split
    · exact alignUp_ge _ (min_le_left _ _)
    · exact le_refl _
  refine TimeBase.le_reading _ _ _ ?_ top
  simp only [Config.stationTopMs] at *
  omega

/-- A reading kept is not run back by a change of the second's length (R25 step 1, log 9). -/
theorem TimeBase.reading_keepReading (step after : Nat) (t u : TimeBase) (floor : u.readFloor = some (t.reading step))
    (time : u.boundaryTime = t.boundaryTime) (ms : u.msSince = t.msSince) : t.reading step ≤ u.reading after := by
  obtain ⟨top, zero⟩ := t.reading_le step
  refine TimeBase.le_reading _ _ _ ?_ top
  rw [time, ms]
  simp only [TimeBase.slewAmount, floor, time]
  split <;> omega

theorem LiveConfig.mapLine_slewStep (c : LiveConfig) (index : Nat) (f : LineConfig → LineConfig) :
    (c.mapLine index f).slewStep = c.slewStep := by
  unfold LiveConfig.mapLine; split <;> rfl

/-- The item of another code leaves the slew step. -/
theorem itemSet_slewStep (c : LiveConfig) (code index : Nat) (value : Int) (other : code ≠ 20) :
    (itemSet c code index value).slewStep = c.slewStep := by
  unfold itemSet
  split <;> simp_all [LiveConfig.mapLine_slewStep]

/-- The reading reached is not below what it was, in a Time Base whose generation stands. -/
def ReadsOn (g : BitVec 8) (r : Int) (s : State) : Prop := s.time.generation = g ∧ r ≤ s.time.reading s.config.slewStep

/-- The reading does not run back within a generation. -/
def NeverBack (g : BitVec 8) (r : Int) (s : State) : Prop := s.time.generation = g → r ≤ s.time.reading s.config.slewStep

/-- Time Bases that agree in what the reading and the generation are made of. -/
def SameReading (t u : TimeBase) : Prop :=
  u.generation = t.generation ∧ u.boundaryTime = t.boundaryTime ∧ u.boundaryPos = t.boundaryPos ∧ u.clock = t.clock
    ∧ u.slewRemainder = t.slewRemainder ∧ u.readFloor = t.readFloor

theorem SameReading.reading {t u : TimeBase} (same : SameReading t u) (step : Nat) : u.reading step = t.reading step := by
  obtain ⟨-, time, pos, clock, rest, floor⟩ := same
  simp only [TimeBase.reading, TimeBase.slewAmount, TimeBase.msSince, time, pos, clock, rest, floor]

theorem SameReading.refl (t : TimeBase) : SameReading t t := ⟨rfl, rfl, rfl, rfl, rfl, rfl⟩

theorem NeverBack.of_same {g : BitVec 8} {r : Int} {s t : State} (q : NeverBack g r s) (same : SameReading s.time t.time)
    (step : t.config.slewStep = s.config.slewStep) : NeverBack g r t := by
  unfold NeverBack
  rw [same.1, step, same.reading]
  exact q

theorem ReadsOn.neverBack {g : BitVec 8} {r : Int} {s : State} (p : ReadsOn g r s) : NeverBack g r s := fun _ => p.2

theorem ReadsOn.of_same {g : BitVec 8} {r : Int} {s t : State} (p : ReadsOn g r s) (same : SameReading s.time t.time)
    (step : t.config.slewStep = s.config.slewStep) : ReadsOn g r t := by
  unfold ReadsOn
  rw [same.1, step, same.reading]
  exact p

theorem State.completeSwitch_reading (s : State) : SameReading s.time s.completeSwitch.time := by
  unfold State.completeSwitch
  split
  · exact .refl _
  · rw [State.raise_time]
    exact ⟨rfl, rfl, rfl, rfl, rfl, rfl⟩

theorem State.refFailure_reading (s : State) : SameReading s.time s.refFailure.time := by
  unfold State.refFailure
  dsimp only
  split
  · rw [State.raise_time]
    exact ⟨rfl, rfl, rfl, rfl, rfl, rfl⟩
  · exact ⟨rfl, rfl, rfl, rfl, rfl, rfl⟩

/-- A step moves on to the next generation. -/
theorem TimeBase.step_neverBack (s : State) (off : Int) (r : Int) (t : State) (time : t.time = s.time.step s.config.slewStep off) :
    NeverBack s.time.generation r t := by
  intro same
  rw [time] at same
  have moved : s.time.generation + 1 = s.time.generation := same
  simp at moved

theorem State.resume_config (gap : Nat) (keep : Bool) (s : State) : (s.resume gap keep).config = s.config := by
  unfold State.resume; dsimp only; split <;> simp

theorem State.resetStart_config (s : State) : s.resetStart.config = s.config := by
  unfold State.resetStart
  dsimp only
  rw [State.resume_config]
  simp

/-- What a command finds: the reading in its generation, the slew step in the range of its item, and the start that waits. -/
structure Reads (g : BitVec 8) (r : Int) (w : Option StartKind) (s : State) : Prop where
  on : ReadsOn g r s
  short : s.config.slewStep ≤ 10
  waiting : s.pins.startWaiting = w

theorem Reads.of_same {g : BitVec 8} {r : Int} {w : Option StartKind} {s t : State} (p : Reads g r w s)
    (same : SameReading s.time t.time) (config : t.config = s.config) (pins : t.pins = s.pins) : Reads g r w t :=
  ⟨p.on.of_same same (by rw [config]), by rw [config]; exact p.short, by rw [pins]; exact p.waiting⟩

/-- Time Base, configuration and pins stand. -/
theorem Reads.of_eq {g : BitVec 8} {r : Int} {w : Option StartKind} {s t : State} (p : Reads g r w s)
    (time : t.time = s.time) (config : t.config = s.config) (pins : t.pins = s.pins) : Reads g r w t :=
  p.of_same (time ▸ .refl _) config pins

theorem NeverBack.of_eq {g : BitVec 8} {r : Int} {s t : State} (q : NeverBack g r s) (time : t.time = s.time)
    (config : t.config = s.config) : NeverBack g r t :=
  q.of_same (time ▸ .refl _) (by rw [config])

/-- The interval clock running on keeps what a command finds. -/
theorem Reads.later {g : BitVec 8} {r : Int} {w : Option StartKind} {s : State} (p : Reads g r w s) (clock : Nat)
    (later : s.time.clock ≤ clock) : Reads g r w { s with time := { s.time with clock := clock } } :=
  ⟨⟨p.on.1, p.on.2.trans (s.time.reading_mono _ clock later)⟩, p.short, p.waiting⟩

/-- What the Time Base does at a boundary, a pulse or a step does not run the reading back in a generation. -/
theorem reads_byTime (g : BitVec 8) (r : Int) (w : Option StartKind) : LeadsByTime (Reads g r w) (NeverBack g r) where
  firstPulse _ p := p.of_same ⟨rfl, rfl, rfl, rfl, rfl, rfl⟩ rfl rfl
  goodPulse _ _ p := p.of_same ⟨rfl, rfl, rfl, rfl, rfl, rfl⟩ rfl rfl
  badPulse _ p := p.of_same ⟨rfl, rfl, rfl, rfl, rfl, rfl⟩ rfl rfl
  autoReturn _ _ p := p.of_same ⟨rfl, rfl, rfl, rfl, rfl, rfl⟩ rfl rfl
  count s n aligned p := ⟨⟨p.on.1, p.on.2.trans (s.time.reading_count _ n aligned p.short)⟩, p.short, p.waiting⟩
  scannerTick s p := p.of_eq (by simp) (by simp) (by simp)
  tallyTick s p := p.of_eq (by simp) (by simp) (by simp)
  warningExpiry s p := p.of_eq (by simp) (by simp) (by simp)
  windowExpiry s p := p.of_eq (by simp) (by simp) (by simp)
  storeTick s p := p.of_eq (by simp) (by simp) (by simp)
  stay _ p := p.on.neverBack
  step s off _ _ p := by
    have moved := TimeBase.step_neverBack s off r { s with time := s.time.step s.config.slewStep off } rfl
    rwa [p.on.1] at moved
  raise s e q := q.of_eq (by simp) (by simp)
  present _ _ q := q.of_same ⟨rfl, rfl, rfl, rfl, rfl, rfl⟩ rfl
  takeMinute s t q := q.of_eq (by simp) (by simp)
  handlePending s q := q.of_eq (by simp) (by simp)
  completeSwitch s _ q := q.of_same s.completeSwitch_reading (by rw [State.completeSwitch_config])
  refFailure s q := q.of_same s.refFailure_reading (by rw [State.refFailure_config])

/-- An item put in force does not run the reading back: a new slew step keeps it (R175). -/
theorem State.putItem_neverBack {g : BitVec 8} {r : Int} (code index : Nat) (value : Int) (s : State) (p : ReadsOn g r s) :
    NeverBack g r (s.putItem code index value) := by
  have time := s.enableLine_time code index value
  have config : (s.enableLine code index value).config = s.config := by
    unfold State.enableLine
    repeat' split
    all_goals rfl
  have minute : ∀ u : State, NeverBack g r u → NeverBack g r u.presentMinute := fun u q => by
    refine q.of_same ?_ (by simp)
    rw [State.presentMinute_time]
    exact ⟨rfl, rfl, rfl, rfl, rfl, rfl⟩
  by_cases step : code = 20
  · subst step
    intro _
    refine p.2.trans ?_
    simp only [State.putItem, if_true, time, config]
    exact TimeBase.reading_keepReading _ _ s.time _ rfl rfl rfl
  · have put : NeverBack g r { s.enableLine code index value with
        config := itemSet s.config code index value
        port := { (s.enableLine code index value).port with
          levels := if code = 1 then (itemSet s.config code index value).levels else (s.enableLine code index value).port.levels } } :=
      p.neverBack.of_same (by rw [time]; exact .refl _) (itemSet_slewStep _ _ _ _ step)
    simp only [State.putItem, if_neg step]
    split
    · exact minute _ put
    · exact put

/-- The effect of a request does not run the reading back. -/
theorem Effect.neverBack {ends : Prop} {c : Caller} {s t : State} (e : Effect ends c s t) {g : BitVec 8} {r : Int}
    {w : Option StartKind} (p : Reads g r w s) : NeverBack g r t := by
  have byTime := reads_byTime g r w
  obtain ⟨time, -, step⟩ | moves := e.time
  · exact p.on.neverBack.of_same (by rw [time]; exact .refl _) step
  · cases moves with
    | withdraw => exact p.on.neverBack.of_same ⟨rfl, rfl, rfl, rfl, rfl, rfl⟩ rfl
    | selectRc =>
      refine p.on.neverBack.of_same ?_ (by simp [State.selectRc])
      rw [State.selectRc, State.raise_time]
      exact ⟨rfl, rfl, rfl, rfl, rfl, rfl⟩
    | beginSwitch => exact p.on.neverBack.of_same ⟨rfl, rfl, rfl, rfl, rfl, rfl⟩ rfl
    | slew => exact fun _ => p.on.2.trans (TimeBase.reading_keepReading _ _ s.time _ rfl rfl rfl)
    | hold => exact fun _ => p.on.2.trans (TimeBase.reading_keepReading _ _ s.time _ rfl rfl rfl)
    | stepNow offset =>
      have moved := TimeBase.step_neverBack s offset r { s with time := s.time.step s.config.slewStep offset } rfl
      rw [p.on.1] at moved
      exact byTime.applyStep s offset moved
    | endHandover _ u same free =>
      have found : Reads g r w u := ⟨p.on.of_same (by rw [same.1]; exact .refl _) same.2.2, by rw [same.2.2]; exact p.short,
        by rw [same.2.1]; exact p.waiting⟩
      exact byTime.endHandover u free found
    | item code index value _ u same =>
      exact (s.putItem_neverBack code index value p.on).of_same (by rw [same.1]; exact .refl _) same.2.2

/-- The starts of a part that was off or waited behind the reset line. -/
def StartsAnew (w : Option StartKind) (i : Instr) : Prop :=
  (∃ dt, i = .coldStart dt) ∨ (∃ dt, i = .warmStart dt) ∨ (∃ dt, i = .resetLineReleased dt) ∧ w ≠ none

/-- The reading over a command that is no such start. -/
theorem reads_leads (g : BitVec 8) (r : Int) (w : Option StartKind) :
    Leads (Reads g r w) fun i s => StartsAnew w i ∨ NeverBack g r s where
  pass s dt p := by
    refine p.later _ ?_
    split
    · exact le_refl _
    · exact Nat.le_add_right _ _
  shiftOut _ _ p := p.of_eq rfl rfl rfl
  freed _ _ p := p.of_eq rfl rfl rfl
  setWarning _ _ p := ⟨p.on, p.short, p.waiting⟩
  stay _ _ p := .inr p.on.neverBack
  place _ _ _ _ q := q.imp_right fun q => q.of_eq rfl rfl
  reserve _ _ _ _ _ _ _ q := q.imp_right fun q => q.of_eq rfl rfl
  effect _ _ _ _ _ e p := .inr (e.neverBack p)
  frameError _ s _ p := .inr (p.on.neverBack.of_eq (by simp) (by simp))
  pulse _ s _ p := .inr ((reads_byTime g r w).pulse s p)
  absence s m _ p := .inr ((reads_byTime g r w).refFailure _ (p.later _ (le_max_left _ _)).on.neverBack)
  flywheel s a _ _ _ p :=
    .inr ((reads_byTime g r w).completeOnBoundary _ ((reads_byTime g r w).countBoundary _ _ _ (p.later _ (le_max_left _ _))))
  second s _ _ p :=
    .inr ((reads_byTime g r w).completeOnBoundary _ ((reads_byTime g r w).countBoundary _ _ _ (p.later _ (le_max_left _ _))))
  backup s _ p := by
    have counted := (reads_byTime g r w).count _ s.time.nextBoundary false (p.later (max s.time.clock s.time.nextBoundary) (le_max_left _ _))
    exact .inr counted.on.neverBack
  scannerTick s _ p := .inr (p.on.neverBack.of_eq (by simp) (by simp))
  storeTick s _ p := .inr (p.on.neverBack.of_eq (by simp) (by simp))
  warningExpiry s _ p := .inr (p.on.neverBack.of_eq (by simp) (by simp))
  windowExpiry s _ p := .inr (p.on.neverBack.of_eq (by simp) (by simp))
  crystalReady _ s _ p := by
    have running : NeverBack g r { s with time := { s.time with crystalRunning := true } } :=
      p.on.neverBack.of_same ⟨rfl, rfl, rfl, rfl, rfl, rfl⟩ rfl
    refine .inr ?_
    unfold State.crystalReady
    dsimp only
    repeat' split
    · exact running.of_same (State.completeSwitch_reading _) (by rw [State.completeSwitch_config])
    · exact running
    · refine running.of_same ?_ (by simp)
      rw [State.raise_time]
      exact ⟨rfl, rfl, rfl, rfl, rfl, rfl⟩
    · exact running
  crystalStop _ s p := by
    refine .inr ?_
    unfold State.crystalStop
    dsimp only
    repeat' split
    · refine p.on.neverBack.of_same ?_ (by simp)
      rw [State.raise_time]
      exact ⟨rfl, rfl, rfl, rfl, rfl, rfl⟩
    · exact p.on.neverBack.of_same ⟨rfl, rfl, rfl, rfl, rfl, rfl⟩ rfl
    · exact p.on.neverBack.of_same ⟨rfl, rfl, rfl, rfl, rfl, rfl⟩ rfl
  sampleLines _ s levels first _ p := .inr (p.on.neverBack.of_eq (by simp) (by simp))
  sampleUnits _ s lines _ p := .inr (p.on.neverBack.of_eq (by simp) (by simp))
  beginFreeze _ s _ _ p := .inr (p.on.neverBack.of_eq (by simp) (by simp))
  release _ s _ _ p := .inr (p.on.neverBack.of_eq (by simp) (by simp))
  imageEnd _ s verify _ p := .inr (p.on.neverBack.of_eq (by simp) (by simp))
  configWriteEnd _ s verify _ p := .inr (p.on.neverBack.of_eq (by simp) (by simp))
  powerLost _ s image config _ p := by
    refine .inr (p.on.neverBack.of_same ?_ (by simp))
    simp only [State.stopBlocks_time, TimeBase.powerLost]
    split <;> exact ⟨rfl, rfl, rfl, rfl, rfl, rfl⟩
  loseMain _ _ _ _ _ p := .inr (p.on.neverBack.of_eq rfl rfl)
  loseBackup _ _ p := .inr (p.on.neverBack.of_eq rfl rfl)
  waits _ _ _ _ _ p := .inr (p.on.neverBack.of_eq rfl rfl)
  coldStart i s q begins p := by
    obtain ⟨dt, rfl⟩ | ⟨⟨dt, rfl⟩, waiting⟩ := begins
    · exact .inl (.inl ⟨dt, rfl⟩)
    · exact .inl (.inr (.inr ⟨⟨dt, rfl⟩, by rw [← p.waiting, waiting]; nofun⟩))
  warmStart i s q begins p := by
    obtain ⟨dt, rfl⟩ | ⟨⟨dt, rfl⟩, waiting⟩ := begins
    · exact .inl (.inr (.inl ⟨dt, rfl⟩))
    · exact .inl (.inr (.inr ⟨⟨dt, rfl⟩, by rw [← p.waiting, waiting]; nofun⟩))
  resetStart _ s _ p := by
    refine .inr (p.on.neverBack.of_same ?_ (by rw [State.resetStart_config]))
    rw [State.resetStart_time]
    exact ⟨rfl, rfl, rfl, rfl, rfl, rfl⟩
  resetUp _ s image config _ p := .inr (p.on.neverBack.of_eq (by simp) (by simp))
  resetPin _ _ _ p := .inr (p.on.neverBack.of_eq rfl rfl)

/-! ### A handover in progress (R31) -/

/-- A handover is in progress, with its crew on watch, in a generation of station time. -/
structure HandsOver (g : BitVec 8) (crew : Fin 16) (s : State) : Prop where
  generation : s.time.generation = g
  state : s.watch.state = .opened ∨ s.watch.state = .signed
  crew : s.watch.crew = crew

theorem HandsOver.of_eq {g : BitVec 8} {crew : Fin 16} {s t : State} (p : HandsOver g crew s)
    (generation : t.time.generation = s.time.generation) (watch : t.watch.state = s.watch.state) (same : t.watch.crew = s.watch.crew) :
    HandsOver g crew t :=
  ⟨generation.trans p.generation, by rw [watch]; exact p.state, same.trans p.crew⟩

theorem HandsOver.handover {g : BitVec 8} {crew : Fin 16} {s : State} (p : HandsOver g crew s) : s.watch.handover = true := by
  obtain opened | signed := p.state
  · simp [Watch.handover, opened]
  · simp [Watch.handover, signed]

/-- A slot that starts while a handover is in progress waits (R145). -/
theorem State.takeSlot_handsOver {g : BitVec 8} {crew : Fin 16} (i : Fin 6) (d : Int) (s : State) (p : HandsOver g crew s) :
    HandsOver g crew (s.takeSlot i d) := by
  have pending : HandsOver g crew (s.makePending i) := by
    unfold State.makePending
    split
    · exact p.of_eq rfl rfl rfl
    · exact p.of_eq (by simp) (by simp) (by simp)
  unfold State.takeSlot
  dsimp only
  split
  · rename_i none
    exact absurd p.state (by simp [none])
  · rename_i on
    exact absurd p.state (by simp [on])
  · exact pending.of_eq rfl rfl rfl
  · exact pending.of_eq rfl rfl rfl

theorem State.takeMinute_handsOver {g : BitVec 8} {crew : Fin 16} (t : LocalTime) (s : State) (p : HandsOver g crew s) :
    HandsOver g crew (s.takeMinute t) := by
  unfold State.takeMinute
  split
  · refine foldl_keeps_of (P := HandsOver g crew) _ (fun s i p => ?_) _ s p
    unfold State.trySlot
    split
    · exact State.takeSlot_handsOver _ _ _ (p.of_eq rfl rfl rfl)
    · exact p
  · exact p

theorem State.handlePending_handsOver {g : BitVec 8} {crew : Fin 16} (s : State) (p : HandsOver g crew s) :
    HandsOver g crew s.handlePending := by
  unfold State.handlePending
  split
  · exact p
  · dsimp only
    split
    · exact p.of_eq rfl rfl rfl
    · exact State.takeSlot_handsOver _ _ _ (p.of_eq rfl rfl rfl)

theorem State.warningExpiry_handsOver {g : BitVec 8} {crew : Fin 16} (s : State) (p : HandsOver g crew s) :
    HandsOver g crew s.warningExpiry := by
  unfold State.warningExpiry
  split
  · exact p.of_eq (by simp) (by simp) (by simp)
  · exact p

theorem State.windowExpiry_handsOver {g : BitVec 8} {crew : Fin 16} (s : State) (p : HandsOver g crew s) :
    HandsOver g crew s.windowExpiry := by
  unfold State.windowExpiry
  split
  · exact p.of_eq rfl rfl rfl
  · exact p

/-- What the Time Base does leaves a handover in progress, and holds its step back (R31, R37). -/
theorem handsOver_byTime (g : BitVec 8) (crew : Fin 16) : LeadsByTime (HandsOver g crew) (HandsOver g crew) where
  firstPulse _ p := p.of_eq rfl rfl rfl
  goodPulse _ _ p := p.of_eq rfl rfl rfl
  badPulse _ p := p.of_eq rfl rfl rfl
  autoReturn _ _ p := p.of_eq rfl rfl rfl
  count _ _ _ p := p.of_eq rfl rfl rfl
  scannerTick s p := p.of_eq (by simp) (by simp) (by simp)
  tallyTick s p := p.of_eq (by simp) (by simp) (by simp)
  warningExpiry := State.warningExpiry_handsOver
  windowExpiry := State.windowExpiry_handsOver
  storeTick s p := p.of_eq (by simp) (by simp) (by simp)
  stay _ p := p
  step s off free _ p := absurd p.handover (by simp [free])
  raise s e p := p.of_eq (by simp) (by simp) (by simp)
  present _ _ p := p.of_eq rfl rfl rfl
  takeMinute s t p := s.takeMinute_handsOver t p
  handlePending := State.handlePending_handsOver
  completeSwitch s _ p := by
    unfold State.completeSwitch
    split
    · exact p
    · exact p.of_eq (by simp) (by simp) (by simp)
  refFailure s p := by
    unfold State.refFailure
    dsimp only
    split
    · exact p.of_eq (by simp) (by simp) (by simp)
    · exact p.of_eq rfl rfl rfl

/-- The effect of a request that may not end a handover leaves it in progress, with no step applied. -/
theorem Effect.handsOver {ends : Prop} {c : Caller} {s t : State} (e : Effect ends c s t) {g : BitVec 8} {crew : Fin 16}
    (p : HandsOver g crew s) : ends ∨ HandsOver g crew t := by
  have in' := p.handover
  cases e with
  | selectRc => exact .inr (p.of_eq (by simp [State.selectRc]) (by simp [State.selectRc]) (by simp [State.selectRc]))
  | stepNow _ free => exact absurd in' (by simp [free])
  | inject => exact .inr (p.of_eq (by simp [State.inject]) (by simp [State.inject]) (by simp [State.inject]))
  | openAccount => exact .inr (p.of_eq (by simp [State.openAccount]) (by simp [State.openAccount]) (by simp [State.openAccount]))
  | preset =>
    exact .inr (p.of_eq (by simp [answerEvaluated, answer]) (by simp [answerEvaluated, answer]) (by simp [answerEvaluated, answer]))
  | serviceDone =>
    exact .inr (p.of_eq (by simp [answerEvaluated, answer]) (by simp [answerEvaluated, answer]) (by simp [answerEvaluated, answer]))
  | checkpoint => exact .inr (p.of_eq (by simp) (by simp) (by simp))
  | roster => exact .inr (p.of_eq (by simp) (by simp) (by simp))
  | openHandover _ watch => exact absurd in' (by simp [Watch.handover, watch])
  | takeWatch _ watch => exact absurd in' (by simp [Watch.handover, watch])
  | sign => exact .inr ⟨p.generation, .inr rfl, p.crew⟩
  | replace => exact .inr ⟨p.generation, .inr rfl, p.crew⟩
  | complete may => exact .inl may
  | carry may => exact .inl may
  | abort may => exact .inl may
  | configure code index value =>
    have enabled : HandsOver g crew (s.enableLine code index value) :=
      p.of_eq (by rw [State.enableLine_time]) (by simp) (by simp)
    have put : HandsOver g crew (s.putItem code index value) := by
      unfold State.putItem
      dsimp only
      split
      · refine (handsOver_byTime g crew).presentMinute _ ?_
        split <;> exact enabled.of_eq rfl rfl rfl
      · split <;> exact enabled.of_eq rfl rfl rfl
    exact .inr (put.of_eq (by simp) (by simp) (by simp))
  | checkConfig => exact .inr (p.of_eq (by simp) (by simp) (by simp))
  | _ => exact .inr (p.of_eq rfl rfl rfl)

/-- A warm start leaves a handover in progress: only its deadlines are taken (R160). -/
theorem State.resume_handsOver {g : BitVec 8} {crew : Fin 16} (gap : Nat) (keep : Bool) (s : State) (p : HandsOver g crew s) :
    HandsOver g crew (s.resume gap keep) := by
  have taken : ∀ u : State, HandsOver g crew u → HandsOver g crew (u.checkImages.takeUpWatch.raise .started).foundWarning.startTrigger :=
    fun u q => by
      have checked : HandsOver g crew u.checkImages := q.of_eq (by simp) (by simp) (by simp)
      have expired : HandsOver g crew u.checkImages.watchTick :=
        State.windowExpiry_handsOver _ (State.warningExpiry_handsOver _ checked)
      have watched : HandsOver g crew u.checkImages.takeUpWatch := by
        unfold State.takeUpWatch
        simp only [expired.handover, Bool.not_true, Bool.false_and, Bool.false_eq_true, if_false]
        exact expired
      exact watched.of_eq (by simp) (by simp) (by simp)
  unfold State.resume
  dsimp only
  split
  · exact taken _ (p.of_eq (by simp) (by simp) (by simp))
  · exact taken _ (p.of_eq (by simp) (by simp) (by simp))

/-- The commands that may take a handover's end or a cold start. -/
def MayEnd (i : Instr) : Prop := Ends i ∨ (∃ dt, i = .coldStart dt) ∨ ∃ dt, i = .resetLineReleased dt

/-- A handover in progress over a command. -/
theorem handsOver_leads (g : BitVec 8) (crew : Fin 16) : Leads (HandsOver g crew) fun i s => MayEnd i ∨ HandsOver g crew s where
  pass _ _ p := p.of_eq rfl rfl rfl
  shiftOut _ _ p := p.of_eq rfl rfl rfl
  freed _ _ p := p.of_eq rfl rfl rfl
  setWarning _ _ p := p.of_eq rfl rfl rfl
  stay _ _ p := .inr p
  place _ _ _ _ q := q.imp_right fun p => p.of_eq rfl rfl rfl
  reserve _ _ _ _ _ _ _ q := q.imp_right fun p => p.of_eq rfl rfl rfl
  effect _ _ _ _ _ e p := (e.handsOver p).imp_left .inl
  frameError _ s _ p := .inr (p.of_eq (by simp) (by simp) (by simp))
  pulse _ s _ p := .inr ((handsOver_byTime g crew).pulse s p)
  absence s m _ p := .inr ((handsOver_byTime g crew).refFailure _ (p.of_eq rfl rfl rfl))
  flywheel s a _ _ _ p := .inr ((handsOver_byTime g crew).completeOnBoundary _
    ((handsOver_byTime g crew).countBoundary (s.reach _) _ _ (p.of_eq rfl rfl rfl)))
  second s _ _ p := .inr ((handsOver_byTime g crew).completeOnBoundary _
    ((handsOver_byTime g crew).countBoundary (s.reach _) _ _ (p.of_eq rfl rfl rfl)))
  backup s _ p := .inr (p.of_eq rfl rfl rfl)
  scannerTick s _ p := .inr (p.of_eq (by simp) (by simp) (by simp))
  storeTick s _ p := .inr (p.of_eq (by simp) (by simp) (by simp))
  warningExpiry s _ p := .inr (s.warningExpiry_handsOver p)
  windowExpiry s _ p := .inr (s.windowExpiry_handsOver p)
  crystalReady _ s _ p := by
    have running : HandsOver g crew { s with time := { s.time with crystalRunning := true } } := p.of_eq rfl rfl rfl
    refine .inr ?_
    unfold State.crystalReady
    dsimp only
    split
    · split
      · rename_i xtal
        exact (handsOver_byTime g crew).completeSwitch _ (by simp [xtal]) running
      · split
        · exact running
        · exact p.of_eq (by simp) (by simp) (by simp)
    · exact running
  crystalStop _ s p := by
    refine .inr ?_
    unfold State.crystalStop
    dsimp only
    repeat' split
    · exact p.of_eq (by simp) (by simp) (by simp)
    · exact p.of_eq rfl rfl rfl
    · exact p.of_eq rfl rfl rfl
  sampleLines _ s levels first _ p := .inr (p.of_eq (by simp) (by simp) (by simp))
  sampleUnits _ s lines _ p := .inr (p.of_eq (by simp) (by simp) (by simp))
  beginFreeze _ s _ _ p := .inr (p.of_eq (by simp) (by simp) (by simp))
  release _ s _ _ p := .inr (p.of_eq (by simp) (by simp) (by simp))
  imageEnd _ s verify _ p := .inr (p.of_eq (by simp) (by simp) (by simp))
  configWriteEnd _ s verify _ p := .inr (p.of_eq (by simp) (by simp) (by simp))
  powerLost _ s image config _ p := by
    refine .inr (p.of_eq ?_ (by simp) (by simp))
    simp only [State.stopBlocks_time, TimeBase.powerLost]
    split <;> rfl
  loseMain _ _ _ _ _ p := .inr (p.of_eq rfl rfl rfl)
  loseBackup _ _ p := .inr (p.of_eq rfl rfl rfl)
  waits _ _ _ _ _ p := .inr (p.of_eq rfl rfl rfl)
  coldStart i s q begins _ := by
    obtain ⟨dt, rfl⟩ | ⟨⟨dt, rfl⟩, -⟩ := begins
    · exact .inl (.inr (.inl ⟨dt, rfl⟩))
    · exact .inl (.inr (.inr ⟨dt, rfl⟩))
  warmStart i s q _ p := by
    refine .inr (State.resume_handsOver _ _ _ (p.of_eq ?_ (by simp) (by simp)))
    simp only [TimeBase.warm]
    split <;> rfl
  resetStart dt _ _ _ := .inl (.inr (.inr ⟨dt, rfl⟩))
  resetUp _ s image config _ p := .inr (p.of_eq (by simp) (by simp) (by simp))
  resetPin _ _ _ p := .inr (p.of_eq rfl rfl rfl)

end Sys2Proof.Machine

namespace Sys2Proof.Proofs

open Sys2Proof Sys2Proof.Machine Sys2Proof.Claim

/-- Settles O20: over each command the elapsed counter moves as `ElapsedAfter` says. -/
theorem elapsedCounterLaw : Obligations.ElapsedCounterLaw := by
  intro c s t runs
  have after := (elapsed_leads s).exec runs ⟨rfl, rfl⟩
  cases c <;> exact after

/-- Settles O22: the reading is kept over every change of the second's length and raised by every count. -/
theorem stationTimeNeverRunsBack : Obligations.StationTimeNeverRunsBack := by
  intro c s t short runs generation notCold notWarm notWaiting
  have found : Reads s.time.generation (s.time.reading s.config.slewStep) s.pins.startWaiting s := ⟨⟨rfl, le_refl _⟩, short, rfl⟩
  obtain (⟨dt, cold⟩ | ⟨dt, warm⟩ | ⟨⟨dt, released⟩, waits⟩) | on := (reads_leads _ _ _).exec runs found
  · exact (notCold dt cold).elim
  · exact (notWarm dt warm).elim
  · exact (waits (notWaiting dt released)).elim
  · exact on generation

/-- Settles O23: a handover in progress holds every step back, since a step is applied only where none is in progress. -/
theorem handoverHoldsSteps : Obligations.HandoverHoldsSteps := by
  intro c s t runs state notRelease notAbort notSend notCold notReset
  have found : HandsOver s.time.generation s.watch.crew s := ⟨rfl, state, rfl⟩
  obtain ((⟨h, carry, is⟩ | ⟨h, is⟩ | ⟨dt, bytes, is⟩) | ⟨dt, is⟩ | ⟨dt, is⟩) | kept := (handsOver_leads _ _).exec runs found
  · exact (notRelease h carry is).elim
  · exact (notAbort h is).elim
  · exact (notSend dt bytes is).elim
  · exact (notCold dt is).elim
  · exact (notReset dt is).elim
  · exact ⟨kept.generation, kept.state, kept.crew⟩

end Sys2Proof.Proofs
end

section
/-! The condition word and service states (09 section 9.7, R112, R162), with the statements O11 and O39. -/

namespace Sys2Proof.Machine

open Sys2Proof Sys2Proof.Claim

/-! ### The held states in the condition word (R162) -/

/-- A held state sets its one bit of the word. -/
theorem heldBit_getLsb (i : Fin 8) (holds : Bool) (k : Fin 32) :
    (heldBit i.val holds).getLsb k = (holds && decide (k.val = 16 + i.val)) := by
  revert i holds k
  decide +kernel

theorem getLsb_or {w : Nat} (x y : BitVec w) (k : Fin w) : (x ||| y).getLsb k = (x.getLsb k || y.getLsb k) := by
  simp [BitVec.getLsb_eq_getElem]

/-- A word with the zero bits of R162 has no bit from the twelfth on. -/
theorem getLsb_of_noHeldBits {w : Word32} (zero : w &&& 0xFFFFF000#32 = 0#32) (k : Fin 32) (high : 12 ≤ k.val) : w.getLsb k = false := by
  have mask : ∀ k : Fin 32, 12 ≤ k.val → (0xFFFFF000#32).getLsb k = true := by decide
  have bit := congrArg (fun v : Word32 => v.getLsb k) zero
  simpa [BitVec.getLsb_eq_getElem, show (0xFFFFF000#32)[k.val] = true by simpa [BitVec.getLsb_eq_getElem] using mask k high] using bit

/-- The bits of the held states. -/
theorem State.heldWord_getLsb (s : State) (k : Fin 32) : s.heldWord.getLsb k =
    ((!s.time.timeSet && decide (k.val = 16)) || (s.time.pendingStep.isSome && decide (k.val = 17))
      || (!s.trips.pendingList.isEmpty && decide (k.val = 18)) || (s.anyConflict && decide (k.val = 19))
      || (s.anyFailed && decide (k.val = 20)) || (s.tally.freeze && decide (k.val = 21)) || (s.watch.overdue && decide (k.val = 22))
      || (s.store.configFault && decide (k.val = 23))) := by
  have bit := fun (i : Fin 8) (b : Bool) => heldBit_getLsb i b k
  unfold State.heldWord
  simp only [getLsb_or]
  rw [show heldBit 0 = heldBit (0 : Fin 8).val from rfl, show heldBit 1 = heldBit (1 : Fin 8).val from rfl,
    show heldBit 2 = heldBit (2 : Fin 8).val from rfl, show heldBit 3 = heldBit (3 : Fin 8).val from rfl,
    show heldBit 4 = heldBit (4 : Fin 8).val from rfl, show heldBit 5 = heldBit (5 : Fin 8).val from rfl,
    show heldBit 6 = heldBit (6 : Fin 8).val from rfl, show heldBit 7 = heldBit (7 : Fin 8).val from rfl]
  simp only [bit]
  rfl

/-- A unit in CONFLICT is the cause of MODE_CONFLICT (R84). -/
theorem State.anyConflict_iff (s : State) : s.anyConflict = true ↔ ∃ u : Fin 8, s.units[u].mode = .conflict := by
  simp only [State.anyConflict, toList_eq_map_finRange, List.any_map, List.any_eq_true, List.mem_finRange, true_and, Function.comp,
    beq_iff_eq]

/-- A FAILED image is the cause of STORE_FAULT (R124). -/
theorem State.anyFailed_iff (s : State) : s.anyFailed = true ↔ ∃ i : Fin 32, s.store.failed[i] = true := by
  simp only [State.anyFailed, toList_eq_map_finRange, List.any_map, List.any_eq_true, List.mem_finRange, true_and, Function.comp, id]

/-! ### Service states (R112) -/

/-- The warning threshold is reached when the margin's hours below next-due are. -/
theorem LiveFields.threshold_le_iff (l : LiveFields) (equivalent : Nat) :
    l.threshold ≤ equivalent ↔ l.nextDue ≤ equivalent + 3600 * l.margin := by
  simp only [LiveFields.threshold, Config.secondsPerHour]
  omega

theorem serviceOf_due {equivalent : Nat} {l : LiveFields} (due : l.nextDue ≤ equivalent) : serviceOf equivalent l = .due := if_pos due

theorem serviceOf_warn {equivalent : Nat} {l : LiveFields} (before : equivalent < l.nextDue)
    (warn : l.nextDue ≤ equivalent + 3600 * l.margin) : serviceOf equivalent l = .warn := by
  rw [serviceOf, if_neg (Nat.not_le.mpr before), if_pos ((l.threshold_le_iff equivalent).mpr warn)]

theorem serviceOf_normal {equivalent : Nat} {l : LiveFields} (before : equivalent < l.nextDue)
    (far : equivalent + 3600 * l.margin < l.nextDue) : serviceOf equivalent l = .normal := by
  rw [serviceOf, if_neg (Nat.not_le.mpr before), if_neg ((l.threshold_le_iff equivalent).not.mpr (Nat.not_le.mpr far))]

/-- A service state that does not rise raises nothing. -/
theorem serviceEvents_fall : ∀ a b : Service, b.code ≤ a.code → serviceEvents a b = 0#32 := by
  intro a b fall
  cases a <;> cases b <;> simp_all [serviceEvents, Service.code]

/-- The evaluation of a LIVE account. -/
theorem Account.evaluate_eq {a : Account} {l : LiveFields} (live : a.live = some l) :
    a.evaluate = ({ a with live := some { l with service := serviceOf a.figures.equivalent l } },
      serviceEvents l.service (serviceOf a.figures.equivalent l)) := by
  simp only [Account.evaluate, live]

end Sys2Proof.Machine

namespace Sys2Proof.Proofs

open Sys2Proof Sys2Proof.Machine Sys2Proof.Claim

/-- Settles O11: each held state has one bit of the word, where the latched word has none. -/
theorem heldStatesFollowCauses : Obligations.HeldStatesFollowCauses := by
  intro s zero
  have high := getLsb_of_noHeldBits zero
  have held := s.heldWord_getLsb
  have bits : ∀ k : Fin 32, s.conditions.getLsb k = (s.port.latched.getLsb k || s.heldWord.getLsb k) := fun k => getLsb_or _ _ k
  refine ⟨fun k => ?low, ?_, ?_, ?_, ?_, ?_, ?_, ?_, ?_, fun k range => ?other⟩
  case low =>
    have := k.isLt
    rw [bits, held]
    simp [show k.val ≠ 16 by omega, show k.val ≠ 17 by omega, show k.val ≠ 18 by omega, show k.val ≠ 19 by omega,
      show k.val ≠ 20 by omega, show k.val ≠ 21 by omega, show k.val ≠ 22 by omega, show k.val ≠ 23 by omega]
  case other =>
    rw [bits, held, high k (by omega)]
    simp [show k.val ≠ 16 by omega, show k.val ≠ 17 by omega, show k.val ≠ 18 by omega, show k.val ≠ 19 by omega,
      show k.val ≠ 20 by omega, show k.val ≠ 21 by omega, show k.val ≠ 22 by omega, show k.val ≠ 23 by omega]
  all_goals rw [bits, held, high _ (by decide)]
  all_goals simp [State.anyConflict_iff, State.anyFailed_iff]

/-- Settles O39, row by row of the tables of R112. -/
theorem serviceStates : Obligations.ServiceStates :=
  ⟨fun _ _ => ⟨serviceOf_due, serviceOf_warn, serviceOf_normal⟩, rfl, rfl, rfl, serviceEvents_fall, fun _ _ => Account.evaluate_eq⟩

end Sys2Proof.Proofs
end

section
/-! The requests of the Time Base and its own events (01, 02): SELECT_SOURCE, SET_TIME, the REF failure, the crystal, and stamps, with the
statements O12, O13, O14, O18, O19 and O21. -/

namespace Sys2Proof.Machine

open Sys2Proof Sys2Proof.Claim

/-- States with equal fields are equal. -/
theorem State.ext_fields {s t : State} (pending : s.pending = t.pending) (pins : s.pins = t.pins) (config : s.config = t.config)
    (time : s.time = t.time) (lines : s.lines = t.lines) (trips : s.trips = t.trips) (units : s.units = t.units)
    (tally : s.tally = t.tally) (store : s.store = t.store) (watch : s.watch = t.watch) (port : s.port = t.port) : s = t := by
  cases s; cases t; simp_all

/-! ### SELECT_SOURCE (R9) -/

@[simp] theorem Source.ofCode_code (q : Source) : Source.ofCode q.code = some q := by cases q <;> rfl

theorem Source.ofCode_above : ∀ code : Nat, 2 < code → Source.ofCode code = none
  | _ + 3, _ => rfl

theorem selectSourceAct_unknown {code : Nat} (c : Caller) (s : State) (unknown : 2 < code) :
    selectSourceAct code c s = answer .badField s.sourceStatus s := by
  simp only [selectSourceAct, Source.ofCode_above code unknown]

theorem selectSourceAct_current (q : Source) (c : Caller) {s : State} (current : q = s.time.source) :
    let idle := { s with time := { s.time with target := none } }
    selectSourceAct q.code c s = answer .redundant idle.sourceStatus idle := by
  simp only [selectSourceAct, Source.ofCode_code, if_pos current]

theorem selectSourceAct_rc (c : Caller) {s : State} (up : s.up = true) (other : s.time.source ≠ .rc) :
    let onRc := withEvent .sourceSwitched { s with time := { s.time with
      source := .rc, target := none, rcHeld := true, holdover := if s.time.source = .ref then 0 else s.time.holdover } }
    selectSourceAct Source.rc.code c s = answer .ok onRc.sourceStatus onRc := by
  have selected : s.selectRc = withEvent .sourceSwitched { s with time := { s.time with
      source := .rc, target := none, rcHeld := true, holdover := if s.time.source = .ref then 0 else s.time.holdover } } :=
    State.raise_withEvent .sourceSwitched up
  simp only [selectSourceAct, Source.ofCode_code, if_neg other.symm, selected]

theorem selectSourceAct_begins (q : Target) (c : Caller) {s : State} (other : q.source ≠ s.time.source) :
    let begun := { s with time := { s.time with target := some q } }
    selectSourceAct q.source.code c s = answer .accepted begun.sourceStatus begun := by
  cases q with
  | ref => simp only [selectSourceAct, Source.ofCode_code, if_neg other]; rfl
  | xtal => simp only [selectSourceAct, Source.ofCode_code, if_neg other]; rfl

/-! ### SET_TIME (R27 to R32) -/

theorem setTimeAct_outside {seconds millis : Nat} (c : Caller) (s : State) (outside : 4294967295 < seconds ∨ 999 < millis) :
    setTimeAct seconds millis c s = answer .badField [] s := if_pos outside

/-- Rounding to the nearest whole second, a half second away from zero. -/
theorem roundSecond_near (ms : Int) : roundSecond ms % 1000 = 0 ∧ (roundSecond ms - ms).natAbs ≤ 500
    ∧ ((roundSecond ms - ms).natAbs = 500 → ms.natAbs < (roundSecond ms).natAbs) := by
  unfold roundSecond
  split <;> omega

theorem withinSecond {seconds millis : Nat} (s : seconds ≤ 4294967295) (m : millis ≤ 999) :
    ¬ (Config.stationTopS < seconds ∨ 999 < millis) := by
  simp only [Config.stationTopS]; omega

/-- A correction taken as a slew (R29). -/
theorem setTimeAct_slew {seconds millis : Nat} (c : Caller) {z : State} (inSeconds : seconds ≤ 4294967295) (inMillis : millis ≤ 999)
    (small : z.time.timeSet = true ∧ (z.measuredOffset ((seconds : Int) * 1000 + millis)).natAbs ≤ z.config.slewThreshold) :
    let off := z.measuredOffset ((seconds : Int) * 1000 + millis)
    setTimeAct seconds millis c z = answer .ok ((z.takeSlew off).correctionReply off 0) (z.takeSlew off) := by
  simp only [setTimeAct, if_neg (withinSecond inSeconds inMillis), if_pos small]

/-- A step held back by a handover (R31). -/
theorem setTimeAct_hold {seconds millis : Nat} (c : Caller) {z : State} (inSeconds : seconds ≤ 4294967295) (inMillis : millis ≤ 999)
    (large : ¬ (z.time.timeSet = true ∧ (z.measuredOffset ((seconds : Int) * 1000 + millis)).natAbs ≤ z.config.slewThreshold))
    (handover : z.watch.handover = true) :
    let off := z.measuredOffset ((seconds : Int) * 1000 + millis)
    setTimeAct seconds millis c z = answer .deferred ((z.holdStep off).correctionReply off 2) (z.holdStep off) := by
  simp only [setTimeAct, if_neg (withinSecond inSeconds inMillis), if_neg large, handover, if_true]

/-- A step at once (R30). -/
theorem setTimeAct_step {seconds millis : Nat} (c : Caller) {z : State} (inSeconds : seconds ≤ 4294967295) (inMillis : millis ≤ 999)
    (large : ¬ (z.time.timeSet = true ∧ (z.measuredOffset ((seconds : Int) * 1000 + millis)).natAbs ≤ z.config.slewThreshold))
    (free : z.watch.handover = false) :
    let off := z.measuredOffset ((seconds : Int) * 1000 + millis)
    setTimeAct seconds millis c z = answer .ok ((z.applyStep off).correctionReply off 1) (z.applyStep off) := by
  simp only [setTimeAct, if_neg (withinSecond inSeconds inMillis), if_neg large, free, Bool.false_eq_true, if_false]

theorem Watch.handover_iff (w : Watch) : w.handover = true ↔ w.state = .opened ∨ w.state = .signed := by
  simp [Watch.handover]

theorem Watch.not_handover {w : Watch} (opened : w.state ≠ .opened) (signed : w.state ≠ .signed) : w.handover = false := by
  simp [Watch.handover, opened, signed]

/-- The local time shown after a step. -/
def State.shownAfterStep (s : State) (off : Int) : LocalTime := ({ s with time := s.time.step s.config.slewStep off } : State).localTime

/-- A step of station time with the blocks up: STEP_APPLIED, and the watch takes the minute event with the new local time (R30, R34). -/
theorem State.applyStep_eq (off : Int) {s : State} (up : s.up = true) :
    s.applyStep off = (withEvent .stepApplied
      { s with time := steppedTime s.config.slewStep off (s.shownAfterStep off) s.time }).takeMinute (s.shownAfterStep off) := by
  have raised : ({ s with time := s.time.step s.config.slewStep off } : State).raise .stepApplied
      = withEvent .stepApplied { s with time := s.time.step s.config.slewStep off } := State.raise_withEvent .stepApplied up
  have there : (withEvent .stepApplied { s with time := s.time.step s.config.slewStep off }).up = true := up
  rw [State.applyStep, raised, State.presentMinute, if_pos there]
  rfl

/-- The local time is that of the reading and the local offset. -/
theorem State.localTime_eq_of {s t : State} (same : SameReading s.time t.time) (config : t.config = s.config) : t.localTime = s.localTime := by
  simp only [State.localTime, State.stationSeconds, config, same.reading]

/-- The local time after a step is the one it showed. -/
theorem State.applyStep_localTime (off : Int) (s : State) : (s.applyStep off).localTime = s.shownAfterStep off := by
  refine State.localTime_eq_of (s := { s with time := s.time.step s.config.slewStep off }) ?_ (by simp)
  rw [State.applyStep_time]
  exact ⟨rfl, rfl, rfl, rfl, rfl, rfl⟩

theorem or_and_absorb (b w : Word32) : b ||| b &&& w = b := by
  ext k hk
  simp only [BitVec.getElem_or, BitVec.getElem_and]
  cases b[k] <;> rfl

/-- A latched bit stands while conditions are raised. -/
theorem Port.Raised.keeps {p q : Port} (raised : p.Raised q) {b : Word32} (latched : p.latched &&& b = b) : q.latched &&& b = b := by
  obtain ⟨w, -, rfl⟩ := raised
  show (p.latched ||| w) &&& b = b
  rw [BitVec.and_comm, BitVec.and_or_distrib_left, BitVec.and_comm, latched, or_and_absorb]

/-- An event taken is latched. -/
theorem withEvent_latched (e : Event) (s : State) : (withEvent e s).port.latched &&& e.bit = e.bit := by
  show (s.port.latched ||| e.bit) &&& e.bit = e.bit
  rw [BitVec.and_comm, BitVec.or_comm, BitVec.and_or_distrib_left, BitVec.and_self, or_and_absorb]

/-- Conditions raised leave all of the port but the latched word. -/
theorem Port.Raised.eq {p q : Port} (raised : p.Raised q) : q = { p with latched := q.latched } := by
  obtain ⟨w, -, rfl⟩ := raised
  rfl

/-- A step at once: what it leaves, and what the watch takes. -/
theorem State.applyStep_spec (off : Int) {z : State} (up : z.up = true) :
    let a := z.applyStep off
    a = { z with time := a.time, watch := a.watch, port := a.port }
      ∧ a.time = steppedTime z.config.slewStep off a.localTime z.time
      ∧ a = (withEvent .stepApplied { z with time := a.time }).takeMinute a.localTime
      ∧ a.port = { z.port with latched := a.port.latched }
      ∧ a.port.latched &&& Event.stepApplied.bit = Event.stepApplied.bit := by
  intro a
  have shown : a.localTime = z.shownAfterStep off := z.applyStep_localTime off
  have eq : a = (withEvent .stepApplied
      { z with time := steppedTime z.config.slewStep off (z.shownAfterStep off) z.time }).takeMinute (z.shownAfterStep off) :=
    State.applyStep_eq off up
  have time : a.time = steppedTime z.config.slewStep off (z.shownAfterStep off) z.time := by
    rw [eq, State.takeMinute_time]; rfl
  have raised : (withEvent .stepApplied { z with time := a.time }).port.Raised a.port := by
    rw [time, eq]; exact (State.takeMinute_quiet _ _).1
  refine ⟨?_, by rw [shown]; exact time, by rw [shown, time]; exact eq, raised.eq, raised.keeps (withEvent_latched _ _)⟩
  rw [eq]
  refine State.ext_fields (by simp [withEvent]) (by simp [withEvent]) (by simp [withEvent]) rfl (by simp [withEvent]) (by simp [withEvent])
    (by simp [withEvent]) (by simp [withEvent]) (by simp [withEvent]) rfl rfl

/-! ### REF failure (R5) -/

/-- What a REF failure leaves of a Time Base whose source is not REF. -/
def failedTime (t : TimeBase) : TimeBase := { t with refQualified := false, goodRun := 0, badRun := 0, anchor := none }

/-- What it leaves of one whose source is REF. -/
def fallenTime (t : TimeBase) : TimeBase :=
  { failedTime t with source := if t.crystalRunning then .xtal else .rc, target := none, rcHeld := false, holdover := 0 }

/-- A raise, as the statements write it: nothing where the port is not there. -/
theorem State.raise_eq_if (e : Event) (s : State) : s.raise e = if s.up = true then withEvent e s else s := by
  cases up : s.up
  · simp [State.raise, State.raiseWord, up]
  · simpa using State.raise_withEvent e up

theorem State.refFailure_onRef {s : State} (source : s.time.source = .ref) :
    s.refFailure = let u := { s with time := fallenTime s.time }
      if u.up = true then withEvent .sourceFail u else u := by
  simp only [State.refFailure, source, if_true]
  exact State.raise_eq_if _ _

theorem State.refFailure_other {s : State} (source : s.time.source ≠ .ref) : s.refFailure = { s with time := failedTime s.time } := by
  simp only [State.refFailure, source, if_false]
  rfl

/-- A bad pulse that brings the bad run to the limit is a REF failure (R3, R5). -/
theorem State.pulse_failure {s : State} {anchor : Nat} (anchored : s.time.anchor = some anchor)
    (outside : inWindow s.config.toleranceUs anchor s.time.clock = false) (limit : s.config.refBadLimit ≤ upTo 255 s.time.badRun) :
    s.pulse = ({ s with time := { s.time with
      lastPulse := s.time.clock, badRun := upTo 255 s.time.badRun, goodRun := 0 } } : State).refFailure := by
  have bad : s.config.refBadLimit ≤ satSucc 255 s.time.badRun := limit
  simp only [State.pulse, anchored, outside, Bool.false_eq_true, if_false, State.badPulse, bad, if_true]
  rfl

/-! ### The crystal (R7, R8) -/

/-- A crystal that becomes ready while RC is current. -/
theorem State.crystalReady_switches {s : State} (up : s.timeUp = true) (source : s.time.source = .rc) (target : s.time.target = some .xtal) :
    s.crystalReady = ({ s with time := { s.time with
      crystalRunning := true, source := .xtal, target := none, rcHeld := false } } : State).raise .sourceSwitched := by
  simp only [State.crystalReady, up, source, target, decide_true, Bool.and_self, if_true, State.completeSwitch]
  simp [Target.source]

theorem State.crystalReady_takes {s : State} (up : s.timeUp = true) (source : s.time.source = .rc) (target : s.time.target ≠ some .xtal)
    (free : s.time.rcHeld = false) :
    s.crystalReady = ({ s with time := { s.time with crystalRunning := true, source := .xtal } } : State).raise .sourceSwitched := by
  simp [State.crystalReady, up, source, target, free]

theorem State.crystalReady_only {s : State}
    (quiet : s.timeUp = false ∨ s.time.source ≠ .rc ∨ s.time.target ≠ some .xtal ∧ s.time.rcHeld = true) :
    s.crystalReady = { s with time := { s.time with crystalRunning := true } } := by
  obtain down | source | ⟨target, held⟩ := quiet
  · simp [State.crystalReady, down]
  · simp [State.crystalReady, source]
  · simp [State.crystalReady, target, held]

theorem State.crystalStop_onXtal {s : State} (up : s.timeUp = true) (source : s.time.source = .xtal) :
    s.crystalStop = ({ s with time := { s.time with crystalRunning := false, source := .rc, rcHeld := false } } : State).raise .sourceFail := by
  simp [State.crystalStop, up, source]

theorem State.crystalStop_other {s : State} (up : s.timeUp = true) (source : s.time.source ≠ .xtal) :
    s.crystalStop = { s with time := { s.time with crystalRunning := false } } := by
  simp [State.crystalStop, up, source]

theorem State.crystalStop_backup {s : State} (down : s.timeUp = false) :
    s.crystalStop = { s with time := { s.time with crystalRunning := false, backupLost := true } } := by
  simp [State.crystalStop, down]

/-! ### Stamps and local time (R15, R16, R24, R34) -/

theorem plainSlew_eq (step : Nat) (rest : Int) : plainSlew step rest =
    if rest.natAbs < step then rest else if rest < 0 then -(step : Int) else step := rfl

/-- The slew amount as the statements spell it. -/
theorem TimeBase.slewAmount_eq (step : Nat) (t : TimeBase) : t.slewAmount step = Claim.slewAmount step t := by
  unfold TimeBase.slewAmount Claim.slewAmount
  rw [plainSlew_eq]
  cases t.readFloor with
  | none => rfl
  | some floor =>
    dsimp only
    generalize (if t.slewRemainder.natAbs < step then t.slewRemainder else if t.slewRemainder < 0 then -(step : Int) else step) = plain
    split <;> omega

/-- The reading as the statements spell it. -/
theorem TimeBase.reading_eq (step : Nat) (t : TimeBase) : t.reading step = readingOf step t := by
  unfold TimeBase.reading readingOf
  rw [TimeBase.slewAmount_eq]
  rfl

theorem TimeBase.reading_range (step : Nat) (t : TimeBase) : 0 ≤ t.reading step ∧ t.reading step ≤ 4294967295999 := by
  simp only [TimeBase.reading, Config.stationTopMs]
  omega

/-- Seconds and milliseconds of a stamp spell the reading. -/
theorem State.stamp_reading (s : State) : (s.stamp.seconds : Int) * 1000 + s.stamp.millis = s.time.reading s.config.slewStep
    ∧ s.stamp.millis ≤ 999 ∧ s.stamp.seconds ≤ 4294967295 := by
  have range := s.time.reading_range s.config.slewStep
  simp only [State.stamp]
  omega

/-- Minute and day of a local time. -/
theorem localTimeOf_spec (seconds : Nat) (offset : Int) : (localTimeOf seconds offset).minute ≤ 1439
    ∧ ∃ rest : Nat, rest ≤ 59 ∧ (seconds : Int) + 60 * offset
      = 86400 * (localTimeOf seconds offset).day + 60 * (localTimeOf seconds offset).minute + rest := by
  simp only [localTimeOf]
  refine ⟨by omega, (((seconds : Int) + 60 * offset) % 60).toNat, by omega, by omega⟩

end Sys2Proof.Machine

namespace Sys2Proof.Proofs

open Sys2Proof Sys2Proof.Machine Sys2Proof.Claim

/-- Settles O12: the cases of R9 are those of the Time Base's act. -/
theorem selectSource : Obligations.SelectSource := by
  intro h i s taken
  have up : (s.pass h.dt).up = true := taken.1
  refine ⟨fun code unknown => ?_, fun q current => ?_, fun other => ?_, fun q other => ?_⟩
  · exact answers_of_act taken rfl fun c => selectSourceAct_unknown c _ unknown
  · exact answers_of_act taken rfl fun c => selectSourceAct_current q c (s := s.pass h.dt) current
  · exact answers_of_act taken rfl fun c => selectSourceAct_rc c (s := s.pass h.dt) up other
  · exact answers_of_act taken rfl fun c => selectSourceAct_begins q c (s := s.pass h.dt) other

/-- Settles O13: the range check of SET_TIME, and the rounding of R27. -/
theorem setTimeMeasuresTheOffset : Obligations.SetTimeMeasuresTheOffset := by
  refine ⟨fun h seconds millis i s taken outside => ?_, fun s target source => ?_, fun s target source => ?_⟩
  · exact answers_of_act taken rfl fun c => setTimeAct_outside c _ outside
  · simp only [State.measuredOffset, source, if_false]
  · simp only [State.measuredOffset, source, if_true]
    exact roundSecond_near _

/-- Settles O14: slew, step held and step at once are the branches of SET_TIME; a step at once ends in the watch's minute event. -/
theorem setTimeCorrects : Obligations.SetTimeCorrects := by
  intro h seconds millis i s taken inSeconds inMillis
  have up : (s.pass h.dt).up = true := taken.1
  have answered := fun {code body u} => answers_of_act (kind := 2) (c := .setTime h seconds millis) (code := code) (body := body) (u := u)
    taken rfl
  have large : ∀ z : State, (z.time.timeSet = false ∨ z.config.slewThreshold < (z.measuredOffset ((seconds : Int) * 1000 + millis)).natAbs) →
      ¬ (z.time.timeSet = true ∧ (z.measuredOffset ((seconds : Int) * 1000 + millis)).natAbs ≤ z.config.slewThreshold) := by
    rintro z (unset | far) ⟨set, near⟩
    · simp [unset] at set
    · omega
  refine ⟨fun set near => ?slew, fun far handover => ?hold, fun far opened signed => ?step⟩
  case slew =>
    exact ⟨_, answered fun c => setTimeAct_slew c inSeconds inMillis ⟨set, near⟩, rfl, rfl, rfl⟩
  case hold =>
    exact ⟨_, answered fun c => setTimeAct_hold c inSeconds inMillis (large (s.pass h.dt) far) ((Watch.handover_iff _).mpr handover),
      rfl, rfl, rfl⟩
  case step =>
    have free : (s.pass h.dt).watch.handover = false := Watch.not_handover opened signed
    refine ⟨_, answered fun c => setTimeAct_step c inSeconds inMillis (large (s.pass h.dt) far) free, ?_⟩
    generalize (s.pass h.dt).measuredOffset ((seconds : Int) * 1000 + millis) = off
    obtain ⟨frame, time, minute, port, latched⟩ := State.applyStep_spec off up
    have shown : ∀ r, (((s.pass h.dt).applyStep off).place i r).localTime = ((s.pass h.dt).applyStep off).localTime := fun _ => rfl
    refine ⟨?_, ?_, ?_, ?_, ?_, ?_, ?_, ?_, ?_, ?_, ?_, ?_, ⟨?_, ?_⟩, latched, ?_, ?_⟩
    · exact State.ext_fields (by simp) (by simp) (by simp) rfl (by simp) (by simp) (by simp) (by simp) (by simp) rfl rfl
    case refine_13 =>
      have watch := congrArg State.watch minute
      exact watch
    case refine_14 =>
      have raised := congrArg (·.port.latched) minute
      exact raised
    case refine_15 =>
      rw [State.place_slot, port]
      rfl
    case refine_16 =>
      simp only [State.place]
      rw [port]
      rfl
    all_goals
      rw [State.place_time, time]
      rfl

/-- Settles O18: the absence limit and the bad pulse at its limit both end in a REF failure. -/
theorem refFailure : Obligations.RefFailure := by
  refine ⟨fun s up anchored => ⟨fun source => ?_, fun source => ?_⟩, fun s none => ?_,
    fun dt anchor s up anchored outside limit => ⟨fun source => ?_, fun source => ?_⟩⟩
  · rw [exec, execAbsenceLimitExpiry, up, anchored, Bool.and_self, if_pos rfl,
      State.refFailure_onRef (s := s.reach (s.time.lastPulse + Config.absenceLimitUs)) source]
    rfl
  · rw [exec, execAbsenceLimitExpiry, up, anchored, Bool.and_self, if_pos rfl,
      State.refFailure_other (s := s.reach (s.time.lastPulse + Config.absenceLimitUs)) source]
    rfl
  · simp [exec, execAbsenceLimitExpiry, none]
  all_goals
    have pulse : exec (.refPulse dt) s = .next (s.pass dt).pulse := by
      rw [exec, execRefPulse, State.pass_timeUp, if_pos up]
    rw [pulse, State.pass_timeUp_eq dt s up]
    rw [State.pulse_failure (s := { s with time := { s.time with clock := s.time.clock + dt } }) anchored
      (by rw [← outside, Nat.mul_comm]; rfl) limit]
  · exact congrArg Host.Outcome.next (State.refFailure_onRef (by exact source))
  · exact congrArg Host.Outcome.next (State.refFailure_other (by exact source))

/-- Settles O19: the cases of R7 and R8 under main power and under backup supply, and the standing clock of R20. -/
theorem crystalEvents : Obligations.CrystalEvents := by
  intro dt s
  have ready : s.time.crystalRunning = false → exec (.crystalReady dt) s = .next (s.pass dt).crystalReady := fun stopped => by
    have same : (s.pass dt).time.crystalRunning = false := stopped
    simp only [exec, execCrystalReady, same, Bool.false_eq_true, if_false]
  have stop : exec (.crystalStop dt) s = .next (s.pass dt).crystalStop := rfl
  refine ⟨fun up => ⟨fun stopped source target => ?_, fun stopped source target free => ?_, fun stopped quiet => ?_, fun source => ?_,
    fun source => ?_⟩, fun down => ⟨?_, fun stopped => ?_, fun lost => ?_⟩, fun running => ?_, fun runs => ?_⟩
  · rw [ready stopped, State.crystalReady_switches (s := s.pass dt) up source target, State.raise_eq_if]; rfl
  · rw [ready stopped, State.crystalReady_takes (s := s.pass dt) up source target free, State.raise_eq_if]; rfl
  · rw [ready stopped, State.crystalReady_only (s := s.pass dt) (.inr quiet)]
  · rw [stop, State.crystalStop_onXtal (s := s.pass dt) up source, State.raise_eq_if]; rfl
  · rw [stop, State.crystalStop_other (s := s.pass dt) up source]
  · rw [stop, State.crystalStop_backup (s := s.pass dt) down]
  · rw [ready stopped, State.crystalReady_only (s := s.pass dt) (.inl down)]
  · refine ⟨State.pass_stands dt s (by simp [State.clockStands, lost, down]), ?_⟩
    simp [exec, execBackupBoundary, lost]
  · have same : (s.pass dt).time.crystalRunning = true := running
    simp only [exec, execCrystalReady, same, if_true]
  · have goes : s.clockStands = false := by
      obtain up | kept := runs
      · simp [State.clockStands, up]
      · simp [State.clockStands, kept]
    simp only [State.pass, goes, Bool.false_eq_true, if_false]

/-- Settles O21: the reading, the grade row by row, and local time by division. -/
theorem stampAndLocalTime : Obligations.StampAndLocalTime := by
  intro s
  refine ⟨TimeBase.reading_eq _ _, rfl, s.stamp_reading, ?_, ?_, ?_, ?_, ?_, localTimeOf_spec _ _⟩
  · intro unset; simp [State.stamp, TimeBase.grade, unset]
  · intro set source; simp [State.stamp, TimeBase.grade, set, source]
  · intro set source within; simp [State.stamp, TimeBase.grade, set, source, within]
  · intro set source beyond; simp [State.stamp, TimeBase.grade, set, source, Nat.not_le.mpr beyond]
  · intro set source; simp [State.stamp, TimeBase.grade, set, source]

end Sys2Proof.Proofs
end

section
/-! Counted boundaries and reference pulses (R2 to R6, R11 to R13, R25, R26), with the statements O15, O16 and O17. -/

namespace Sys2Proof.Machine

open Sys2Proof Sys2Proof.Claim

/-! ### What stands beside the Time Base -/

/-- Queue, pins, configuration and units stand; with the blocks not up nothing but the Time Base changes. -/
structure Beside (s t : State) : Prop where
  pending : t.pending = s.pending
  pins : t.pins = s.pins
  config : t.config = s.config
  units : t.units = s.units
  down : s.up = false → t = { s with time := t.time }

theorem Beside.of_time (s : State) (τ : TimeBase) : Beside s { s with time := τ } := ⟨rfl, rfl, rfl, rfl, fun _ => rfl⟩

theorem Beside.trans {s t u : State} (a : Beside s t) (b : Beside t u) : Beside s u := by
  refine ⟨b.pending.trans a.pending, b.pins.trans a.pins, b.config.trans a.config, b.units.trans a.units, fun down => ?_⟩
  have same : t.up = false := by rw [State.up, a.pins]; exact down
  rw [b.down same, a.down down]

theorem Beside.eq {s t : State} (b : Beside s t) :
    t = { s with time := t.time, lines := t.lines, trips := t.trips, tally := t.tally, store := t.store, watch := t.watch, port := t.port } :=
  State.ext_fields b.pending b.pins b.config rfl rfl rfl b.units rfl rfl rfl rfl

theorem State.raise_down (e : Event) {s : State} (down : s.up = false) : s.raise e = s := by
  rw [State.raise_eq_if, down]; rfl

theorem State.completeSwitch_beside (s : State) : Beside s s.completeSwitch := by
  refine ⟨by simp, by simp, by simp, by simp, fun down => ?_⟩
  unfold State.completeSwitch
  split
  · rfl
  · rw [State.raise_down .sourceSwitched (by exact down)]

theorem State.completeOnBoundary_beside (s : State) : Beside s s.completeOnBoundary := by
  unfold State.completeOnBoundary
  split
  · exact s.completeSwitch_beside
  · exact .of_time s s.time

theorem State.countBoundary_beside (n : Nat) (aligned : Bool) (s : State) : Beside s (s.countBoundary n aligned) := by
  refine ⟨by simp, by simp, by simp, by simp, fun down => ?_⟩
  have off : ({ s with time := s.time.count s.config.slewStep n aligned } : State).up = false := down
  unfold State.countBoundary
  simp only [off, Bool.false_eq_true, if_false]

theorem State.completeToRef_beside (s : State) : Beside s s.completeToRef := by
  unfold State.completeToRef
  dsimp only
  split
  · exact (State.countBoundary_beside _ _ _).trans (State.completeSwitch_beside _)
  · exact State.completeSwitch_beside _

/-! ### What stands of the Time Base -/

/-- The judgement of the pulses, the interval clock and the crystal stand. -/
structure SameJudgement (a b : TimeBase) : Prop where
  clock : b.clock = a.clock
  anchor : b.anchor = a.anchor
  lastPulse : b.lastPulse = a.lastPulse
  goodRun : b.goodRun = a.goodRun
  badRun : b.badRun = a.badRun
  refQualified : b.refQualified = a.refQualified
  crystalRunning : b.crystalRunning = a.crystalRunning

theorem SameJudgement.refl (a : TimeBase) : SameJudgement a a := ⟨rfl, rfl, rfl, rfl, rfl, rfl, rfl⟩

theorem SameJudgement.trans {a b c : TimeBase} (x : SameJudgement a b) (y : SameJudgement b c) : SameJudgement a c :=
  ⟨y.clock.trans x.clock, y.anchor.trans x.anchor, y.lastPulse.trans x.lastPulse, y.goodRun.trans x.goodRun, y.badRun.trans x.badRun,
    y.refQualified.trans x.refQualified, y.crystalRunning.trans x.crystalRunning⟩

/-- Source, switch and holdover seconds after a completed switch. -/
theorem State.completeSwitch_time {s : State} {q : Target} (target : s.time.target = some q) : s.completeSwitch.time =
    { s.time with source := q.source, target := none, rcHeld := false
                  holdover := if q = .ref ∨ s.time.source = .ref then 0 else s.time.holdover } := by
  simp only [State.completeSwitch, target, State.raise_time]

theorem State.completeSwitch_judgement (s : State) : SameJudgement s.time s.completeSwitch.time := by
  unfold State.completeSwitch
  split
  · exact .refl _
  · rw [State.raise_time]
    exact ⟨rfl, rfl, rfl, rfl, rfl, rfl, rfl⟩

theorem State.completeOnBoundary_ready {s : State} (ready : s.time.target = some .xtal ∧ s.time.crystalRunning = true) :
    s.completeOnBoundary.time = { s.time with
      source := .xtal, target := none, rcHeld := false, holdover := if s.time.source = .ref then 0 else s.time.holdover } := by
  rw [State.completeOnBoundary, if_pos ready, State.completeSwitch_time ready.1]
  simp [Target.source]

theorem State.completeOnBoundary_not {s : State} (not : ¬(s.time.target = some .xtal ∧ s.time.crystalRunning = true)) :
    s.completeOnBoundary = s := by
  rw [State.completeOnBoundary, if_neg not]

theorem State.completeOnBoundary_judgement (s : State) : SameJudgement s.time s.completeOnBoundary.time := by
  unfold State.completeOnBoundary
  split
  · exact s.completeSwitch_judgement
  · exact .refl _

theorem State.countBoundary_judgement (n : Nat) (aligned : Bool) (s : State) : SameJudgement s.time (s.countBoundary n aligned).time := by
  obtain ⟨l, eq⟩ := s.countBoundary_time n aligned
  rw [eq]
  cases s.stranded <;> exact ⟨rfl, rfl, rfl, rfl, rfl, rfl, rfl⟩

/-- Source, switch, position and holdover seconds after a count. -/
theorem State.countBoundary_fields (n : Nat) (aligned : Bool) (s : State) :
    let b := (s.countBoundary n aligned).time
    b.boundaryPos = n ∧ b.source = s.time.source ∧ b.target = s.time.target ∧ b.rcHeld = s.time.rcHeld
      ∧ b.holdover = if s.time.source = .ref then s.time.holdover else upTo Config.countTop s.time.holdover := by
  obtain ⟨l, eq⟩ := s.countBoundary_time n aligned
  simp only [eq]
  cases s.stranded <;> exact ⟨rfl, rfl, rfl, rfl, rfl⟩

/-! ### The count (R2, R25, R26) -/

/-- Aligning moves the boundary time up to the next whole second, short of the top. -/
theorem alignUp_spec (ms : Int) (top : ms ≤ 4294967295999) : ms ≤ alignUp ms ∧ alignUp ms < ms + 1000
    ∧ (alignUp ms % 1000 = 0 ∨ (alignUp ms = 4294967295999 ∧ 4294967295000 < ms)) := by
  unfold alignUp
  simp only [Config.stationTopMs]
  split <;> omega

/-- Two Time Bases agree in what a count moves. -/
structure SameCount (a b : TimeBase) : Prop where
  boundaryPos : b.boundaryPos = a.boundaryPos
  elapsed : b.elapsed = a.elapsed
  slewRemainder : b.slewRemainder = a.slewRemainder
  readFloor : b.readFloor = a.readFloor
  boundaryTime : b.boundaryTime = a.boundaryTime

theorem counted_of_same {step n : Nat} {aligned : Bool} {a b c : TimeBase} (counted : Counted step n aligned a b) (same : SameCount b c) :
    Counted step n aligned a c := by
  unfold Counted at *
  rw [same.boundaryPos, same.elapsed, same.slewRemainder, same.readFloor, same.boundaryTime]
  exact counted

theorem counted_from_same {step n : Nat} {aligned : Bool} {a b c : TimeBase} (counted : Counted step n aligned b c) (same : SameCount a b) :
    Counted step n aligned a c := by
  unfold Counted slewAmount at *
  rw [← same.elapsed, ← same.slewRemainder, ← same.readFloor, ← same.boundaryTime]
  exact counted

theorem State.reach_sameCount (m : Nat) (s : State) : SameCount s.time (s.reach m).time := ⟨rfl, rfl, rfl, rfl, rfl⟩

/-- The Time Base's count as the statements spell it. -/
theorem TimeBase.count_counted (step n : Nat) (aligned : Bool) (t : TimeBase) : Counted step n aligned t (t.count step n aligned) := by
  have amount : ({ t with boundaryPos := n, elapsed := satSucc Config.elapsedTop t.elapsed } : TimeBase).slewAmount step
      = Claim.slewAmount step t := TimeBase.slewAmount_eq _ _
  refine ⟨rfl, rfl, ?_, rfl, ?_, ?_⟩
  · simp only [TimeBase.count, TimeBase.settle, amount]
  · intro plain
    have unaligned : (aligned && (t.slewRemainder - Claim.slewAmount step t) == 0) = false := by
      obtain off | rest := plain
      · simp [off]
      · simp [rest]
    simp only [TimeBase.count, TimeBase.settle, amount, unaligned, Bool.false_eq_true, if_false]
  · intro at' rest
    have whole : (aligned && (t.slewRemainder - Claim.slewAmount step t) == 0) = true := by simp [at', rest]
    simp only [TimeBase.count, TimeBase.settle, amount, whole, if_true]
    exact alignUp_spec _ (min_le_left _ _)

/-- With no stranded step a counted boundary is the Time Base's count. -/
theorem State.countBoundary_counted {n : Nat} {aligned : Bool} {s : State} (none : s.stranded = none) :
    let b := (s.countBoundary n aligned).time
    Counted s.config.slewStep n aligned s.time b ∧ b.generation = s.time.generation ∧ b.timeSet = s.time.timeSet
      ∧ b.pendingStep = s.time.pendingStep := by
  obtain ⟨l, eq⟩ := s.countBoundary_time n aligned
  rw [none] at eq
  simp only [eq]
  exact ⟨counted_of_same (TimeBase.count_counted s.config.slewStep n aligned s.time) ⟨rfl, rfl, rfl, rfl, rfl⟩, rfl, rfl, rfl⟩

/-- A stranded step is applied at a counted boundary. -/
theorem State.countBoundary_stranded {n : Nat} {aligned : Bool} {s : State} {off : Int} (stranded : s.stranded = some off) :
    let b := (s.countBoundary n aligned).time
    b.generation = s.time.generation + 1 ∧ b.timeSet = true ∧ b.pendingStep = none ∧ b.slewRemainder = 0 := by
  obtain ⟨l, eq⟩ := s.countBoundary_time n aligned
  rw [stranded] at eq
  simp only [eq]
  exact ⟨rfl, rfl, rfl, rfl⟩

/-- A stranded step raises STEP_APPLIED. -/
theorem State.countBoundary_stepApplied {n : Nat} {aligned : Bool} {s : State} {off : Int} (stranded : s.stranded = some off) :
    (s.countBoundary n aligned).port.latched &&& Event.stepApplied.bit = Event.stepApplied.bit := by
  unfold State.stranded at stranded
  split at stranded
  case isFalse => cases stranded
  case isTrue free =>
    simp only [Bool.and_eq_true, Bool.not_eq_true'] at free
    obtain ⟨up, handover⟩ := free
    unfold State.countBoundary
    extract_lets s1
    have there : s1.up = true := up
    have ticked : s1.tick.up = true := by rw [State.up, State.tick_pins]; exact up
    have pending : s1.tick.time.pendingStep = some off := by rw [State.tick_time]; exact stranded
    have free : s1.tick.watch.handover = false := by unfold Watch.handover; rw [State.tick_watch_state]; exact handover
    have step : s1.tick.strandedStep = (s1.tick.applyStep off).handlePending := by
      rw [State.strandedStep, if_pos (by rw [pending, free]; rfl), State.endHandover, State.handoverSignal, pending]
    obtain ⟨-, -, -, -, latched⟩ := State.applyStep_spec off ticked
    have handled := (s1.tick.applyStep off).handlePending_quiet.1.keeps latched
    rw [if_pos there, step]
    unfold State.presentIfMoved
    split
    · exact handled
    · exact ((quiet_byTime _).leads.presentMinute _ (.refl _)).1.keeps handled

/-- With no stranded step in the statements' sense, none is found. -/
theorem stranded_of_noStrandedStep {s : State} (not : NoStrandedStep s) : s.stranded = none := by
  unfold State.stranded
  obtain none | opened | signed | down := not
  · simp [none]
  · simp [Watch.handover, opened]
  · simp [Watch.handover, signed]
  · simp [down]

theorem stranded_of_not_noStrandedStep {s : State} {off : Int} (pending : s.time.pendingStep = some off) (not : ¬ NoStrandedStep s) :
    s.stranded = some off := by
  unfold NoStrandedStep at not
  push Not at not
  obtain ⟨-, opened, signed, up⟩ := not
  simp [State.stranded, pending, Watch.handover, opened, signed, up]

theorem State.completeOnBoundary_sameCount (s : State) : SameCount s.time s.completeOnBoundary.time := by
  by_cases ready : s.time.target = some .xtal ∧ s.time.crystalRunning = true
  · rw [State.completeOnBoundary_ready ready]; exact ⟨rfl, rfl, rfl, rfl, rfl⟩
  · rw [State.completeOnBoundary_not ready]; exact ⟨rfl, rfl, rfl, rfl, rfl⟩

theorem State.completeSwitch_sameCount (s : State) : SameCount s.time s.completeSwitch.time := by
  unfold State.completeSwitch
  split
  · exact ⟨rfl, rfl, rfl, rfl, rfl⟩
  · rw [State.raise_time]; exact ⟨rfl, rfl, rfl, rfl, rfl⟩

theorem State.completeOnBoundary_generation (s : State) : s.completeOnBoundary.time.generation = s.time.generation
    ∧ s.completeOnBoundary.time.timeSet = s.time.timeSet ∧ s.completeOnBoundary.time.pendingStep = s.time.pendingStep := by
  by_cases ready : s.time.target = some .xtal ∧ s.time.crystalRunning = true
  · rw [State.completeOnBoundary_ready ready]; exact ⟨rfl, rfl, rfl⟩
  · rw [State.completeOnBoundary_not ready]; exact ⟨rfl, rfl, rfl⟩

/-! ### A boundary counted and a switch to XTAL completed there -/

/-- What a counted boundary leaves, with the switch to XTAL that may complete there, of the judgement and of the count. -/
theorem State.boundary_spec (n : Nat) (aligned : Bool) (s : State) :
    let t := (s.countBoundary n aligned).completeOnBoundary
    Beside s t ∧ SameJudgement s.time t.time ∧ t.time.boundaryPos = n ∧ t.time.elapsed = upTo Config.elapsedTop s.time.elapsed
      ∧ (NoStrandedStep s → Counted s.config.slewStep n aligned s.time t.time ∧ t.time.generation = s.time.generation
          ∧ t.time.timeSet = s.time.timeSet ∧ t.time.pendingStep = s.time.pendingStep) := by
  intro t
  have same := (s.countBoundary n aligned).completeOnBoundary_sameCount
  obtain ⟨generation, timeSet, pending⟩ := (s.countBoundary n aligned).completeOnBoundary_generation
  refine ⟨(s.countBoundary_beside n aligned).trans (State.completeOnBoundary_beside _),
    (s.countBoundary_judgement n aligned).trans (State.completeOnBoundary_judgement _), ?_, ?_, fun not => ?_⟩
  · rw [same.boundaryPos, (s.countBoundary_fields n aligned).1]
  · rw [same.elapsed, State.countBoundary_elapsed]
  · obtain ⟨counted, generation', timeSet', pending'⟩ :=
      State.countBoundary_counted (n := n) (aligned := aligned) (stranded_of_noStrandedStep not)
    exact ⟨counted_of_same counted same, generation.trans generation', timeSet.trans timeSet', pending.trans pending'⟩

/-- A boundary counted while REF is current leaves source, switch and holdover as the statements say. -/
theorem State.boundary_afterRef (n : Nat) (aligned : Bool) {s : State} (source : s.time.source = .ref) :
    AfterRefBoundary s.time (s.countBoundary n aligned).completeOnBoundary.time := by
  obtain ⟨-, source', target, rcHeld, holdover⟩ := s.countBoundary_fields n aligned
  have running := (s.countBoundary_judgement n aligned).crystalRunning
  unfold AfterRefBoundary
  by_cases ready : s.time.target = some .xtal ∧ s.time.crystalRunning = true
  · rw [if_pos ready, State.completeOnBoundary_ready (by rw [target, running]; exact ready)]
    exact ⟨rfl, rfl, rfl, by simp [source', source]⟩
  · rw [if_neg ready, State.completeOnBoundary_not (by rw [target, running]; exact ready), source', target, rcHeld, holdover,
      if_pos source]
    exact ⟨source, rfl, rfl, rfl⟩

/-! ### The expected boundary and the window of a pulse (R3, R6) -/

theorem usPerSecond_eq : Config.usPerSecond = 1000000 := by decide

theorem expectedBoundary_spec (anchor pos : Nat) :
    (∃ k : Nat, 1 ≤ k ∧ expectedBoundary anchor pos = anchor + 1000000 * k) ∧ pos < expectedBoundary anchor pos
      ∧ (anchor ≤ pos → expectedBoundary anchor pos ≤ pos + 1000000)
      ∧ (pos < anchor → expectedBoundary anchor pos = anchor + 1000000) := by
  have eq : expectedBoundary anchor pos = anchor + 1000000 * ((pos - anchor) / 1000000 + 1) := by
    unfold expectedBoundary
    rw [usPerSecond_eq]
  have floor := Nat.div_add_mod (pos - anchor) 1000000
  have rest := Nat.mod_lt (pos - anchor) (by decide : 0 < 1000000)
  rw [eq]
  generalize (pos - anchor) / 1000000 = q at *
  refine ⟨⟨q + 1, Nat.le_add_left 1 q, rfl⟩, ?_, ?_, ?_⟩
  all_goals omega

/-- A pulse lies in the window exactly where it is a good one. -/
theorem inWindow_iff (c : LiveConfig) (anchor now : Nat) (after : anchor ≤ now) :
    inWindow c.toleranceUs anchor now = true ↔ GoodPulse c anchor now := by
  have window : c.toleranceUs = 100 * c.refTolerance := Nat.mul_comm _ _
  unfold inWindow GoodPulse
  rw [window, usPerSecond_eq]
  simp only [Bool.and_eq_true, Bool.or_eq_true, decide_eq_true_eq]
  constructor
  · rintro ⟨far, near | short⟩
    · by_cases first : (now - anchor) / 1000000 = 0
      · exact ⟨after, 1, by omega, by omega, by omega⟩
      · exact ⟨after, (now - anchor) / 1000000, by omega, by omega, by omega⟩
    · have floor := Nat.div_add_mod (now - anchor) 1000000
      have rest : (now - anchor) % 1000000 < 1000000 := Nat.mod_lt _ (by decide)
      generalize (now - anchor) / 1000000 = q at *
      generalize (now - anchor) % 1000000 = r at *
      have next : 1000000 * (q + 1) = 1000000 * q + 1000000 := Nat.mul_succ _ _
      refine ⟨after, q + 1, Nat.le_add_left _ _, ?_, ?_⟩
      · calc anchor + 1000000 * (q + 1) = anchor + (1000000 * q + 1000000) := by rw [next]
          _ ≤ anchor + (1000000 * q + (r + 100 * c.refTolerance)) := Nat.add_le_add_left (Nat.add_le_add_left short _) _
          _ = anchor + (now - anchor) + 100 * c.refTolerance := by rw [← floor]; simp only [Nat.add_assoc]
          _ = now + 100 * c.refTolerance := by rw [Nat.add_sub_of_le after]
      · rw [next]; omega
  · rintro ⟨-, k, one, low, high⟩
    exact ⟨by omega, by omega⟩

/-! ### A reference pulse (R3, R4, R11, R13) -/

/-- What a good pulse makes of the judgement (R3, R4). -/
def State.judged (s : State) : State :=
  { s with time := { s.time with
      lastPulse := s.time.clock, anchor := some s.time.clock, goodRun := upTo 255 s.time.goodRun, badRun := 0
      refQualified := s.time.refQualified || decide (s.config.refQualify ≤ upTo 255 s.time.goodRun) } }

theorem State.pulse_first {s : State} (none : s.time.anchor = none) : s.pulse = { s with time := { s.time with
    lastPulse := s.time.clock, anchor := some s.time.clock, goodRun := 0, badRun := 0 } } := by
  simp only [State.pulse, none]

theorem State.pulse_bad {s : State} {anchor : Nat} (anchored : s.time.anchor = some anchor)
    (outside : inWindow s.config.toleranceUs anchor s.time.clock = false) (below : upTo 255 s.time.badRun < s.config.refBadLimit) :
    s.pulse = { s with time := { s.time with lastPulse := s.time.clock, badRun := upTo 255 s.time.badRun, goodRun := 0 } } := by
  have not : ¬ s.config.refBadLimit ≤ satSucc 255 s.time.badRun := Nat.not_le.mpr below
  simp only [State.pulse, anchored, outside, Bool.false_eq_true, if_false, State.badPulse, not]
  rfl

theorem or_not_and (a b : Bool) : (a || (!a && b)) = (a || b) := by cases a <;> rfl

/-- A good pulse, its judgement apart: counted while REF is current, completing a switch to REF, or neither. -/
theorem State.pulse_good {s : State} {anchor : Nat} (anchored : s.time.anchor = some anchor)
    (inside : inWindow s.config.toleranceUs anchor s.time.clock = true) :
    s.pulse =
      if s.time.source = .ref then (s.judged.countBoundary s.time.clock true).completeOnBoundary
      else if s.judged.time.refQualified = true ∧ s.time.target = some .ref then s.judged.completeToRef
      else if (!s.time.refQualified && decide (s.config.refQualify ≤ upTo 255 s.time.goodRun)) && s.config.autoReturn then
        ({ s.judged with time := { s.judged.time with target := some .ref } } : State).completeToRef
      else s.judged := by
  simp only [State.pulse, anchored, inside, if_true, State.goodPulse, satSucc_eq_upTo, or_not_and]
  rfl

/-- The pulse makes REF QUALIFIED or finds it so, as the statements say. -/
theorem qualifiedPulse_iff (s : State) : QualifiedPulse s ↔ s.judged.time.refQualified = true := by
  simp [QualifiedPulse, State.judged]

/-- Where REF is not current a good pulse completes a switch to REF exactly where the statements say. -/
theorem State.pulse_completes {s : State} {anchor : Nat} (anchored : s.time.anchor = some anchor)
    (inside : inWindow s.config.toleranceUs anchor s.time.clock = true) (source : s.time.source ≠ .ref) (completing : CompletingPulse s) :
    s.pulse = ({ s.judged with time := { s.judged.time with target := some .ref } } : State).completeToRef := by
  obtain ⟨qualified, how⟩ := completing
  have is := (qualifiedPulse_iff s).mp qualified
  rw [State.pulse_good anchored inside, if_neg source]
  by_cases flight : s.time.target = some .ref
  · rw [if_pos ⟨is, flight⟩]
    have same : s.judged = { s.judged with time := { s.judged.time with target := some .ref } } := by
      simp only [State.judged, ← flight]
    rw [← same]
  · obtain ⟨unqualified, returns⟩ := how.resolve_left flight
    have becomes : s.config.refQualify ≤ upTo 255 s.time.goodRun := by
      have := qualified
      simpa [QualifiedPulse, unqualified] using this
    rw [if_neg fun both => flight both.2, if_pos (by simp [unqualified, becomes, returns])]

theorem State.pulse_only {s : State} {anchor : Nat} (anchored : s.time.anchor = some anchor)
    (inside : inWindow s.config.toleranceUs anchor s.time.clock = true) (source : s.time.source ≠ .ref) (not : ¬ CompletingPulse s) :
    s.pulse = s.judged := by
  have noFlight : ¬ (s.judged.time.refQualified = true ∧ s.time.target = some .ref) := fun ⟨is, flight⟩ =>
    not ⟨(qualifiedPulse_iff s).mpr is, .inl flight⟩
  have noReturn : ¬ ((!s.time.refQualified && decide (s.config.refQualify ≤ upTo 255 s.time.goodRun)) && s.config.autoReturn) = true := by
    simp only [Bool.and_eq_true, Bool.not_eq_true', decide_eq_true_eq]
    exact fun ⟨⟨unqualified, becomes⟩, returns⟩ => not ⟨.inr becomes, .inr ⟨unqualified, returns⟩⟩
  rw [State.pulse_good anchored inside, if_neg source, if_neg noFlight, if_neg noReturn]

/-- A completed switch to REF: what it leaves of the judgement, of the source, and of the count. -/
theorem State.completeToRef_spec {s : State} (target : s.time.target = some .ref) :
    let t := s.completeToRef
    Beside s t ∧ SameJudgement s.time t.time ∧ t.time.source = .ref ∧ t.time.target = none ∧ t.time.rcHeld = false ∧ t.time.holdover = 0
      ∧ (500000 ≤ s.time.clock - s.time.boundaryPos → SameCount (s.countBoundary s.time.clock true).time t.time)
      ∧ (s.time.clock - s.time.boundaryPos < 500000 → SameCount s.time t.time)
      ∧ (s.up = true → t.port.latched &&& Event.sourceSwitched.bit = Event.sourceSwitched.bit) := by
  have switched : ∀ u : State, u.time.target = some .ref → u.completeSwitch.time.source = .ref ∧ u.completeSwitch.time.target = none
      ∧ u.completeSwitch.time.rcHeld = false ∧ u.completeSwitch.time.holdover = 0
      ∧ (u.up = true → u.completeSwitch.port.latched &&& Event.sourceSwitched.bit = Event.sourceSwitched.bit) := fun u flight => by
    rw [State.completeSwitch_time flight]
    refine ⟨rfl, rfl, rfl, by simp, fun up => ?_⟩
    simp only [State.completeSwitch, flight]
    rw [State.raise_withEvent .sourceSwitched (by exact up)]
    exact withEvent_latched _ _
  intro t
  have beside : Beside s t := s.completeToRef_beside
  by_cases late : 500000 ≤ s.time.clock - s.time.boundaryPos
  · have eq : t = (s.countBoundary s.time.clock true).completeSwitch := by
      simp only [t, State.completeToRef, Config.halfSecondUs, late, if_true]
    obtain ⟨source, none, rcHeld, holdover, latched⟩ :=
      switched (s.countBoundary s.time.clock true) ((s.countBoundary_fields _ _).2.2.1.trans target)
    rw [eq] at beside ⊢
    refine ⟨beside, (State.countBoundary_judgement _ _ _).trans (State.completeSwitch_judgement _), source, none, rcHeld, holdover,
      fun _ => State.completeSwitch_sameCount _, fun early => absurd late (Nat.not_le.mpr early), fun up => latched ?_⟩
    rw [State.up, (State.countBoundary_beside _ _ _).pins]
    exact up
  · have eq : t = s.completeSwitch := by
      simp only [t, State.completeToRef, Config.halfSecondUs, late, if_false]
    obtain ⟨source, none, rcHeld, holdover, latched⟩ := switched s target
    rw [eq] at beside ⊢
    exact ⟨beside, State.completeSwitch_judgement _, source, none, rcHeld, holdover, fun is => absurd is late,
      fun _ => State.completeSwitch_sameCount _, latched⟩

theorem State.flywheel_eq (anchor : Nat) (s : State) : s.flywheel anchor =
    ((s.reach (expectedBoundary anchor s.time.boundaryPos + s.config.toleranceUs)).countBoundary
      (expectedBoundary anchor s.time.boundaryPos) false).completeOnBoundary := rfl

end Sys2Proof.Machine

namespace Sys2Proof.Proofs

open Sys2Proof Sys2Proof.Machine Sys2Proof.Claim

/-- Settles O15: each of the three boundaries is a count, with the switch to XTAL that may complete there. -/
theorem countedBoundaries : Obligations.CountedBoundaries := by
  refine ⟨⟨fun s up source => ?second, fun s down valid running kept => ?backup⟩, fun s anchor up source anchored => ?flywheel⟩
  case second =>
    have runs : exec .secondBoundary s = .next
        ((s.reach s.time.nextBoundary).countBoundary s.time.nextBoundary false).completeOnBoundary := by
      rw [exec, execSecondBoundary, if_pos (by simp [up, source])]
    obtain ⟨beside, judgement, pos, elapsed, counted⟩ := State.boundary_spec s.time.nextBoundary false (s.reach s.time.nextBoundary)
    obtain ⟨-, source', target, rcHeld, holdover⟩ := (s.reach s.time.nextBoundary).countBoundary_fields s.time.nextBoundary false
    have crystal := ((s.reach s.time.nextBoundary).countBoundary_judgement s.time.nextBoundary false).crystalRunning
    have holds : ((s.reach s.time.nextBoundary).countBoundary s.time.nextBoundary false).time.holdover
        = upTo Config.countTop s.time.holdover := holdover.trans (if_neg source)
    refine ⟨_, runs, ((Beside.of_time s _).trans beside).eq, ((Beside.of_time s _).trans beside).down, pos, elapsed, judgement.anchor,
      judgement.refQualified, fun not => ?_, fun ready => ?_, counted, fun off pending not => ?_⟩
    · rw [State.completeOnBoundary_not (by rw [target, crystal]; exact not)]
      exact ⟨source', target, holds⟩
    · rw [State.completeOnBoundary_ready (by rw [target, crystal]; exact ready), source', holds]
      exact ⟨rfl, rfl, rfl, if_neg source⟩
    · have stranded := stranded_of_not_noStrandedStep (s := s.reach s.time.nextBoundary) pending not
      obtain ⟨generation, timeSet, none, rest⟩ :=
        State.countBoundary_stranded (n := s.time.nextBoundary) (aligned := false) stranded
      obtain ⟨generation', timeSet', pending'⟩ :=
        ((s.reach s.time.nextBoundary).countBoundary s.time.nextBoundary false).completeOnBoundary_generation
      have latched := State.countBoundary_stepApplied (n := s.time.nextBoundary) (aligned := false) stranded
      have same := ((s.reach s.time.nextBoundary).countBoundary s.time.nextBoundary false).completeOnBoundary_sameCount
      exact ⟨generation'.trans generation, timeSet'.trans timeSet, pending'.trans none, same.slewRemainder.trans rest,
        ((quiet_byTime _).leads.completeOnBoundary _ (.refl _)).1.keeps latched⟩
  case backup =>
    have runs : exec .backupBoundary s = .next { s.reach s.time.nextBoundary with
        time := (s.reach s.time.nextBoundary).time.count s.config.slewStep s.time.nextBoundary false } := by
      rw [exec, execBackupBoundary, if_pos (by simp [State.onBackup, down, valid, running, kept])]
    exact ⟨_, runs, rfl, TimeBase.count_counted s.config.slewStep s.time.nextBoundary false (s.reach s.time.nextBoundary).time, rfl, rfl,
      rfl, rfl⟩
  case flywheel =>
    have runs : exec .flywheelBoundary s = .next (s.flywheel anchor) := by
      rw [exec, execFlywheelBoundary, anchored]
      simp [up, source]
    rw [State.flywheel_eq] at runs
    obtain ⟨first, past, near, far⟩ := expectedBoundary_spec anchor s.time.boundaryPos
    obtain ⟨beside, judgement, pos, elapsed, counted⟩ := State.boundary_spec (expectedBoundary anchor s.time.boundaryPos) false
      (s.reach (expectedBoundary anchor s.time.boundaryPos + s.config.toleranceUs))
    have after := State.boundary_afterRef (expectedBoundary anchor s.time.boundaryPos) false
      (s := s.reach (expectedBoundary anchor s.time.boundaryPos + s.config.toleranceUs)) source
    rw [← pos] at first past near far
    refine ⟨_, runs, ((Beside.of_time s _).trans beside).eq, ((Beside.of_time s _).trans beside).down, first, past, near, far, ?_,
      judgement.anchor.trans anchored, elapsed, judgement.goodRun, judgement.badRun, judgement.refQualified, after, fun not => ?_⟩
    · have window : s.config.toleranceUs = 100 * s.config.refTolerance := Nat.mul_comm _ _
      rw [judgement.clock, pos, ← window]
      exact Nat.le_max_right _ _
    · obtain ⟨counts, generation, -⟩ := counted not
      rw [pos]
      exact ⟨counted_from_same counts (s.reach_sameCount _), generation⟩

end Sys2Proof.Proofs
end

section
/-! ## A reference pulse under main power (R3, R4, R11–R13) -/

namespace Sys2Proof.Machine

open Sys2Proof Sys2Proof.Claim

/-- The state on which a command of the Time Base acts after `dt` under main power. -/
def State.after (dt : Nat) (s : State) : State := { s with time := { s.time with clock := s.time.clock + dt } }

theorem exec_refPulse {dt : Nat} {s : State} (up : s.timeUp = true) : exec (.refPulse dt) s = .next (s.after dt).pulse := by
  have taken : exec (.refPulse dt) s = .next (if (s.pass dt).timeUp then (s.pass dt).pulse else s.pass dt) := rfl
  rw [taken, State.pass_timeUp, if_pos up, State.pass_timeUp_eq dt s up]
  rfl

theorem State.judged_beside (dt : Nat) (s : State) : Beside s (s.after dt).judged := Beside.of_time s (s.after dt).judged.time

theorem State.judged_sameCount (dt : Nat) (s : State) : SameCount s.time (s.after dt).judged.time := ⟨rfl, rfl, rfl, rfl, rfl⟩

theorem State.pulse_counts {s : State} {anchor : Nat} (anchored : s.time.anchor = some anchor)
    (inside : inWindow s.config.toleranceUs anchor s.time.clock = true) (source : s.time.source = .ref) :
    s.pulse = (s.judged.countBoundary s.time.clock true).completeOnBoundary := by
  rw [State.pulse_good anchored inside, if_pos source]

/-- The judgement of a good pulse, as the statements spell its parts. -/
structure Judged (s : State) (now : Nat) (t : TimeBase) : Prop where
  anchor : t.anchor = some now
  lastPulse : t.lastPulse = now
  clock : t.clock = now
  goodRun : t.goodRun = upTo 255 s.time.goodRun
  badRun : t.badRun = 0
  refQualified : t.refQualified = true ↔ QualifiedPulse s

theorem judged_of_same {s : State} {dt : Nat} {t : TimeBase} (same : SameJudgement (s.after dt).judged.time t) :
    Judged s (s.time.clock + dt) t where
  anchor := same.anchor
  lastPulse := same.lastPulse
  clock := same.clock
  goodRun := same.goodRun
  badRun := same.badRun
  refQualified := by
    rw [same.refQualified]
    exact (qualifiedPulse_iff (s.after dt)).symm

/-- What a good pulse leaves of the judgement, and what it leaves beside the Time Base. -/
theorem State.pulse_judged {s : State} {dt anchor : Nat} (anchored : s.time.anchor = some anchor)
    (inside : inWindow s.config.toleranceUs anchor (s.time.clock + dt) = true) :
    Beside s (s.after dt).pulse ∧ Judged s (s.time.clock + dt) (s.after dt).pulse.time := by
  have beside := s.judged_beside dt
  by_cases source : s.time.source = .ref
  · rw [State.pulse_counts (s := s.after dt) anchored inside source]
    obtain ⟨rest, judgement, -⟩ := State.boundary_spec (s.after dt).time.clock true (s.after dt).judged
    exact ⟨beside.trans rest, judged_of_same judgement⟩
  · by_cases completing : CompletingPulse s
    · rw [State.pulse_completes (s := s.after dt) anchored inside source completing]
      obtain ⟨rest, judgement, -⟩ := State.completeToRef_spec
        (s := { (s.after dt).judged with time := { (s.after dt).judged.time with target := some .ref } }) rfl
      exact ⟨(beside.trans (Beside.of_time _ _)).trans rest, judged_of_same
        ⟨judgement.clock, judgement.anchor, judgement.lastPulse, judgement.goodRun, judgement.badRun, judgement.refQualified,
          judgement.crystalRunning⟩⟩
    · rw [State.pulse_only (s := s.after dt) anchored inside source completing]
      exact ⟨beside, judged_of_same (.refl _)⟩

end Sys2Proof.Machine

namespace Sys2Proof.Proofs

open Sys2Proof Sys2Proof.Machine Sys2Proof.Claim

/-- Settles O16: by the three judgements of a pulse; while REF is current a good one is a count. -/
theorem refPulseIsJudged : Obligations.RefPulseIsJudged := by
  intro dt s up now
  refine ⟨fun none => ?first, fun anchor anchored good => ?good, fun anchor anchored after bad below => ?bad⟩
  case first => rw [exec_refPulse up, State.pulse_first (s := s.after dt) none]; rfl
  case bad =>
    have outside : inWindow s.config.toleranceUs anchor now = false :=
      Bool.eq_false_iff.mpr fun inside => bad ((inWindow_iff s.config anchor now after).mp inside)
    rw [exec_refPulse up, State.pulse_bad (s := s.after dt) anchored outside below]
    rfl
  case good =>
    have inside : inWindow s.config.toleranceUs anchor now = true := (inWindow_iff s.config anchor now good.1).mpr good
    obtain ⟨beside, judged⟩ := State.pulse_judged anchored inside
    refine ⟨_, exec_refPulse up, beside.eq, beside.down, judged.anchor, judged.lastPulse, judged.clock, judged.goodRun, judged.badRun,
      judged.refQualified, fun source => ?counted, fun source not => ?only⟩
    case counted =>
      rw [State.pulse_counts (s := s.after dt) anchored inside source]
      obtain ⟨-, -, pos, elapsed, counted⟩ := State.boundary_spec (s.after dt).time.clock true (s.after dt).judged
      refine ⟨pos, elapsed, State.boundary_afterRef (s.after dt).time.clock true (s := (s.after dt).judged) source, fun not => ?_⟩
      obtain ⟨counts, generation, -⟩ := counted not
      exact ⟨counted_from_same counts (s.judged_sameCount dt), generation⟩
    case only => rw [State.pulse_only (s := s.after dt) anchored inside source not]; rfl

/-- Settles O17: the pulse completes the switch, and is counted first where it comes late in the second. -/
theorem switchToRefCompletes : Obligations.SwitchToRefCompletes := by
  intro dt anchor s up anchored source now good completing
  have inside : inWindow s.config.toleranceUs anchor now = true := (inWindow_iff s.config anchor now good.1).mpr good
  have pulse := State.pulse_completes (s := s.after dt) anchored inside source completing
  obtain ⟨beside, -⟩ := State.pulse_judged anchored inside
  let u : State := { (s.after dt).judged with time := { (s.after dt).judged.time with target := some .ref } }
  obtain ⟨-, -, source', target, rcHeld, holdover, late, early, latched⟩ := State.completeToRef_spec (s := u) rfl
  refine ⟨_, exec_refPulse up, beside.eq, ?_⟩
  rw [pulse] at beside ⊢
  refine ⟨source', target, rcHeld, holdover, latched, beside.down, fun is => ?_, fun is => ?_⟩
  · have same := late is
    have fields := u.countBoundary_fields u.time.clock true
    refine ⟨same.boundaryPos.trans fields.1, same.elapsed.trans (u.countBoundary_elapsed u.time.clock true), fun not => ?_⟩
    obtain ⟨counted, -⟩ := State.countBoundary_counted (n := u.time.clock) (aligned := true) (stranded_of_noStrandedStep (s := u) not)
    exact counted_from_same (counted_of_same counted same) ⟨rfl, rfl, rfl, rfl, rfl⟩
  · have same := early is
    exact ⟨same.boundaryPos, same.elapsed, same.boundaryTime, same.slewRemainder⟩

end Sys2Proof.Proofs
end

section
/-! ## The Trip Table's and the Scanner's requests, and the assertion at the Trip Table (R45–R48, R57–R71) -/

namespace Sys2Proof.Machine

open Sys2Proof Sys2Proof.Claim

/-! ### Answers of the crew-bound and the plain requests -/

/-- A taken request command completes with what the act answers to its own caller. -/
theorem answers_of_call {c : Instr} {h : Header} {kind level : Nat} {act : Act} {s u : State} {i : Fin 2} {code : ReplyCode}
    {body : List Byte} (taken : Taken h level i s) (meaning : exec c s = .next (s.request h kind level act))
    (acts : act ⟨h.requester, s.port.levels[h.requester], h.crew⟩ (s.pass h.dt) = answer code body u) : Answers c s h kind i code body u := by
  rw [Answers, meaning, State.request_answered taken acts]

/-- The first index that passes a test. -/
theorem find?_finRange_eq_some {n : Nat} {p : Fin n → Bool} {i : Fin n} :
    (List.finRange n).find? p = some i ↔ p i = true ∧ ∀ j, j < i → p j = false := by
  rw [← Fin.find?_eq_find?_finRange]
  exact Fin.find?_eq_some_iff

/-! ### Acknowledgement (R67, R68, R143) -/

theorem Watch.authority_iff (w : Watch) (crew : Fin 16) : w.authority crew = true ↔
    crew ≠ 0 ∧ match w.state with
      | .noWatch => False
      | .onWatch => crew = w.crew
      | .opened => crew = w.crew
      | .signed => crew = w.crew ∨ crew = w.incoming := by
  unfold Watch.authority
  cases w.state <;> simp

theorem TripRecord.acked_iff (r : TripRecord) : r.ack.isSome = true ↔ r.state = .acked ∨ r.state = .resolved := by
  unfold TripRecord.state
  cases r.ack <;> cases r.release <;> simp

theorem TripRecord.state_of_ack (r : TripRecord) (a : Ack) :
    (r.state = .active → ({ r with ack := some a } : TripRecord).state = .acked)
      ∧ (r.state = .cleared → ({ r with ack := some a } : TripRecord).state = .resolved) := by
  unfold TripRecord.state
  cases r.ack <;> cases r.release <;> simp

section Act

variable {slot serial : Nat} {k : Fin 48} {r : TripRecord} (c : Caller) {s : State}

theorem acknowledgeAct_unnamed {code : ReplyCode} {body : List Byte} (named : s.namedTrip slot serial = .error (code, body)) :
    acknowledgeAct slot serial c s = answer code body s := by
  simp only [acknowledgeAct, named]

theorem acknowledgeAct_noAuthority (named : s.namedTrip slot serial = .ok (k, r)) (none : s.watch.authority c.crew = false) :
    acknowledgeAct slot serial c s = answer .noAuthority (r.bytes k.val) s := by
  simp only [acknowledgeAct, named, none, Bool.not_false, if_true]

theorem acknowledgeAct_state (named : s.namedTrip slot serial = .ok (k, r)) (holds : s.watch.authority c.crew = true)
    (acked : r.ack.isSome = true) : acknowledgeAct slot serial c s = answer .state (r.bytes k.val) s := by
  simp only [acknowledgeAct, named, holds, acked, Bool.not_true, Bool.false_eq_true, if_false, if_true]

theorem acknowledgeAct_ok (named : s.namedTrip slot serial = .ok (k, r)) (holds : s.watch.authority c.crew = true)
    (open' : ¬ r.ack.isSome = true) : acknowledgeAct slot serial c s =
      answer .ok (({ r with ack := some ⟨c.crew, s.stamp⟩ } : TripRecord).bytes k.val) (withTrip k { r with ack := some ⟨c.crew, s.stamp⟩ } s) := by
  simp only [acknowledgeAct, named, holds, open', Bool.not_true, Bool.false_eq_true, if_false]
  rfl

/-! ### Retirement (R70, R71) -/

theorem TripRecord.retirable_iff (r : TripRecord) : r.retirable = true ↔ r.state = .resolved ∨ (r.state = .cleared ∧ r.kind = .test) := by
  simp [TripRecord.retirable]

theorem retireTripAct_unnamed {code : ReplyCode} {body : List Byte} (named : s.namedTrip slot serial = .error (code, body)) :
    retireTripAct slot serial c s = answer code [] s := by
  simp only [retireTripAct, named, refuse]

theorem retireTripAct_state (named : s.namedTrip slot serial = .ok (k, r)) (not : ¬ r.retirable = true) :
    retireTripAct slot serial c s = answer .state [] s := by
  simp only [retireTripAct, named, refuse, not]
  rfl

theorem retireTripAct_freed (named : s.namedTrip slot serial = .ok (k, r)) (retirable : r.retirable = true)
    (empty : s.trips.pendingList = []) : retireTripAct slot serial c s =
      answer .ok (r.bytes k.val ++ [0#8]) { s with trips := { s.trips with slots := s.trips.slots.set k none } } := by
  simp only [retireTripAct, named, retirable, if_true, TripTable.retire, promotedBytes, empty]
  rfl

theorem retireTripAct_promotes {e : PendingEntry} {rest : List PendingEntry} (named : s.namedTrip slot serial = .ok (k, r))
    (retirable : r.retirable = true) (head : s.trips.pendingList = e :: rest) : retireTripAct slot serial c s =
      answer .ok (r.bytes k.val ++ [1#8] ++ u8 k.val ++ u16 s.trips.serial.toNat ++ u8 e.line.val)
        { s with trips := { slots := s.trips.slots.set k (some (promote s.trips.serial s.config.lines[e.line] e)), pendingList := rest,
                            serial := s.trips.serial + 1 } } := by
  simp only [retireTripAct, named, retirable, if_true, TripTable.retire, promotedBytes, head, List.head?_cons, opt, List.append_assoc,
    List.cons_append, List.nil_append]
  rfl

end Act

/-! ### Test injections (R45–R48) -/

section Act

variable (c : Caller) {s : State}

theorem testTripAct_badField {line duration : Nat} (bad : 31 < line ∨ duration = 0 ∨ 600 < duration) :
    testTripAct line duration c s = answer .badField [] s := by
  unfold testTripAct
  by_cases inside : line < 32
  · rw [dif_pos inside, if_pos (by omega)]
    rfl
  · rw [dif_neg inside]
    rfl

variable (line : Fin 32) {duration : Nat}

theorem testTripAct_inRange (least : 1 ≤ duration) (most : duration ≤ 600) : testTripAct line.val duration c s =
    if s.config.lines[line].enabled = false then answer .state [] s
    else if s.lines[line].test.isSome = true ∨ s.lines[line].phase ≠ .released ∨ s.trips.liveKind line = some .real then answer .busy [] s
    else answer .ok (s.stamp.bytes ++ u40 (min Config.elapsedTop (s.time.elapsed + duration))) (s.inject line duration) := by
  unfold testTripAct
  rw [dif_pos line.isLt]
  simp only [Fin.eta, refuse]
  rw [if_neg (by omega)]
  generalize s.lines[line].test.isSome = test
  generalize s.lines[line].phase = phase
  cases s.config.lines[line].enabled
  · simp
  · cases test
    · by_cases released : phase = .released <;> simp [released]
    · simp

/-- A test injection up to its TRIP_NEW, as the statements spell it. -/
theorem State.inject_eq (up : s.up = true) : s.inject line duration = withEvent .tripNew { s with
    lines := s.lines.set line { s.lines[line] with test := some ⟨s.stamp, min Config.elapsedTop (s.time.elapsed + duration)⟩ }
    trips := s.trips.assertion s.config.lines s.time.generation ⟨line, .test, s.stamp, s.lineMode line, false⟩ } := by
  unfold State.inject State.takeAssertion
  exact State.raise_withEvent .tripNew up

end Act

/-! ### The Trip Table on an assertion (R57–R62, R65) -/

theorem settleKind_eq (item event : TripKind) : settleKind item event = if item = .test ∧ event = .test then .test else .real := by
  cases item <;> cases event <;> rfl

section Assertion

variable {t : TripTable} {a : Assertion} (lines : Vector LineConfig 32) (now : BitVec 8)

theorem TripTable.assertion_record {k : Fin 48} {r : TripRecord} (live : t.liveSlot a.line = some k) (held : t.slots[k] = some r) :
    t.assertion lines now a = { t with slots := t.slots.set k (some (r.amend a)) } := by
  simp only [TripTable.assertion, live, held, Option.map_some]

theorem TripTable.assertion_entry (live : t.liveSlot a.line = none) (listed : ∃ e ∈ t.pendingList, e.line = a.line) :
    t.assertion lines now a = { t with pendingList := t.pendingList.map fun e => if e.line = a.line then e.amend a else e } := by
  have any : (t.pendingList.any fun e => e.line == a.line) = true := by simpa using listed
  simp only [TripTable.assertion, live, any, if_true, beq_iff_eq]

theorem TripTable.not_listed (unlisted : ∀ e ∈ t.pendingList, e.line ≠ a.line) : (t.pendingList.any fun e => e.line == a.line) = false := by
  simpa using unlisted

theorem TripTable.freeSlot_some {k : Fin 48} : t.freeSlot = some k ↔ t.slots[k] = none ∧ ∀ j : Fin 48, j < k → t.slots[j].isSome = true := by
  rw [TripTable.freeSlot, find?_finRange_eq_some, Option.isNone_iff_eq_none]
  simp

theorem TripTable.assertion_creates {k : Fin 48} (live : t.liveSlot a.line = none) (unlisted : ∀ e ∈ t.pendingList, e.line ≠ a.line)
    (free : t.freeSlot = some k) : t.assertion lines now a =
      { t with slots := t.slots.set k (some (newRecord t.serial lines[a.line] a)), serial := t.serial + 1 } := by
  simp only [TripTable.assertion, live, TripTable.not_listed unlisted, Bool.false_eq_true, if_false, free]

theorem TripTable.assertion_enters (live : t.liveSlot a.line = none) (unlisted : ∀ e ∈ t.pendingList, e.line ≠ a.line)
    (full : t.freeSlot = none) : t.assertion lines now a = { t with pendingList := insertEntry now (newEntry a) t.pendingList } := by
  simp only [TripTable.assertion, live, TripTable.not_listed unlisted, Bool.false_eq_true, if_false, full]

end Assertion

/-- An entry is placed right behind the last entry that comes before it (R65). -/
theorem insertEntry_place (now : BitVec 8) (e : PendingEntry) (l : List PendingEntry) : ∃ before after : List PendingEntry,
    l = before ++ after ∧ insertEntry now e l = before ++ e :: after
      ∧ (∀ x ∈ after, entryBefore now x e = false) ∧ (∀ x, before.getLast? = some x → entryBefore now x e = true) := by
  induction l with
  | nil => exact ⟨[], [], rfl, rfl, by simp, by simp⟩
  | cons x xs ih =>
    rw [insertEntry]
    by_cases any : ((x :: xs).any fun y => entryBefore now y e) = true
    · rw [if_pos any]
      obtain ⟨before, after, split, placed, behind, ahead⟩ := ih
      refine ⟨x :: before, after, by rw [split]; rfl, by rw [placed]; rfl, behind, fun y last => ?_⟩
      cases before with
      | nil =>
        obtain rfl : x = y := by simpa using last
        have none : (xs.any fun y => entryBefore now y e) = false := by
          rw [split]
          simpa using behind
        simpa [none] using any
      | cons z zs => exact ahead y (by simpa using last)
    · rw [if_neg any]
      exact ⟨[], x :: xs, rfl, rfl, by simpa using any, by simp⟩

theorem behind_inj (now : BitVec 8) (a b : Stamp) : behind now a = behind now b ↔ a.generation = b.generation := by
  unfold behind
  constructor
  · intro same
    have eq := BitVec.eq_of_toNat_eq same
    exact (BitVec.sub_right_inj now).mp eq
  · intro same
    rw [same]

/-- The order of the pending list (R65): generations behind, then seconds, milliseconds and line. -/
theorem entryBefore_iff (now : BitVec 8) (x y : PendingEntry) : entryBefore now x y = true ↔
    (now - y.first.generation).toNat < (now - x.first.generation).toNat
      ∨ (x.first.generation = y.first.generation ∧
        (x.first.seconds < y.first.seconds
          ∨ (x.first.seconds = y.first.seconds ∧ (x.first.millis < y.first.millis
            ∨ (x.first.millis = y.first.millis ∧ x.line < y.line))))) := by
  unfold entryBefore
  by_cases gen : behind now x.first = behind now y.first
  · have same := (behind_inj now x.first y.first).mp gen
    rw [if_neg (not_not.mpr gen), same]
    by_cases sec : x.first.seconds = y.first.seconds
    · by_cases ms : x.first.millis = y.first.millis <;> simp [sec, ms]
    · simp [sec]
  · have other : ¬ x.first.generation = y.first.generation := fun same => gen ((behind_inj now x.first y.first).mpr same)
    rw [if_pos gen, decide_eq_true_eq]
    exact ⟨Or.inl, fun either => either.resolve_right fun both => other both.1⟩

end Sys2Proof.Machine

namespace Sys2Proof.Proofs

open Sys2Proof Sys2Proof.Machine Sys2Proof.Claim

/-- Settles O30: each case of R67 is a case of the Trip Table's act. -/
theorem acknowledge : Obligations.Acknowledge := by
  refine ⟨fun h i s taken => ⟨fun slot serial outside => ?badField, fun k serial free => ?notFound,
    fun k serial r held other => ?stale, fun slot serial k r names => ?named⟩, Watch.authority_iff⟩
  case badField => exact answers_of_act taken rfl fun c => acknowledgeAct_unnamed c (State.namedTrip_outside (s.pass h.dt) slot serial outside)
  case notFound => exact answers_of_act taken rfl fun c => acknowledgeAct_unnamed c (State.namedTrip_free (s.pass h.dt) k serial free)
  case stale => exact answers_of_act taken rfl fun c => acknowledgeAct_unnamed c (State.namedTrip_stale (s.pass h.dt) k serial r held other)
  case named =>
    obtain ⟨rfl, rfl, held⟩ := names
    have named := State.namedTrip_ok (s.pass h.dt) k r held
    split
    case isTrue none => exact answers_of_call taken rfl (acknowledgeAct_noAuthority _ named none)
    case isFalse holds =>
      have authority := Bool.eq_true_of_not_eq_false holds
      split
      case isTrue acked => exact answers_of_call taken rfl (acknowledgeAct_state _ named authority (r.acked_iff.mpr acked))
      case isFalse not =>
        exact ⟨answers_of_call taken rfl (acknowledgeAct_ok _ named authority (mt r.acked_iff.mp not)), r.state_of_ack _⟩

/-- Settles O32: each case of R70 is a case of the Trip Table's act. -/
theorem retireTrip : Obligations.RetireTrip := by
  intro h i s taken
  refine ⟨fun slot serial outside => ?badField, fun k serial free => ?notFound, fun k serial r held other => ?stale,
    fun slot serial k r names => ?named⟩
  case badField => exact answers_of_act taken rfl fun c => retireTripAct_unnamed c (State.namedTrip_outside (s.pass h.dt) slot serial outside)
  case notFound => exact answers_of_act taken rfl fun c => retireTripAct_unnamed c (State.namedTrip_free (s.pass h.dt) k serial free)
  case stale => exact answers_of_act taken rfl fun c => retireTripAct_unnamed c (State.namedTrip_stale (s.pass h.dt) k serial r held other)
  case named =>
    obtain ⟨rfl, rfl, held⟩ := names
    have named := State.namedTrip_ok (s.pass h.dt) k r held
    split
    case isTrue may =>
      have retirable := r.retirable_iff.mpr may
      exact ⟨fun empty => answers_of_act taken rfl fun c => retireTripAct_freed c named retirable empty,
        fun e rest head => answers_of_act taken rfl fun c => retireTripAct_promotes c named retirable head⟩
    case isFalse not => exact answers_of_act taken rfl fun c => retireTripAct_state c named (mt r.retirable_iff.mp not)

/-- Settles O26: the refusals in their order, and the injection up to its TRIP_NEW. -/
theorem testTrip : Obligations.TestTrip := by
  intro h i s taken
  refine ⟨fun line duration bad => answers_of_act taken rfl fun c => testTripAct_badField c bad, fun line duration least most => ?_⟩
  have acts := fun c => testTripAct_inRange c (s := s.pass h.dt) line least most
  split
  case isTrue off => exact answers_of_act taken rfl fun c => (acts c).trans (if_pos off)
  case isFalse on =>
    split
    case isTrue busy => exact answers_of_act taken rfl fun c => ((acts c).trans (if_neg on)).trans (if_pos busy)
    case isFalse may =>
      refine answers_of_act taken rfl fun c => ?_
      refine ((acts c).trans (if_neg on)).trans ((if_neg may).trans ?_)
      rw [State.inject_eq (s := s.pass h.dt) line taken.1]
      rfl

/-- Settles O28: the four places an assertion goes to, and the place of a new pending entry. -/
theorem assertionIsTaken : Obligations.AssertionIsTaken := by
  intro lines now a t
  refine ⟨fun k r live held => ?record, fun live listed => ?entry, fun k live unlisted free lowest => ?creates,
    fun live unlisted full => ?enters, entryBefore_iff now⟩
  case record =>
    rw [TripTable.assertion_record lines now live held, TripRecord.amend, settleKind_eq]
    rfl
  case entry =>
    rw [TripTable.assertion_entry lines now live listed]
    simp only [PendingEntry.amend, settleKind_eq]
    rfl
  case creates =>
    rw [TripTable.assertion_creates lines now live unlisted (TripTable.freeSlot_some.mpr ⟨free, lowest⟩)]
    rfl
  case enters =>
    obtain ⟨before, after, split, placed, behind, ahead⟩ := insertEntry_place now (newEntry a) t.pendingList
    refine ⟨before, after, newEntry a, rfl, split, ?_, behind, ahead⟩
    rw [TripTable.assertion_enters lines now live unlisted ((TripTable.freeSlot_none t).mpr full), placed]

end Sys2Proof.Proofs
end

section
/-! ## The Tally Engine's requests on accounts (R98–R104, R113–R115) -/

namespace Sys2Proof.Machine

open Sys2Proof Sys2Proof.Claim

/-- An act that goes by a test, and a statement about it that goes by the same test. -/
theorem if_of_act {p : Prop} [Decidable p] {act : Act} {z : State} {x y : State × Answer} {P Q : Prop}
    (acts : ∀ c, act c z = if p then x else y) (yes : (∀ c, act c z = x) → P) (no : (∀ c, act c z = y) → Q) : if p then P else Q := by
  by_cases holds : p
  · rw [if_pos holds]
    exact yes fun c => (acts c).trans (if_pos holds)
  · rw [if_neg holds]
    exact no fun c => (acts c).trans (if_neg holds)

/-! ### Classes, tags and free slots -/

theorem AccountClass.ofCode_isSome (n : Nat) : (AccountClass.ofCode n).isSome = true ↔ n ≤ 3 := by
  match n with
  | 0 | 1 | 2 | 3 => simp [AccountClass.ofCode]
  | n + 4 => simp [AccountClass.ofCode]

@[simp] theorem AccountClass.ofCode_code (c : AccountClass) : AccountClass.ofCode c.code = some c := by cases c <;> rfl

theorem AccountClass.code_of_ofCode {n : Nat} {c : AccountClass} (named : AccountClass.ofCode n = some c) : c.code = n := by
  match n with
  | 0 | 1 | 2 | 3 => cases named; rfl
  | n + 4 => exact absurd named (by simp [AccountClass.ofCode])

/-- The account of a slot, by the slot's own name for it. -/
theorem accountAt_eq (s : State) (k : Fin 24) : accountAt s k = s.tally.accounts[k].account := by
  unfold accountAt
  cases s.tally.accounts[k] <;> rfl

theorem Tally.freeSlot_none {s : State} : s.tally.freeSlot = none ↔ ∀ k : Fin 24, accountAt s k ≠ none := by
  simp [Tally.freeSlot, accountAt_eq]

theorem Tally.freeSlot_some {s : State} {k : Fin 24} :
    s.tally.freeSlot = some k ↔ accountAt s k = none ∧ ∀ j : Fin 24, j < k → accountAt s j ≠ none := by
  rw [Tally.freeSlot, find?_finRange_eq_some, Option.isNone_iff_eq_none, ← accountAt_eq]
  simp only [accountAt_eq, Option.isNone_eq_false_iff, Option.isSome_iff_ne_none]

/-! ### OPEN_ACCOUNT (R100, R101) -/

/-- The fields of an OPEN_ACCOUNT lie in their ranges, as the statements say. -/
def OpenValid (tag : List Byte) (cls interval margin : Nat) (initial : Option Figures) : Prop :=
  tagValid tag = true ∧ cls ≤ 3 ∧ 1 ≤ interval ∧ interval ≤ 65535 ∧ margin ≤ 65535 ∧ initial.all Figures.inRange = true

section Open

variable {tag : List Byte} {cls interval margin : Nat} {initial : Option Figures} (c : Caller) {s : State}

theorem openValid_iff : OpenValid tag cls interval margin initial ↔
    cls ≤ 3 ∧ (tagValid tag && intervalValid interval && marginValid margin && initial.all Figures.inRange) = true := by
  unfold OpenValid
  simp only [intervalValid, marginValid, Bool.and_eq_true, decide_eq_true_eq]
  tauto

theorem openAccountAct_badField (not : ¬ OpenValid tag cls interval margin initial) :
    openAccountAct tag cls interval margin initial c s = answer .badField [] s := by
  unfold openAccountAct
  cases named : AccountClass.ofCode cls with
  | none => rfl
  | some k =>
    have low : cls ≤ 3 := (AccountClass.ofCode_isSome cls).mp (by rw [named]; rfl)
    have bad : (tagValid tag && intervalValid interval && marginValid margin && initial.all Figures.inRange) = false :=
      Bool.eq_false_iff.mpr fun fields => not (openValid_iff.mpr ⟨low, fields⟩)
    simp only [bad, Bool.not_false, if_true, refuse]

theorem openAccountAct_present (valid : OpenValid tag cls interval margin initial) (held : (s.tally.tagSlot tag).isSome = true) :
    openAccountAct tag cls interval margin initial c s = answer .present [] s := by
  obtain ⟨k, named⟩ := Option.isSome_iff_exists.mp ((AccountClass.ofCode_isSome cls).mpr valid.2.1)
  obtain rfl := AccountClass.code_of_ofCode named
  simp only [openAccountAct, named, (openValid_iff.mp valid).2, held, Bool.not_true, Bool.false_eq_true, if_false, if_true, refuse]

theorem openAccountAct_full (valid : OpenValid tag cls interval margin initial) (fresh : s.tally.tagSlot tag = none)
    (full : s.tally.freeSlot = none) : openAccountAct tag cls interval margin initial c s = answer .full [] s := by
  obtain ⟨k, named⟩ := Option.isSome_iff_exists.mp ((AccountClass.ofCode_isSome cls).mpr valid.2.1)
  obtain rfl := AccountClass.code_of_ofCode named
  simp only [openAccountAct, named, (openValid_iff.mp valid).2, fresh, full, Option.isSome_none, Bool.not_true, Bool.false_eq_true,
    if_false, refuse]

theorem openAccountAct_ok (k : AccountClass) (valid : OpenValid tag k.code interval margin initial) (fresh : s.tally.tagSlot tag = none)
    {i : Fin 24} (free : s.tally.freeSlot = some i) :
    let a := openedAccount s.tally.serial tag k interval margin (initial.getD .zero)
    openAccountAct tag k.code interval margin initial c s =
      answer .ok (u8 i.val ++ u16 s.tally.serial.toNat ++ a.evaluate.1.bytes i.val true) (s.openAccount i a) := by
  simp only [openAccountAct, AccountClass.ofCode_code, (openValid_iff.mp valid).2, fresh, free, Option.isSome_none, Bool.not_true,
    Bool.false_eq_true, if_false]

end Open

/-! ### Requests that name an account (R98) -/

section Named

variable {slot serial : Nat} {code : ReplyCode} (c : Caller) {s : State}

theorem bindAct_unnamed {position : Nat} (named : s.namedAccount slot serial = .error code) :
    bindAct slot serial position c s = answer code [] s := by simp only [bindAct, named, refuse]

theorem unbindAct_unnamed (named : s.namedAccount slot serial = .error code) : unbindAct slot serial c s = answer code [] s := by
  simp only [unbindAct, named, refuse]

theorem serviceDoneAct_unnamed (named : s.namedAccount slot serial = .error code) : serviceDoneAct slot serial c s = answer code [] s := by
  simp only [serviceDoneAct, named, refuse]

theorem retireAccountAct_unnamed (named : s.namedAccount slot serial = .error code) :
    retireAccountAct slot serial c s = answer code [] s := by simp only [retireAccountAct, named, refuse]

theorem presetAct_unnamed {f : Figures} {o : PresetOptions} (named : s.namedAccount slot serial = .error code) :
    presetAct slot serial f o c s = answer code [] s := by simp only [presetAct, named, refuse]

variable {k : Fin 24} {a : Account} {d : Bool} (named : s.namedAccount slot serial = .ok (k, a, d))

include named

/-! ### BIND and UNBIND (R103, R104) -/

theorem bindAct_badField {position : Nat} (none : unitPosition position = .none) :
    bindAct slot serial position c s = answer .badField [] s := by simp only [bindAct, named, none, refuse]

theorem bindAct_lost (u : Fin 8) (lost : a.live = none) : bindAct slot serial (u.val + 1) c s = answer .state [] s := by
  simp only [bindAct, named, unitPosition_unit, lost, refuse]

theorem bindAct_live (u : Fin 8) {l : LiveFields} (live : a.live = some l) : bindAct slot serial (u.val + 1) c s =
    if l.bound.isSome = true then answer .state [] s
    else if s.tally.freeze = true then answer .busy [] s
    else if (s.tally.boundSlot u l.cls).isSome = true then answer .classTaken [] s
    else if s.units[u].passes l.cls = false then answer .unitRunning [] s
    else answer .ok (({ a with live := some { l with bound := some u } } : Account).bytes k.val true)
      (withAccount k (.held { a with live := some { l with bound := some u } } true) s) := by
  simp only [bindAct, named, unitPosition_unit, live, refuse, answerAccount, Account.bindTo, Option.map_some, Bool.not_eq_true']
  rfl

theorem unbindAct_lost (lost : a.live = none) : unbindAct slot serial c s = answer .state [] s := by
  simp only [unbindAct, named, lost, refuse]

theorem unbindAct_unbound {l : LiveFields} (live : a.live = some l) (free : l.bound = none) :
    unbindAct slot serial c s = answer .state [] s := by simp only [unbindAct, named, live, free, refuse]

theorem unbindAct_bound {l : LiveFields} {u : Fin 8} (live : a.live = some l) (bound : l.bound = some u) : unbindAct slot serial c s =
    if s.tally.freeze = true then answer .busy [] s
    else if s.units[u].passes l.cls = false then answer .unitRunning [] s
    else answer .ok (({ a with live := some { l with bound := none } } : Account).bytes k.val true)
      (withAccount k (.held { a with live := some { l with bound := none } } true) s) := by
  simp only [unbindAct, named, live, bound, refuse, answerAccount, Account.bindTo, Option.map_some, Bool.not_eq_true']
  rfl

/-! ### RETIRE_ACCOUNT and SERVICE_DONE (R102, R113) -/

theorem retireAccountAct_named : retireAccountAct slot serial c s =
    if (a.live.bind (·.bound)).isSome = true then answer .state [] s
    else answer .ok (a.bytes k.val d) (withAccount k (.free true) s) := by
  simp only [retireAccountAct, named, refuse]
  rfl

theorem serviceDoneAct_lost (lost : a.live = none) : serviceDoneAct slot serial c s = answer .state [] s := by
  simp only [serviceDoneAct, named, lost, refuse]

omit named in
/-- An account written back with its service state evaluated, as the statements spell it. -/
theorem answerEvaluated_eq {b : Account} {l : LiveFields} (up : s.up = true) (live : b.live = some l) :
    let service := serviceOf b.figures.equivalent l
    let after := { b with live := some { l with service := service } }
    answerEvaluated k b s = answer .ok (after.bytes k.val true) { withAccount k (.held after true) s with
      port := { s.port with latched := s.port.latched ||| serviceEvents l.service service } } := by
  simp only [answerEvaluated, Account.evaluate_eq live]
  rw [State.raiseWord_eq]
  · rfl
  · exact up

theorem serviceDoneAct_live {l : LiveFields} (live : a.live = some l) : serviceDoneAct slot serial c s =
    answerEvaluated k { a with live := some { l with nextDue := dueAfter a.figures.equivalent l.interval } } s := by
  simp only [serviceDoneAct, named, live]

/-! ### PRESET (R114, R115) -/

theorem presetAct_named {f : Figures} {o : PresetOptions} {l : LiveFields} (ranged : presetInRange f o = true)
    (live : presetLive f o a.live = some l) : presetAct slot serial f o c s =
      if o.tag.any (s.tally.tagElsewhere k) = true then answer .present [] s
      else if (a.live.any fun m => m.bound.isSome && m.cls != l.cls) = true then answer .state [] s
      else if s.tally.freeze = true then answer .busy [] s
      else if (a.live.bind (·.bound)).any (fun u => !s.units[u].passes l.cls) = true then answer .unitRunning [] s
      else answerEvaluated k { a with figures := f, fraction := 0, live := some l } s := by
  simp only [presetAct, named, ranged, live, refuse, Bool.not_true, Bool.false_eq_true, if_false]

theorem presetAct_badField {f : Figures} {o : PresetOptions} (bad : presetInRange f o = true → presetLive f o a.live = none) :
    presetAct slot serial f o c s = answer .badField [] s := by
  cases ranged : presetInRange f o with
  | false => simp only [presetAct, named, ranged, refuse, Bool.not_false, if_true]
  | true => simp only [presetAct, named, ranged, bad ranged, refuse, Bool.not_true, Bool.false_eq_true, if_false]

end Named

/-- The fields a PRESET carries lie in their ranges, as the statements say. -/
def PresetRanged (f : Figures) (o : PresetOptions) : Prop :=
  f.inRange = true ∧ o.tag.all tagValid = true ∧ (∀ c, o.cls = some c → c ≤ 3)
    ∧ (∀ n, o.interval = some n → 1 ≤ n ∧ n ≤ 65535) ∧ (∀ n, o.margin = some n → n ≤ 65535)
    ∧ (∀ n, o.nextDue = some n → n ≤ Config.elapsedTop)

theorem presetRanged_iff (f : Figures) (o : PresetOptions) : PresetRanged f o ↔ presetInRange f o = true := by
  have all : ∀ (x : Option Nat) (p : Nat → Bool), x.all p = true ↔ ∀ n, x = some n → p n = true := fun x p => by cases x <;> simp
  simp only [PresetRanged, presetInRange, Bool.and_eq_true, and_assoc, all o.cls, all o.interval, all o.margin, all o.nextDue,
    AccountClass.ofCode_isSome, intervalValid, marginValid, decide_eq_true_eq]

/-- The fields a PRESET carries make a whole account, as the statements say. -/
def PresetWhole (a : Account) (o : PresetOptions) : Prop :=
  a.live.isSome = true ∨ (o.tag.isSome = true ∧ o.cls.isSome = true ∧ o.interval.isSome = true ∧ o.margin.isSome = true)

/-- The service fields a PRESET leaves, as the statements spell them. -/
structure PresetLeaves (f : Figures) (o : PresetOptions) (a : Account) (l : LiveFields) : Prop where
  live : ∀ m, a.live = some m → l = { m with
    tag := o.tag.getD m.tag, cls := (o.cls.bind AccountClass.ofCode).getD m.cls, interval := o.interval.getD m.interval,
    margin := o.margin.getD m.margin, nextDue := o.nextDue.getD m.nextDue }
  lost : a.live = none → o.tag = some l.tag ∧ o.cls = some l.cls.code ∧ o.interval = some l.interval ∧ o.margin = some l.margin
    ∧ l.nextDue = o.nextDue.getD (min Config.elapsedTop (f.equivalent + 3600 * l.interval)) ∧ l.bound = none ∧ l.service = .normal

theorem presetLive_whole {f : Figures} {o : PresetOptions} {a : Account} (ranged : PresetRanged f o) (whole : PresetWhole a o) :
    ∃ l, presetLive f o a.live = some l ∧ PresetLeaves f o a l := by
  cases live : a.live with
  | some m => exact ⟨_, rfl, fun n same => by rw [live] at same; cases same; rfl, fun none => by rw [live] at none; cases none⟩
  | none =>
    obtain ⟨tag, cls, interval, margin⟩ := whole.resolve_left (by simp [live])
    obtain ⟨t, tag⟩ := Option.isSome_iff_exists.mp tag
    obtain ⟨n, cls⟩ := Option.isSome_iff_exists.mp cls
    obtain ⟨i, interval⟩ := Option.isSome_iff_exists.mp interval
    obtain ⟨m, margin⟩ := Option.isSome_iff_exists.mp margin
    obtain ⟨c, named⟩ := Option.isSome_iff_exists.mp ((AccountClass.ofCode_isSome n).mpr (ranged.2.2.1 n cls))
    refine ⟨{ tag := t, cls := c, bound := none, interval := i, margin := m,
              nextDue := o.nextDue.getD (dueAfter f.equivalent i), service := .normal }, ?_, fun n same => ?_, fun _ => ?_⟩
    · simp only [presetLive, tag, cls, Option.bind_some, named, interval, margin]
    · rw [live] at same
      cases same
    · exact ⟨tag, by rw [cls, AccountClass.code_of_ofCode named], interval, margin, rfl, rfl, rfl⟩

theorem presetLive_broken {f : Figures} {o : PresetOptions} {a : Account} (not : ¬ PresetWhole a o) : presetLive f o a.live = none := by
  unfold PresetWhole at not
  cases live : a.live with
  | some m => simp [live] at not
  | none =>
    obtain ⟨tag, cls, interval, margin, due⟩ := o
    cases tag <;> cases cls <;> cases interval <;> cases margin <;> simp_all [presetLive]

/-- The binding of the account stands. -/
theorem PresetLeaves.bound {f : Figures} {o : PresetOptions} {a : Account} {l : LiveFields} (leaves : PresetLeaves f o a l) :
    a.live.bind (·.bound) = l.bound := by
  cases live : a.live with
  | some m => rw [leaves.live m live]; rfl
  | none =>
    obtain ⟨-, -, -, -, -, free, -⟩ := leaves.lost live
    rw [free]
    rfl

theorem UnitTrack.passes_iff (u : UnitTrack) (c : AccountClass) : u.passes c = true ↔
    u.settled = true ∧ u.mode = .stopped ∧ (c = .breaker → u.breakerClosed = false) := by
  unfold UnitTrack.passes
  cases c <;> simp [and_assoc]

end Sys2Proof.Machine

namespace Sys2Proof.Proofs

open Sys2Proof Sys2Proof.Machine Sys2Proof.Claim

/-- Settles O35: the refusals in their order, and the account made in the lowest free slot. -/
theorem openAccount : Obligations.OpenAccount := by
  intro h i s tag cls interval margin initial taken
  refine ⟨fun not => ?_, fun valid held => ?_, fun valid fresh full => ?_, fun k c valid fresh free lowest code => ?_⟩
  · exact answers_of_act taken rfl fun c => openAccountAct_badField c not
  · exact answers_of_act taken rfl fun c => openAccountAct_present c (s := s.pass h.dt) valid held
  · exact answers_of_act taken rfl fun c => openAccountAct_full c (s := s.pass h.dt) valid fresh (Tally.freeSlot_none.mpr full)
  · subst code
    refine answers_of_act taken rfl fun caller =>
      (openAccountAct_ok caller (s := s.pass h.dt) c valid fresh (Tally.freeSlot_some.mpr ⟨free, lowest⟩)).trans ?_
    simp only [State.openAccount]
    rw [State.raiseWord_eq _ _ (by exact taken.1), Account.evaluate_eq rfl]
    rfl

/-- Settles O36: each case of R103 and R104 is a case of an act of the Tally Engine, and so is each check of R98. -/
theorem bindAndUnbind : Obligations.BindAndUnbind := by
  refine ⟨fun h i s slot serial k a d taken names => ?named, fun h i s slot serial position f o => ?unnamed⟩
  case named =>
    obtain ⟨rfl, rfl, held⟩ := names
    have named := State.namedAccount_ok (s.pass h.dt) k a d held
    refine ⟨fun position outside => ?_, fun u => ?_, ?_, UnitTrack.passes_iff⟩
    · exact answers_of_act taken rfl fun c => bindAct_badField c named (unitPosition_none position outside)
    · cases live : a.live with
      | none => exact answers_of_act taken rfl fun c => bindAct_lost c named u live
      | some l =>
        exact if_of_act (fun c => bindAct_live c named u live) (answers_of_act taken rfl) fun acts =>
          if_of_act acts (answers_of_act taken rfl) fun acts => if_of_act acts (answers_of_act taken rfl) fun acts =>
            if_of_act acts (answers_of_act taken rfl) (answers_of_act taken rfl)
    · cases live : a.live with
      | none => exact answers_of_act taken rfl fun c => unbindAct_lost c named live
      | some l =>
        cases bound : l.bound with
        | none => simpa only [bound] using answers_of_act taken rfl fun c => unbindAct_unbound c named live bound
        | some u =>
          simp only [bound]
          exact if_of_act (fun c => unbindAct_bound c named live bound) (answers_of_act taken rfl) fun acts =>
            if_of_act acts (answers_of_act taken rfl) (answers_of_act taken rfl)
  case unnamed =>
    have all : ∀ code : ReplyCode, (s.pass h.dt).namedAccount slot serial = .error code → _ := fun code named =>
      And.intro (fun taken => And.intro (answers_of_act (c := .bind h slot serial position) (level := 1) (i := i) taken rfl fun c => bindAct_unnamed c named)
        (And.intro (answers_of_act (c := .unbind h slot serial) taken rfl fun c => unbindAct_unnamed c named)
          (answers_of_act (c := .serviceDone h slot serial) taken rfl fun c => serviceDoneAct_unnamed c named)))
      (fun taken => And.intro (answers_of_act (c := .preset h slot serial f o) (level := 0) (i := i) taken rfl fun c => presetAct_unnamed c named)
        (answers_of_act (c := .retireAccount h slot serial) taken rfl fun c => retireAccountAct_unnamed c named))
    refine ⟨fun outside => all _ (State.namedAccount_outside _ _ _ outside), fun k r is free => ?_, fun k a d is held other => ?_⟩
    · subst is
      exact all _ (State.namedAccount_free (s.pass h.dt) k serial r free)
    · subst is
      exact all _ (State.namedAccount_stale (s.pass h.dt) k serial a d held other)

/-- Settles O37: the fields carried make the account, and the refusals fall in their order. -/
theorem preset : Obligations.Preset := by
  intro h i s slot serial k a d f o taken names
  obtain ⟨rfl, rfl, held⟩ := names
  have named := State.namedAccount_ok (s.pass h.dt) k a d held
  refine ⟨fun bad => ?_, fun ranged whole => ?_⟩
  · exact answers_of_act taken rfl fun c => presetAct_badField c named fun ranged =>
      presetLive_broken fun whole => bad ⟨(presetRanged_iff f o).mpr ranged, whole⟩
  · obtain ⟨l, live, leaves⟩ := presetLive_whole ranged whole
    have acts := fun c => presetAct_named c named ((presetRanged_iff f o).mp ranged) live
    rw [leaves.bound] at acts
    exact ⟨l, leaves.live, leaves.lost, if_of_act acts (answers_of_act taken rfl) fun acts =>
      if_of_act acts (answers_of_act taken rfl) fun acts => if_of_act acts (answers_of_act taken rfl) fun acts =>
        if_of_act acts (answers_of_act taken rfl) fun acts => answers_of_act taken rfl fun c =>
          (acts c).trans (answerEvaluated_eq (s := s.pass h.dt) taken.1 rfl)⟩

/-- Settles O38: each case of R102 and R113 is a case of an act of the Tally Engine. -/
theorem retireAccountAndServiceDone : Obligations.RetireAccountAndServiceDone := by
  intro h i s slot serial k a d names
  obtain ⟨rfl, rfl, held⟩ := names
  have named := State.namedAccount_ok (s.pass h.dt) k a d held
  refine ⟨fun taken => ?_, fun taken => ⟨fun lost => ?_, fun l live => ?_⟩⟩
  · exact if_of_act (fun c => retireAccountAct_named c named) (answers_of_act taken rfl) (answers_of_act taken rfl)
  · exact answers_of_act taken rfl fun c => serviceDoneAct_lost c named lost
  · exact answers_of_act taken rfl fun c =>
      (serviceDoneAct_live c named live).trans (answerEvaluated_eq (s := s.pass h.dt) taken.1 rfl)

end Sys2Proof.Proofs
end

section
/-! ## The watch: what it takes of a slot, a minute and the end of a handover (R144–R154), and the requests that open and abort one -/

namespace Sys2Proof.Machine

open Sys2Proof Sys2Proof.Claim

/-! ### Raised words -/

theorem State.raiseWord_zero (s : State) : s.raiseWord 0#32 = s := by
  unfold State.raiseWord
  split
  · simp
  · rfl

theorem State.raiseWord_raiseWord (v w : Word32) (s : State) : (s.raiseWord v).raiseWord w = s.raiseWord (v ||| w) := by
  cases up : s.up
  · rw [State.raiseWord_down v s up, State.raiseWord_down w s up, State.raiseWord_down (v ||| w) s up]
  · rw [State.raiseWord_eq v s up, State.raiseWord_eq (v ||| w) s up, State.raiseWord_eq w _ (by exact up)]
    simp only [BitVec.or_assoc]

theorem State.raiseWord_watch_comm (v : Word32) (w : Watch) (s : State) :
    ({ s.raiseWord v with watch := w } : State) = ({ s with watch := w } : State).raiseWord v := by
  unfold State.raiseWord
  split
  case isTrue up => rw [if_pos (by exact up)]
  case isFalse down => rw [if_neg (by exact down)]

theorem State.raiseWord_port (v : Word32) {s : State} (up : s.up = true) :
    (s.raiseWord v).port = { s.port with latched := s.port.latched ||| v } := by rw [State.raiseWord_eq v s up]

/-! ### What the watch alone makes of a slot and of a minute event (R144–R147) -/

/-- The watch after a slot that starts is taken, and the conditions it raises. -/
def Watch.takes (cfg : LiveConfig) (elapsed : Nat) (i : Fin 6) (day : Int) (w : Watch) : Watch × Word32 :=
  match w.state with
  | .noWatch => ({ w with lastOutcome := some ⟨i, day, .consumed⟩ }, 0#32)
  | .onWatch =>
    let r := cfg.roster[i]
    if r.crew = w.crew then ({ w with lastOutcome := some ⟨i, day, .continued⟩ }, 0#32)
    else ({ w.open' (.slot i) r.crew r.window r.warning elapsed with lastOutcome := some ⟨i, day, .opened⟩ }, Event.handoverOpened.bit)
  | .opened | .signed =>
    match w.pendingSlot with
    | none => ({ w with pendingSlot := some i, lastOutcome := some ⟨i, day, .pending⟩ }, 0#32)
    | some _ => ({ w with pendingSlot := some i, missed := upTo 255 w.missed, lastOutcome := some ⟨i, day, .pending⟩ }, Event.slotMissed.bit)

section Takes

variable (cfg : LiveConfig) (elapsed : Nat) {i : Fin 6} (day : Int) {w : Watch}

theorem Watch.takes_noWatch (state : w.state = .noWatch) :
    w.takes cfg elapsed i day = ({ w with lastOutcome := some ⟨i, day, .consumed⟩ }, 0#32) := by
  unfold Watch.takes
  split <;> simp_all

theorem Watch.takes_sameCrew (state : w.state = .onWatch) (same : cfg.roster[i].crew = w.crew) :
    w.takes cfg elapsed i day = ({ w with lastOutcome := some ⟨i, day, .continued⟩ }, 0#32) := by
  unfold Watch.takes
  split
  case h_2 => exact if_pos same
  all_goals simp_all

theorem Watch.takes_otherCrew (state : w.state = .onWatch) (other : cfg.roster[i].crew ≠ w.crew) :
    w.takes cfg elapsed i day = ({ w.open' (.slot i) cfg.roster[i].crew cfg.roster[i].window cfg.roster[i].warning elapsed with
      lastOutcome := some ⟨i, day, .opened⟩ }, Event.handoverOpened.bit) := by
  unfold Watch.takes
  split
  case h_2 => exact if_neg other
  all_goals simp_all

theorem Watch.takes_firstPending (state : w.state = .opened ∨ w.state = .signed) (empty : w.pendingSlot = none) :
    w.takes cfg elapsed i day = ({ w with pendingSlot := some i, lastOutcome := some ⟨i, day, .pending⟩ }, 0#32) := by
  unfold Watch.takes
  split
  case h_3 | h_4 => rw [empty]
  all_goals simp_all

theorem Watch.takes_nextPending (state : w.state = .opened ∨ w.state = .signed) {j : Fin 6} (held : w.pendingSlot = some j) :
    w.takes cfg elapsed i day = ({ w with
      pendingSlot := some i, missed := upTo 255 w.missed, lastOutcome := some ⟨i, day, .pending⟩ }, Event.slotMissed.bit) := by
  unfold Watch.takes
  split
  case h_3 | h_4 => rw [held]
  all_goals simp_all

end Takes

theorem WatchState.cases_handover (x : WatchState) : x = .noWatch ∨ x = .onWatch ∨ x = .opened ∨ x = .signed := by cases x <;> simp

theorem State.takeSlot_takes (i : Fin 6) (day : Int) (s : State) :
    s.takeSlot i day = ({ s with watch := (s.watch.takes s.config s.time.elapsed i day).1 } : State).raiseWord
      (s.watch.takes s.config s.time.elapsed i day).2 := by
  obtain noWatch | onWatch | handover := s.watch.state.cases_handover
  · rw [Watch.takes_noWatch _ _ _ noWatch, State.raiseWord_zero, State.takeSlot_noWatch i day noWatch]
    rfl
  · by_cases same : s.config.roster[i].crew = s.watch.crew
    · rw [Watch.takes_sameCrew _ _ _ onWatch same, State.raiseWord_zero, State.takeSlot_sameCrew day onWatch same]
      rfl
    · rw [Watch.takes_otherCrew _ _ _ onWatch same]
      simp only [State.takeSlot, onWatch, if_neg same, State.openHandover, State.slotOutcome, State.raise]
      rw [State.raiseWord_watch_comm, State.raiseWord_watch]
  · cases pending : s.watch.pendingSlot with
    | none =>
      rw [Watch.takes_firstPending _ _ _ handover pending, State.raiseWord_zero, State.takeSlot_firstPending i day handover pending]
      rfl
    | some j =>
      rw [Watch.takes_nextPending _ _ _ handover pending, State.takeSlot_handover i day handover]
      simp only [State.makePending, pending, State.slotOutcome, State.raise]
      rw [State.raiseWord_watch_comm, State.raiseWord_watch]
      rfl

/-- The watch after a slot has had its turn at a minute event, and the conditions it raises. -/
def Watch.tries (cfg : LiveConfig) (elapsed : Nat) (t : LocalTime) (i : Fin 6) (w : Watch) : Watch × Word32 :=
  if cfg.roster[i].crew ≠ 0 ∧ cfg.roster[i].start ≤ t.minute ∧ (w.lastOpened[i].all fun d => decide (d < t.day)) = true then
    ({ w with lastOpened := w.lastOpened.set i (some t.day) } : Watch).takes cfg elapsed i t.day
  else (w, 0#32)

theorem State.trySlot_tries (t : LocalTime) (i : Fin 6) (s : State) :
    let r := s.watch.tries s.config s.time.elapsed t i
    s.trySlot t i = ({ s with watch := r.1 } : State).raiseWord r.2 := by
  intro r
  have iff : s.slotStarts t i = true ↔ s.config.roster[i].crew ≠ 0 ∧ s.config.roster[i].start ≤ t.minute
      ∧ (s.watch.lastOpened[i].all fun d => decide (d < t.day)) = true := by
    rw [State.slotStarts_iff]
    cases s.watch.lastOpened[i] <;> simp
  by_cases starts : s.slotStarts t i = true
  · rw [State.trySlot_of_starts starts, State.takeSlot_takes]
    simp only [r, Watch.tries, if_pos (iff.mp starts)]
  · rw [State.trySlot_of_not_starts starts]
    simp only [r, Watch.tries, if_neg (mt iff.mpr starts), State.raiseWord_zero]

/-- The watch after a list of slots has had its turn, and the conditions raised. -/
def Watch.triesAll (cfg : LiveConfig) (elapsed : Nat) (t : LocalTime) : List (Fin 6) → Watch → Watch × Word32
  | [], w => (w, 0#32)
  | i :: is, w =>
    let r := w.tries cfg elapsed t i
    let rest := Watch.triesAll cfg elapsed t is r.1
    (rest.1, r.2 ||| rest.2)

theorem State.foldl_trySlot (t : LocalTime) (l : List (Fin 6)) (s : State) :
    let r := s.watch.triesAll s.config s.time.elapsed t l
    l.foldl (fun a i => a.trySlot t i) s = ({ s with watch := r.1 } : State).raiseWord r.2 := by
  induction l generalizing s with
  | nil => exact s.raiseWord_zero.symm
  | cons i is ih =>
    simp only [List.foldl_cons, Watch.triesAll]
    rw [ih, State.trySlot_tries, State.raiseWord_watch_comm, State.raiseWord_raiseWord]
    simp only [State.raiseWord_watch, State.raiseWord_config, State.raiseWord_time]

/-- The watch after a minute event, and the conditions raised. -/
def Watch.minute (cfg : LiveConfig) (elapsed : Nat) (timeSet : Bool) (t : LocalTime) (w : Watch) : Watch × Word32 :=
  if timeSet then w.triesAll cfg elapsed t (slotOrder cfg.roster) else (w, 0#32)

theorem State.takeMinute_minute (t : LocalTime) (s : State) :
    let r := s.watch.minute s.config s.time.elapsed s.time.timeSet t
    s.takeMinute t = ({ s with watch := r.1 } : State).raiseWord r.2 := by
  intro r
  cases set : s.time.timeSet
  · rw [State.takeMinute_unset t set]
    simp only [r, Watch.minute, set, Bool.false_eq_true, if_false, State.raiseWord_zero]
  · rw [State.takeMinute_set t set, State.foldl_trySlot]
    simp only [r, Watch.minute, set, if_true]

/-- A slot opens a handover or leaves the crew; either way shift and its baseline stand. -/
structure SameShift (v w : Watch) : Prop where
  crew : w.crew = v.crew
  shift : w.shift = v.shift
  shiftStart : w.shiftStart = v.shiftStart
  baseline : w.baseline = v.baseline
  previous : w.previous = v.previous

theorem SameShift.refl (w : Watch) : SameShift w w := ⟨rfl, rfl, rfl, rfl, rfl⟩

theorem SameShift.trans {u v w : Watch} (a : SameShift u v) (b : SameShift v w) : SameShift u w :=
  ⟨b.crew.trans a.crew, b.shift.trans a.shift, b.shiftStart.trans a.shiftStart, b.baseline.trans a.baseline, b.previous.trans a.previous⟩

theorem Watch.takes_sameShift (cfg : LiveConfig) (elapsed : Nat) (i : Fin 6) (day : Int) (w : Watch) :
    SameShift w (w.takes cfg elapsed i day).1 := by
  unfold Watch.takes
  cases w.state
  · exact ⟨rfl, rfl, rfl, rfl, rfl⟩
  · dsimp only
    split <;> exact ⟨rfl, rfl, rfl, rfl, rfl⟩
  · cases w.pendingSlot <;> exact ⟨rfl, rfl, rfl, rfl, rfl⟩
  · cases w.pendingSlot <;> exact ⟨rfl, rfl, rfl, rfl, rfl⟩

theorem Watch.tries_sameShift (cfg : LiveConfig) (elapsed : Nat) (t : LocalTime) (i : Fin 6) (w : Watch) :
    SameShift w (w.tries cfg elapsed t i).1 := by
  unfold Watch.tries
  split
  · have opened : SameShift w { w with lastOpened := w.lastOpened.set i (some t.day) } := ⟨rfl, rfl, rfl, rfl, rfl⟩
    exact opened.trans (Watch.takes_sameShift _ _ _ _ _)
  · exact .refl w

theorem Watch.triesAll_sameShift (cfg : LiveConfig) (elapsed : Nat) (t : LocalTime) (l : List (Fin 6)) (w : Watch) :
    SameShift w (w.triesAll cfg elapsed t l).1 := by
  induction l generalizing w with
  | nil => exact .refl w
  | cons i is ih => exact (w.tries_sameShift cfg elapsed t i).trans (ih _)

theorem Watch.minute_sameShift (cfg : LiveConfig) (elapsed : Nat) (set : Bool) (t : LocalTime) (w : Watch) :
    SameShift w (w.minute cfg elapsed set t).1 := by
  unfold Watch.minute
  split
  · exact w.triesAll_sameShift cfg elapsed t _
  · exact .refl w

/-! ### The pending slot, and the end of a handover (R146, R154) -/

theorem openingEvent_same {v w : Watch} (same : w.state = v.state) : openingEvent v w = 0#32 := by
  unfold openingEvent
  rw [if_neg]
  rintro ⟨before, after⟩
  rw [same, before] at after
  cases after

theorem openingEvent_other {v w : Watch} (state : v.state ≠ .onWatch) : openingEvent v w = 0#32 := by
  unfold openingEvent
  rw [if_neg fun both => state both.1]

theorem openingEvent_opens {v w : Watch} (before : v.state = .onWatch) (after : w.state = .opened) :
    openingEvent v w = Event.handoverOpened.bit := if_pos ⟨before, after⟩

/-- The pending slot of the watch, handled by what the watch makes of a slot. -/
theorem pendingHandled_takes {cfg : LiveConfig} {elapsed : Nat} {w : Watch} {k : Fin 6} (pending : w.pendingSlot = some k)
    (used : cfg.roster[k].crew ≠ 0) :
    ({ w with pendingSlot := none } : Watch).takes cfg elapsed k ((w.lastOpened[k]).getD 0)
      = (pendingHandled cfg elapsed w, openingEvent w (pendingHandled cfg elapsed w)) := by
  obtain noWatch | onWatch | handover := w.state.cases_handover
  · have eq : pendingHandled cfg elapsed w
        = { w with pendingSlot := none, lastOutcome := some ⟨k, (w.lastOpened[k]).getD 0, .consumed⟩ } := by
      simp only [pendingHandled, pending, if_neg used, noWatch]
    rw [eq, openingEvent_same (by rfl), Watch.takes_noWatch _ _ _ (by exact noWatch)]
  · by_cases same : cfg.roster[k].crew = w.crew
    · have eq : pendingHandled cfg elapsed w
          = { w with pendingSlot := none, lastOutcome := some ⟨k, (w.lastOpened[k]).getD 0, .continued⟩ } := by
        simp only [pendingHandled, pending, if_neg used, onWatch, if_pos same]
      rw [eq, openingEvent_same (by rfl), Watch.takes_sameCrew _ _ _ (by exact onWatch) (by exact same)]
    · have opened : (pendingHandled cfg elapsed w).state = .opened := by
        simp only [pendingHandled, pending, if_neg used, onWatch, if_neg same]
      rw [openingEvent_opens onWatch opened, Watch.takes_otherCrew _ _ _ (by exact onWatch) (by exact same)]
      simp only [pendingHandled, pending, if_neg used, onWatch, if_neg same, Watch.open']
  · have eq : pendingHandled cfg elapsed w = { w with lastOutcome := some ⟨k, (w.lastOpened[k]).getD 0, .pending⟩ } := by
      obtain opened | signed := handover
      · simp only [pendingHandled, pending, if_neg used, opened]
      · simp only [pendingHandled, pending, if_neg used, signed]
    rw [eq, openingEvent_same (by rfl), Watch.takes_firstPending _ _ _ (by exact handover) rfl]
    simp only [← pending]

/-- Handling the pending slot: the watch as the statements spell it, with HANDOVER_OPENED where it opens one. -/
theorem State.handlePending_handled (s : State) :
    let w := pendingHandled s.config s.time.elapsed s.watch
    s.handlePending = ({ s with watch := w } : State).raiseWord (openingEvent s.watch w) := by
  intro w
  cases pending : s.watch.pendingSlot with
  | none =>
    have same : w = s.watch := by simp only [w, pendingHandled, pending]
    rw [same, openingEvent_same rfl, State.raiseWord_zero, State.handlePending, pending]
  | some k =>
    by_cases empty : s.config.roster[k].crew = 0
    · have eq : w = { s.watch with pendingSlot := none, lastOutcome := some ⟨k, (s.watch.lastOpened[k]).getD 0, .dropped⟩ } := by
        simp only [w, pendingHandled, pending, if_pos empty]
      rw [eq, openingEvent_same (by rfl), State.raiseWord_zero]
      simp only [State.handlePending, pending, if_pos empty, State.slotOutcome]
    · have taken : s.handlePending =
          ({ s with watch := { s.watch with pendingSlot := none } } : State).takeSlot k ((s.watch.lastOpened[k]).getD 0) := by
        simp only [State.handlePending, pending, if_neg empty]
      rw [taken, State.takeSlot_takes, pendingHandled_takes pending empty]

theorem pendingHandled_sameShift (cfg : LiveConfig) (elapsed : Nat) (w : Watch) : SameShift w (pendingHandled cfg elapsed w) := by
  unfold pendingHandled
  cases w.pendingSlot with
  | none => exact .refl w
  | some k =>
    dsimp only
    split
    · exact ⟨rfl, rfl, rfl, rfl, rfl⟩
    · cases w.state
      · exact ⟨rfl, rfl, rfl, rfl, rfl⟩
      · dsimp only
        split <;> exact ⟨rfl, rfl, rfl, rfl, rfl⟩
      · exact ⟨rfl, rfl, rfl, rfl, rfl⟩
      · exact ⟨rfl, rfl, rfl, rfl, rfl⟩

/-- What the end of a handover reads of a state. -/
structure SameSetting (s z : State) : Prop where
  config : s.config = z.config
  time : s.time = z.time
  port : s.port = z.port
  pins : s.pins = z.pins

/-- A minute event is taken alike in one setting. -/
theorem takeMinute_setting {s z : State} (t : LocalTime) (same : SameSetting s z) (watch : s.watch = z.watch) (up : s.up = true) :
    (s.takeMinute t).time = (z.takeMinute t).time ∧ (s.takeMinute t).watch = (z.takeMinute t).watch
      ∧ (s.takeMinute t).port = (z.takeMinute t).port := by
  have upThere : z.up = true := by rw [State.up, ← same.pins]; exact up
  rw [State.takeMinute_minute, State.takeMinute_minute, State.raiseWord_watch, State.raiseWord_watch, State.raiseWord_time,
    State.raiseWord_time, State.raiseWord_port _ (by exact up), State.raiseWord_port _ (by exact upThere)]
  simp only [same.config, same.time, same.port, watch, and_self]

/-- The end of a handover, as the statements spell it, in a state that shares setting with `z`; records and images stand. -/
theorem State.endHandover_ends {s z : State} (same : SameSetting s z) (up : z.up = true) :
    HandoverEnds s.watch z s.endHandover := by
  have upHere : s.up = true := by rw [State.up, same.pins]; exact up
  unfold HandoverEnds
  dsimp only
  rw [State.endHandover, ← same.time]
  cases pending : s.time.pendingStep with
  | none =>
    have unsignalled : s.handoverSignal = s := by simp only [State.handoverSignal, pending]
    rw [unsignalled, State.handlePending_handled, State.raiseWord_watch, State.raiseWord_time, State.raiseWord_port _ (by exact upHere)]
    simp only [same.config, same.port, same.time]
    trivial
  | some off =>
    have signalled : s.handoverSignal = s.applyStep off := by simp only [State.handoverSignal, pending]
    obtain ⟨frame, time, taken, -⟩ := State.applyStep_spec off upHere
    have upThere : (s.applyStep off).up = true := by rw [State.up, frame]; exact upHere
    have shown : ((s.applyStep off).handlePending).localTime = (s.applyStep off).localTime := by
      refine State.localTime_eq_of ?_ ?_
      · rw [State.handlePending_handled, State.raiseWord_time]
        exact ⟨rfl, rfl, rfl, rfl, rfl, rfl⟩
      · rw [State.handlePending_handled, State.raiseWord_config]
    rw [signalled, shown]
    have begun := takeMinute_setting (s := withEvent .stepApplied { s with time := (s.applyStep off).time })
      (z := withEvent .stepApplied { z with watch := s.watch, time := (s.applyStep off).time }) (s.applyStep off).localTime
      ⟨same.config, rfl, by rw [withEvent, withEvent, same.port], same.pins⟩ rfl upHere
    rw [← taken, ← same.config] at begun
    dsimp only
    rw [← same.config, ← time]
    obtain ⟨clock, watch, port⟩ := begun
    have elapsed : (s.applyStep off).time.elapsed = s.time.elapsed := by rw [time, steppedTime]
    have config : (s.applyStep off).config = s.config := by rw [frame]
    rw [State.handlePending_handled, State.raiseWord_watch, State.raiseWord_time, State.raiseWord_port _ (by exact upThere), config, elapsed]
    exact ⟨clock, by rw [watch], by rw [port, watch]⟩

/-- The end of a handover leaves all but Time Base, watch and latched conditions. -/
theorem State.endHandover_frame {s : State} (up : s.up = true) :
    let t := s.endHandover
    t = { s with time := t.time, watch := t.watch, port := t.port } ∧ t.port = { s.port with latched := t.port.latched }
      ∧ SameShift s.watch t.watch := by
  intro t
  have handled : ∀ u : State, u.up = true → t = u.handlePending → u = { s with time := u.time, watch := u.watch, port := u.port } →
      u.port = { s.port with latched := u.port.latched } → SameShift s.watch u.watch →
      t = { s with time := t.time, watch := t.watch, port := t.port } ∧ t.port = { s.port with latched := t.port.latched }
        ∧ SameShift s.watch t.watch := fun u upThere eq frame port shift => by
    rw [State.handlePending_handled, State.raiseWord_eq _ _ (by exact upThere)] at eq
    rw [eq]
    refine ⟨?_, ?_, shift.trans (pendingHandled_sameShift _ _ _)⟩
    · rw [frame]
    · dsimp only
      rw [port]
  have kind : t = s.handoverSignal.handlePending := rfl
  cases pending : s.time.pendingStep with
  | none =>
    have unsignalled : s.handoverSignal = s := by simp only [State.handoverSignal, pending]
    rw [unsignalled] at kind
    exact handled s up kind rfl rfl (.refl _)
  | some off =>
    have signalled : s.handoverSignal = s.applyStep off := by simp only [State.handoverSignal, pending]
    rw [signalled] at kind
    obtain ⟨frame, -, taken, port, -⟩ := State.applyStep_spec off up
    refine handled (s.applyStep off) (by rw [State.up, frame]; exact up) kind frame port ?_
    rw [taken, State.takeMinute_minute, State.raiseWord_watch]
    exact Watch.minute_sameShift _ _ _ _ _

/-- The Time Base after the end of a handover: a held step is applied, and without one it stands. -/
theorem State.endHandover_step {s : State} (up : s.up = true) :
    (∀ off : Int, s.time.pendingStep = some off →
      s.endHandover.time.generation = s.time.generation + 1 ∧ s.endHandover.time.timeSet = true ∧ s.endHandover.time.pendingStep = none
        ∧ s.endHandover.port.latched &&& Event.stepApplied.bit = Event.stepApplied.bit)
      ∧ (s.time.pendingStep = none → s.endHandover.time = s.time) := by
  refine ⟨fun off pending => ?_, fun none => ?_⟩
  · have signalled : s.handoverSignal = s.applyStep off := by simp only [State.handoverSignal, pending]
    obtain ⟨-, time, -, -, latched⟩ := State.applyStep_spec off up
    have raised := ((s.applyStep off).handlePending_quiet).1
    rw [State.endHandover, signalled]
    refine ⟨?_, ?_, ?_, raised.keeps latched⟩ <;> rw [State.handlePending_handled, State.raiseWord_time, time] <;> rfl
  · have unsignalled : s.handoverSignal = s := by simp only [State.handoverSignal, none]
    rw [State.endHandover, unsignalled, State.handlePending_handled, State.raiseWord_time]

/-- Without a step and a pending slot the end of a handover does nothing. -/
theorem State.endHandover_nothing {s : State} (step : s.time.pendingStep = none) (slot : s.watch.pendingSlot = none) :
    s.endHandover = s := by
  simp only [State.endHandover, State.handoverSignal, step, State.handlePending, slot]

/-- Without a step, the pending slot of a handover that ended is handled on watch. -/
theorem State.endHandover_slot {s : State} {k : Fin 6} (step : s.time.pendingStep = none) (slot : s.watch.pendingSlot = some k)
    (onWatch : s.watch.state = .onWatch) :
    let r := s.config.roster[k]
    let day := (s.watch.lastOpened[k]).getD 0
    (r.crew = 0 → s.endHandover.watch = { s.watch with pendingSlot := none, lastOutcome := some ⟨k, day, .dropped⟩ })
      ∧ (r.crew ≠ 0 → r.crew = s.watch.crew →
        s.endHandover.watch = { s.watch with pendingSlot := none, lastOutcome := some ⟨k, day, .continued⟩ })
      ∧ (r.crew ≠ 0 → r.crew ≠ s.watch.crew → s.endHandover.watch.state = .opened ∧ s.endHandover.watch.incoming = r.crew
        ∧ s.endHandover.watch.pendingSlot = none ∧ s.endHandover.watch.origin = some (.slot k)
        ∧ s.endHandover.watch.lastOutcome = some ⟨k, day, .opened⟩) := by
  have eq : s.endHandover.watch = pendingHandled s.config s.time.elapsed s.watch := by
    have unsignalled : s.handoverSignal = s := by simp only [State.handoverSignal, step]
    rw [State.endHandover, unsignalled, State.handlePending_handled, State.raiseWord_watch]
  rw [eq]
  refine ⟨fun empty => ?_, fun used same => ?_, fun used other => ?_⟩
  · simp only [pendingHandled, slot, if_pos empty]
  · simp only [pendingHandled, slot, if_neg used, onWatch, if_pos same]
  · simp only [pendingHandled, slot, if_neg used, onWatch, if_neg other, and_self]

/-! ### START_HANDOVER and ABORT_HANDOVER (R148, R153) -/

/-- The same case split in an act's answer and in a statement about it. -/
theorem if_of_call {p : Prop} [Decidable p] {r x y : State × Answer} {P Q : Prop} (acts : r = if p then x else y)
    (yes : r = x → P) (no : r = y → Q) : if p then P else Q := by
  by_cases holds : p
  · rw [if_pos holds]
    exact yes (acts.trans (if_pos holds))
  · rw [if_neg holds]
    exact no (acts.trans (if_neg holds))

theorem State.openHandover_eq (origin : Origin) (crew : Fin 16) (window warning : Nat) {s : State} (up : s.up = true) :
    s.openHandover origin crew window warning =
      withEvent .handoverOpened { s with watch := s.watch.open' origin crew window warning s.time.elapsed } :=
  State.raise_withEvent .handoverOpened up

theorem startHandoverAct_cases (c : Caller) {s : State} (up : s.up = true) :
    startHandoverAct c s =
      if c.crew = 0 then answer .badField s.watch.bytes s
      else if s.watch.state = .noWatch then answer .state s.watch.bytes s
      else if s.watch.state = .opened ∨ s.watch.state = .signed then answer .busy s.watch.bytes s
      else if c.crew = s.watch.crew then answer .redundant s.watch.bytes s
      else
        let w := s.watch.open' .unscheduled c.crew s.config.defaultWindow 0 s.time.elapsed
        answer .ok w.bytes (withEvent .handoverOpened { s with watch := w }) := by
  unfold startHandoverAct
  rw [State.openHandover_eq _ _ _ _ up]
  obtain ⟨x, state⟩ : ∃ x, s.watch.state = x := ⟨_, rfl⟩
  cases x <;> simp [state, answerContext, withEvent]

theorem abortHandoverAct_none (c : Caller) {s : State} (none : s.watch.handover = false) :
    abortHandoverAct c s = answer .state [] s := by
  simp only [abortHandoverAct, none, Bool.false_eq_true, if_false, refuse]

theorem abortHandoverAct_ok (c : Caller) {s : State} (handover : s.watch.handover = true) :
    abortHandoverAct c s = answer .ok s.abort.watch.bytes s.abort := by
  simp only [abortHandoverAct, handover, if_true, answerContext]

end Sys2Proof.Machine

namespace Sys2Proof.Proofs

open Sys2Proof Sys2Proof.Machine Sys2Proof.Claim

/-- Settles O45: the cases of R148 are the cases of the watch's act. -/
theorem startHandover : Obligations.StartHandover := by
  intro h i s taken
  exact if_of_call (startHandoverAct_cases ⟨h.requester, s.port.levels[h.requester], h.crew⟩ (s := s.pass h.dt) taken.1)
    (answers_of_call taken rfl) fun acts => if_of_call acts (answers_of_call taken rfl) fun acts =>
      if_of_call acts (answers_of_call taken rfl) fun acts => if_of_call acts (answers_of_call taken rfl) (answers_of_call taken rfl)

/-- Settles O49: the watch returns to its crew, and the handover ends. -/
theorem abortHandover : Obligations.AbortHandover := by
  intro h i s taken
  refine ⟨fun idle => ?none, fun handover => ?ends⟩
  case none =>
    have free : s.watch.handover = false := by
      obtain noWatch | onWatch := idle
      · simp [Watch.handover, noWatch]
      · simp [Watch.handover, onWatch]
    exact answers_of_act taken rfl fun c => abortHandoverAct_none c (s := s.pass h.dt) free
  case ends =>
    have acts := fun c => abortHandoverAct_ok c (s := s.pass h.dt) (s.watch.handover_iff.mpr handover)
    let closed : State := { s.pass h.dt with watch := s.watch.closeHandover s.watch.crew }
    have up : closed.up = true := taken.1
    obtain ⟨frame, port, shift⟩ := State.endHandover_frame up
    obtain ⟨stepped, still⟩ := State.endHandover_step up
    have abort : (s.pass h.dt).abort = closed.endHandover := rfl
    have ends : HandoverEnds closed.watch (s.pass h.dt) closed.endHandover := State.endHandover_ends ⟨rfl, rfl, rfl, rfl⟩ up
    refine ⟨fun step slot => answers_of_act taken rfl fun c => ?_, _, answers_of_act taken rfl acts, ?_⟩
    · rw [acts c, abort, State.endHandover_nothing (s := closed) step slot]
      rfl
    rw [abort]
    refine ⟨?_, shift.crew, shift.shift, shift.shiftStart, shift.baseline, shift.previous, ?_, stepped, still, ends,
      fun k step slot => State.endHandover_slot (s := closed) step slot rfl⟩
    · rw [frame]
      rfl
    · have slots : closed.endHandover.port.nextOrder = s.port.nextOrder := by rw [port]; rfl
      rw [State.place_slot, slots]
      rfl

end Sys2Proof.Proofs
end

section
/-! ## The checkpoint walk, and the watch's requests that trigger one (R126–R128, R149–R152) -/

namespace Sys2Proof.Machine

open Sys2Proof Sys2Proof.Claim Sys2Proof.Safety

/-! ### A visit (R127, R128, R134) -/

theorem Tally.nextMarked_first {y : Tally} {n : Nat} {j : Fin 32} : y.nextMarked n = some j ↔ FirstMarked y n j := by
  rw [Tally.nextMarked, find?_finRange_eq_some, FirstMarked]
  simp only [Bool.and_eq_true, decide_eq_true_eq, Bool.and_eq_false_imp, and_assoc]
  tauto

theorem State.goOn_capture {s : State} {n : Nat} {j : Fin 32} (first : FirstMarked s.tally n j) (free : s.store.holder = .none) :
    s.goOn n = s.capture j := by
  simp only [State.goOn, State.visit, Tally.nextMarked_first.mpr first, if_pos free, Option.getD_some]

theorem State.goOn_waits {s : State} {n : Nat} {j : Fin 32} (first : FirstMarked s.tally n j) (held : s.store.holder ≠ .none) :
    s.goOn n = { s with store := { s.store with index := j } } := by
  simp only [State.goOn, State.visit, Tally.nextMarked_first.mpr first, if_neg held, Option.getD_some]

theorem State.goOn_passed {s : State} {n : Nat} (none : NoneMarked s.tally n) : s.goOn n = s.endWalk := by
  simp only [State.goOn, State.visit, (s.tally.nextMarked_none n).mpr none, Option.getD_none]

theorem exists_firstMarked (y : Tally) (n : Nat) : NoneMarked y n ∨ ∃ j, FirstMarked y n j := by
  cases next : y.nextMarked n with
  | none => exact .inl ((y.nextMarked_none n).mp next)
  | some j => exact .inr ⟨j, Tally.nextMarked_first.mp next⟩

theorem firstMarked_not_none {y : Tally} {n : Nat} {j : Fin 32} (first : FirstMarked y n j) (none : NoneMarked y n) : False := by
  have clear := none j first.1
  rw [first.2.1] at clear
  cases clear

/-- A walk under way with the store port not in its own hands goes on as the statements say. -/
theorem State.goOn_goesOn {s : State} (n : Nat) {free : Bool} (write : s.store.write = none)
    (port : decide (s.store.holder = .none) = free) : GoesOn s.store.walk n s.store.number s.tally free (s.goOn n) := by
  intro j first
  subst port
  by_cases holder : s.store.holder = .none
  · rw [State.goOn_capture first holder]
    simp only [holder, decide_true, if_true]
    trivial
  · rw [State.goOn_waits first holder]
    simp only [holder, decide_false, Bool.false_eq_true, if_false, write, and_self]

/-! ### The end of a walk (R128) -/

theorem State.endWalk_idle {s : State} (walk : s.store.walk = .walking) (again : s.store.again = false) :
    s.endWalk = { s with store := { s.store with walk := .idle } } := by
  simp only [State.endWalk, walk, again, Bool.false_eq_true, if_false]

/-- A walk-again mark begins one further walk. -/
theorem State.endWalk_again {s : State} (walk : s.store.walk = .walking) (again : s.store.again = true) :
    s.endWalk = ({ s with store := s.store.begin .walking } : State).goOn 0 := by
  have ended := State.endWalk_idle (s := { s with store := s.store.begin .walking }) rfl rfl
  rw [State.goOn, ended]
  simp only [State.endWalk, walk, again, if_true]

theorem State.endWalk_final {s : State} (walk : s.store.walk = .final) : s.endWalk =
    ({ s with store := { s.store with walk := if s.tally.freeze then .held else .idle } } : State).grantConfig := by
  simp only [State.endWalk, walk]

/-- The grant of the port touches the configuration write alone. -/
theorem State.grantConfig_eq (s : State) : s.grantConfig = { s with store := { s.store with configWrite := s.grantConfig.store.configWrite } } := by
  unfold State.grantConfig
  split <;> rfl

/-- A new walk that has begun in state `b`, from image 0. -/
theorem State.newWalk_goOn {s b : State} {kind ended : WalkState} {free : Bool} (number : b.store.number = s.store.sequence)
    (sequence : b.store.sequence = upTo Config.countTop s.store.sequence) (again : b.store.again = false) (write : b.store.write = none)
    (walk : b.store.walk = kind) (port : decide (b.store.holder = .none) = free)
    (ends : b.endWalk.store = { b.store with walk := ended, configWrite := b.endWalk.store.configWrite } ∧ b.endWalk.tally = b.tally) :
    NewWalk kind ended b.tally free s (b.goOn 0) := by
  obtain ⟨store, tally⟩ := ends
  have goes := b.goOn_goesOn 0 write port
  rw [walk, number] at goes
  have keeps : (b.goOn 0).store.number = b.store.number ∧ (b.goOn 0).store.sequence = b.store.sequence
      ∧ (b.goOn 0).store.again = b.store.again := by
    obtain none | ⟨j, first⟩ := exists_firstMarked b.tally 0
    · rw [State.goOn_passed none, store]
      exact ⟨rfl, rfl, rfl⟩
    · by_cases holder : b.store.holder = .none
      · rw [State.goOn_capture first holder]
        exact ⟨rfl, rfl, rfl⟩
      · rw [State.goOn_waits first holder]
        exact ⟨rfl, rfl, rfl⟩
  obtain ⟨number', sequence', again'⟩ := keeps
  refine ⟨number'.trans number, sequence'.trans sequence, again'.trans again, goes, fun none => ?_⟩
  rw [State.goOn_passed none]
  exact ⟨by rw [store], by rw [store]; exact write, tally⟩

/-- A walk begun in IDLE, or again, as the statements say. -/
theorem State.newWalk_walking {s : State} {u : State} {free : Bool} (sequence : u.store.sequence = s.store.sequence)
    (write : u.store.write = none) (port : decide (u.store.holder = .none) = free) :
    NewWalk .walking .idle u.tally free s (({ u with store := u.store.begin .walking } : State).goOn 0) := by
  have ended := State.endWalk_idle (s := { u with store := u.store.begin .walking }) rfl rfl
  refine State.newWalk_goOn (b := { u with store := u.store.begin .walking }) sequence ?_ rfl write rfl port ⟨?_, ?_⟩
  · rw [← sequence]
    rfl
  · rw [ended]
  · rw [ended]

/-- A final walk begun with the port free, as the statements say. -/
theorem State.newWalk_final {s u : State} (sequence : u.store.sequence = s.store.sequence) (free : u.store.holder = .none) :
    NewWalk .final (if u.tally.freeze then .held else .idle) u.tally true s u.beginFinal := by
  obtain ⟨write, -⟩ := (Store.holder_none_iff _).mp free
  have ended := State.endWalk_final (s := { u with store := { u.store.begin .final with finalDue := false } }) rfl
  refine State.newWalk_goOn (b := { u with store := { u.store.begin .final with finalDue := false } }) sequence ?_ rfl write rfl ?_ ⟨?_, ?_⟩
  · rw [← sequence]
    rfl
  · exact decide_eq_true free
  · rw [ended, State.grantConfig_eq]
  · rw [ended, State.grantConfig_tally]

/-! ### The triggers (R126) -/

theorem State.trigger_idle {s : State} (idle : s.store.walk = .idle) :
    s.trigger = ({ s with store := s.store.begin .walking } : State).goOn 0 := by
  simp only [State.trigger, idle]

theorem State.trigger_walking {s : State} (walking : s.store.walk = .walking) :
    s.trigger = { s with store := { s.store with again := true } } := by
  simp only [State.trigger, walking]

theorem State.trigger_final {s : State} (final : s.store.walk = .final ∨ s.store.walk = .held) : s.trigger = s := by
  obtain final | held := final
  · simp only [State.trigger, final]
  · simp only [State.trigger, held]

theorem idle_write_none {t : Store} (law : StoreLaw t) (idle : t.walk = .idle ∨ t.walk = .held) : t.write = none := by
  cases write : t.write with
  | none => rfl
  | some w =>
    have walks := law.1 (by rw [write]; rfl)
    rcases idle with is | is <;> rw [is] at walks <;> simp at walks

theorem State.trigger_triggered (s : State) : Triggered s s.trigger := by
  refine ⟨fun idle law => ?_, fun walking => ?_, fun final => ?_⟩
  · rw [State.trigger_idle idle]
    exact State.newWalk_walking rfl (idle_write_none law (.inl idle)) rfl
  · rw [State.trigger_walking walking]
    exact ⟨rfl, rfl⟩
  · rw [State.trigger_final final]
    exact ⟨rfl, rfl⟩

/-- A walk reads and leaves stores and tallies alone. -/
theorem newWalk_of_same {kind ended : WalkState} {y : Tally} {free : Bool} {s s' t t' : State} (new : NewWalk kind ended y free s' t')
    (sequence : s'.store.sequence = s.store.sequence) (store : t.store = t'.store) (tally : t.tally = t'.tally) :
    NewWalk kind ended y free s t := by
  unfold NewWalk GoesOn EndsIn at *
  rw [store, tally, ← sequence]
  exact new

theorem triggered_of_same {s s' t t' : State} (triggered : Triggered s' t') (before : s'.store = s.store) (marks : s'.tally = s.tally)
    (store : t.store = t'.store) (tally : t.tally = t'.tally) : Triggered s t := by
  unfold Triggered at *
  rw [← before, ← marks, store, tally]
  exact ⟨fun idle law => newWalk_of_same (triggered.1 idle law) (by rw [before]) store tally, triggered.2⟩

/-! ### SIGN_ON (R149) -/

/-- The watch as a crew takes it from NO_WATCH: a shift boundary with no crew before it. -/
def Watch.takenBy (crew : Fin 16) (stamp : Stamp) (units : Vector UnitCounts 8) (w : Watch) : Watch :=
  { w with
    crew := crew, state := .onWatch
    previous := some { number := w.shift, crew := 0, start := w.shiftStart, stop := stamp,
                       deltas := Vector.ofFn fun u : Fin 8 => units[u].minus w.baseline[u] }
    baseline := units, shift := upTo Config.countTop w.shift, shiftStart := stamp }

theorem State.takeWatch_eq (crew : Fin 16) (s : State) :
    s.takeWatch crew = ({ s with watch := s.watch.takenBy crew s.stamp s.tally.units } : State).trigger := rfl

/-- The cases of SIGN_ON, by the watch state. -/
theorem signOnAct_cases (c : Caller) (s : State) : signOnAct c s =
    if c.crew = 0 then answer .badField s.watch.bytes s
    else match s.watch.state with
      | .onWatch | .signed => answer .state s.watch.bytes s
      | .opened =>
        if c.crew = s.watch.incoming then
          answer .ok ({ s.watch with state := .signed } : Watch).bytes { s with watch := { s.watch with state := .signed } }
        else if c.crew ≠ s.watch.crew ∧ c.level.val ≤ 1 then
          answer .ok ({ s.watch with state := .signed, incoming := c.crew } : Watch).bytes
            { s with watch := { s.watch with state := .signed, incoming := c.crew } }
        else answer .wrongCrew s.watch.bytes s
      | .noWatch =>
        let taken := s.watch.takenBy c.crew s.stamp s.tally.units
        answer .ok taken.bytes ({ s with watch := taken } : State).trigger := by
  unfold signOnAct
  rw [State.takeWatch_eq]
  simp only [answerContext, State.trigger_watch]
  obtain ⟨x, state⟩ : ∃ x, s.watch.state = x := ⟨_, rfl⟩
  cases x <;> simp only [state]

/-! ### RELEASE and the completion of a handover (R150–R152) -/

theorem releaseAct_refuses {carry : Bool} (c : Caller) {s : State} : releaseAct carry c s =
    if s.watch.state = .noWatch ∨ s.watch.state = .onWatch then answer .state [] s
    else if c.crew ≠ s.watch.crew then answer .noAuthority [] s
    else if s.watch.state = .opened then answer .incomingAbsent [] s
    else if s.trips.unresolved ≠ 0 ∧ carry = false then answer .unresolved (s.releaseCounts false) s
    else completeRelease (decide (s.trips.unresolved ≠ 0)) s := by
  unfold releaseAct refuse
  obtain ⟨x, state⟩ : ∃ x, s.watch.state = x := ⟨_, rfl⟩
  by_cases crew : c.crew = s.watch.crew <;> by_cases clear : s.trips.unresolved = 0 <;> cases carry <;> cases x <;>
    simp [state, crew, clear]

/-- The shift that a completion closes. -/
def Watch.closing (stamp : Stamp) (units : Vector UnitCounts 8) (w : Watch) : PreviousShift :=
  { number := w.shift, crew := w.crew, start := w.shiftStart, stop := stamp,
    deltas := Vector.ofFn fun u : Fin 8 => units[u].minus w.baseline[u] }

/-- The watch as the incoming crew takes it: the shift boundary, and the handover closed. -/
def Watch.completed (stamp : Stamp) (units : Vector UnitCounts 8) (w : Watch) : Watch :=
  { w with
    state := .onWatch, crew := w.incoming, incoming := 0, origin := none, window := none, openedAt := none
    warningDeadline := none, windowDeadline := none, overdue := false, previous := some (w.closing stamp units)
    baseline := units, shift := upTo Config.countTop w.shift, shiftStart := stamp }

/-- A completion up to the end of the handover: carries, shift boundary and trigger are behind it. -/
def State.handedOver (marked : Bool) (s : State) : State :=
  { s with
    trips := if marked then s.trips.markCarries else s.trips
    watch := s.watch.completed s.stamp s.tally.units, tally := s.trigger.tally, store := s.trigger.store }

/-- A trigger reads and moves the tallies and the store alone. -/
theorem State.trigger_eq (s : State) : s.trigger = { s with tally := s.trigger.tally, store := s.trigger.store } :=
  State.ext_fields (by simp) (by simp) (by simp) (by simp) (by simp) (by simp) (by simp) rfl rfl (by simp) (by simp)

theorem State.visit_local {s : State} {n : Nat} (trips : TripTable) (w : Watch) :
    ({ s with trips := trips, watch := w } : State).visit n = (s.visit n).map fun t => { t with trips := trips, watch := w } := by
  unfold State.visit
  dsimp only
  cases s.tally.nextMarked n with
  | none => rfl
  | some i => by_cases free : s.store.holder = .none <;> simp [free, State.capture]

theorem State.trigger_local (trips : TripTable) (w : Watch) (s : State) :
    ({ s with trips := trips, watch := w } : State).trigger = { s.trigger with trips := trips, watch := w } := by
  obtain ⟨x, walk⟩ : ∃ x, s.store.walk = x := ⟨_, rfl⟩
  cases x with
  | idle =>
    rw [State.trigger_idle walk, State.trigger_idle (by exact walk), State.goOn, State.goOn,
      State.visit_local (s := { s with store := s.store.begin .walking })]
    cases ({ s with store := s.store.begin .walking } : State).visit 0 with
    | none => rw [State.endWalk_idle rfl rfl, Option.map_none, Option.getD_none, Option.getD_none, State.endWalk_idle rfl rfl]
    | some t => rfl
  | walking => rw [State.trigger_walking walk, State.trigger_walking (by exact walk)]
  | final => rw [State.trigger_final (.inl walk), State.trigger_final (.inl (by exact walk))]
  | held => rw [State.trigger_final (.inr walk), State.trigger_final (.inr (by exact walk))]

theorem completeRelease_eq (marked : Bool) {s : State} (up : s.up = true) :
    completeRelease marked s = answer .ok
      (s.releaseCounts marked ++ u32 (upTo Config.countTop s.watch.shift) ++ (s.watch.closing s.stamp s.tally.units).header)
      (s.handedOver marked).endHandover := by
  have complete : ∀ trips : TripTable, ({ s with trips := trips } : State).complete = ({ s with
      trips := trips, watch := s.watch.completed s.stamp s.tally.units, tally := s.trigger.tally
      store := s.trigger.store } : State).endHandover := fun trips => by
    have boundary : ({ s with trips := trips } : State).boundary s.stamp s.watch.crew = { s.trigger with
        trips := trips
        watch := { s.watch with previous := some (s.watch.closing s.stamp s.tally.units), baseline := s.tally.units
                                shift := upTo Config.countTop s.watch.shift, shiftStart := s.stamp } } := State.trigger_local _ _ s
    refine congrArg State.endHandover ?_
    dsimp only
    rw [show ({ s with trips := trips } : State).stamp = s.stamp from rfl, boundary]
    exact State.ext_fields (by simp) (by simp) (by simp) (by simp) (by simp) rfl (by simp) rfl rfl rfl (by simp)
  have handed : (if marked then ({ s with trips := s.trips.markCarries } : State) else s).complete = (s.handedOver marked).endHandover := by
    cases marked
    · exact complete s.trips
    · exact complete s.trips.markCarries
  have shift := (State.endHandover_frame (s := s.handedOver marked) up).2.2
  unfold completeRelease
  dsimp only
  rw [handed, shift.shift, shift.previous]
  rfl

/-! ### Carries (R72, R73) -/

theorem TripTable.unresolved_eq (t : TripTable) : t.unresolved =
    ((List.finRange 48).countP fun k => t.slots[k].any TripRecord.isUnresolved) + t.pendingList.length := by
  rw [TripTable.unresolved, toList_eq_map_finRange, List.countP_map]
  rfl

theorem TripTable.markCarries_slot (t : TripTable) (k : Fin 48) : t.markCarries.slots[k] =
    t.slots[k].map fun r => if r.isUnresolved then { r with carried := upTo 15 r.carried } else r := by
  simp only [TripTable.markCarries, Fin.getElem_fin, Vector.getElem_ofFn]
  rfl

theorem TripRecord.isUnresolved_iff (r : TripRecord) : r.isUnresolved = true ↔ r.state = .active ∨ r.state = .cleared := by
  simp [TripRecord.isUnresolved]

theorem TripTable.markCarries_unresolved (t : TripTable) : t.markCarries.unresolved = t.unresolved := by
  rw [TripTable.unresolved_eq, TripTable.unresolved_eq]
  have entries : t.markCarries.pendingList.length = t.pendingList.length := by simp [TripTable.markCarries]
  have slots : ∀ k : Fin 48, t.markCarries.slots[k].any TripRecord.isUnresolved = t.slots[k].any TripRecord.isUnresolved := fun k => by
    rw [t.markCarries_slot]
    cases t.slots[k] with
    | none => rfl
    | some r =>
      simp only [Option.map_some, Option.any_some]
      split <;> rfl
  simp only [slots, entries]

end Sys2Proof.Machine

namespace Sys2Proof.Proofs

open Sys2Proof Sys2Proof.Machine Sys2Proof.Claim

/-- Settles O47: the cases of R149; a watch taken from NO_WATCH is a shift boundary with its trigger. -/
theorem signOn : Obligations.SignOn := by
  intro h i s taken
  have acts := signOnAct_cases ⟨h.requester, s.port.levels[h.requester], h.crew⟩ (s.pass h.dt)
  refine ⟨fun crew noWatch => ?triggers, if_of_call acts (answers_of_call taken rfl) fun acts => ?cases⟩
  case triggers =>
    rw [if_neg (by exact crew), show (s.pass h.dt).watch.state = .noWatch from noWatch] at acts
    refine ⟨_, answers_of_call taken rfl acts, ?_, ?_⟩
    · exact triggered_of_same (s' := { s.pass h.dt with watch := s.watch.takenBy h.crew (s.pass h.dt).stamp s.tally.units })
        (State.trigger_triggered _) rfl rfl rfl rfl
    · rw [State.trigger_eq]
      rfl
  case cases =>
    obtain ⟨x, state⟩ : ∃ x, s.watch.state = x := ⟨_, rfl⟩
    rw [show (s.pass h.dt).watch.state = x from state] at acts
    cases x with
    | noWatch => simp only [state]; exact answers_of_call taken rfl acts
    | onWatch => simp only [state]; exact answers_of_call taken rfl acts
    | signed => simp only [state]; exact answers_of_call taken rfl acts
    | opened =>
      simp only [state]
      exact if_of_call acts (answers_of_call taken rfl) fun acts =>
        if_of_call acts (answers_of_call taken rfl) (answers_of_call taken rfl)

/-- Settles O48: the refusals in their order, the completion with its shift boundary and the end of the handover, and the carries. -/
theorem releaseTheWatch : Obligations.ReleaseTheWatch := by
  refine ⟨fun h carry i s taken => ?release, fun t => ?carries⟩
  case release =>
    have acts := releaseAct_refuses (carry := carry) ⟨h.requester, s.port.levels[h.requester], h.crew⟩ (s := s.pass h.dt)
    refine if_of_call acts (answers_of_call taken rfl) fun acts => ?_
    refine if_of_call acts (answers_of_call taken rfl) fun acts => ?_
    refine if_of_call acts (answers_of_call taken rfl) fun acts => ?_
    refine if_of_call acts (answers_of_call taken rfl) fun acts => ?_
    rw [completeRelease_eq _ (by exact taken.1)] at acts
    let z := s.pass h.dt
    let marked := decide (s.trips.unresolved ≠ 0)
    have up : (z.handedOver marked).up = true := taken.1
    obtain ⟨units, -, -, -, accounts, images, -, -, configImage, -⟩ := z.trigger_same
    obtain ⟨frame, port, shift⟩ := State.endHandover_frame up
    obtain ⟨stepped, still⟩ := State.endHandover_step up
    have ends : HandoverEnds (z.handedOver marked).watch z (z.handedOver marked).endHandover :=
      State.endHandover_ends ⟨rfl, rfl, rfl, rfl⟩ up
    have tally : (z.handedOver marked).endHandover.tally = z.trigger.tally := by rw [frame]; rfl
    have store : (z.handedOver marked).endHandover.store = z.trigger.store := by rw [frame]; rfl
    have order : (z.handedOver marked).endHandover.port.nextOrder = s.port.nextOrder := by rw [port]; rfl
    refine ⟨(z.handedOver marked).endHandover.place i (reply h 24 .ok
        (z.releaseCounts marked ++ u32 (upTo Config.countTop z.watch.shift) ++ (z.watch.closing z.stamp z.tally.units).header)),
      answers_of_call taken rfl acts, ?frame, ?images, ?configImage, ?trips, shift.previous, shift.baseline, shift.shift,
      shift.shiftStart, shift.crew, ?units, fun k => ?accounts, ?reply, fun off held => ?step, still,
      triggered_of_same (s' := z) z.trigger_triggered rfl rfl store tally, ends, fun step slot => ?nothing⟩
    case frame =>
      rw [frame]
      rfl
    case images => exact (congrArg Store.images store).trans images
    case configImage => exact (congrArg Store.configImage store).trans configImage
    case trips =>
      rw [frame]
      rfl
    case units => exact (congrArg Tally.units tally).trans units
    case accounts =>
      rw [accountAt_eq, accountAt_eq]
      exact (congrArg (fun t : Tally => t.accounts[k].account) tally).trans (accounts k)
    case reply =>
      rw [State.place_slot, order]
      dsimp only [State.place]
      rw [shift.shift]
      rfl
    case step =>
      obtain ⟨generation, timeSet, none, -⟩ := stepped off held
      exact ⟨generation, timeSet, none⟩
    case nothing =>
      rw [State.endHandover_nothing (s := z.handedOver marked) step slot]
      exact ⟨rfl, rfl⟩
  case carries =>
    refine ⟨fun k r held => ?_, fun k free => ?_, ?_, by rw [TripTable.markCarries], t.markCarries_unresolved, ?_, t.unresolved_eq⟩
    · rw [t.markCarries_slot, held, Option.map_some]
      simp only [TripRecord.isUnresolved_iff]
    · rw [t.markCarries_slot, free]
      rfl
    · simp only [TripTable.markCarries, satSucc_eq_upTo]
    · simp [TripTable.pendingCount, TripTable.markCarries]

end Sys2Proof.Proofs
end

section
/-! ## The counted boundary under main power: what the blocks take of its tick, its stranded step and its minute event (R2, R34, R47, R126, R155) -/

namespace Sys2Proof.Machine

open Sys2Proof Sys2Proof.Claim Sys2Proof.Safety

/-! ### The boundary as a command -/

/-- A Time Base counted, beside the blocks as they were. -/
structure CountedFrom (s b : State) : Prop where
  frame : b = { s with time := b.time }
  elapsed : b.time.elapsed = upTo Config.elapsedTop s.time.elapsed
  source : b.time.source = s.time.source
  generation : b.time.generation = s.time.generation
  timeSet : b.time.timeSet = s.time.timeSet
  lastPresented : b.time.lastPresented = s.time.lastPresented
  pendingStep : b.time.pendingStep = s.time.pendingStep

/-- What the blocks make of a counted Time Base. -/
def State.ticked (b : State) : State := b.tick.strandedStep.presentIfMoved

/-- A switch completed or not: the blocks stand, and so does what the Time Base shows, its source apart. -/
structure Switched (u t : State) : Prop where
  frame : t = { u with time := t.time, port := t.port }
  reading : SameReading u.time t.time
  elapsed : t.time.elapsed = u.time.elapsed
  timeSet : t.time.timeSet = u.time.timeSet
  lastPresented : t.time.lastPresented = u.time.lastPresented
  grade : t.time.source = u.time.source → ∀ limit, t.time.grade limit = u.time.grade limit
  raised : u.port.Raised t.port

theorem Switched.refl (u : State) : Switched u u := ⟨rfl, .refl _, rfl, rfl, rfl, fun _ _ => rfl, .refl _⟩

/-- A switch completes to XTAL, or to REF from another source. -/
theorem State.completeSwitch_switched {u : State} {q : Target} (target : u.time.target = some q)
    (other : q = .ref → u.time.source ≠ .ref) : Switched u u.completeSwitch := by
  have time := State.completeSwitch_time target
  refine ⟨State.ext_fields (by simp) (by simp) (by simp) rfl (by simp) (by simp) (by simp) (by simp) (by simp) (by simp) rfl,
    u.completeSwitch_reading, by rw [time], by rw [time], by rw [time], fun same limit => ?_,
    ((quiet_byTime u).completeSwitch _ (.refl _)).1⟩
  rw [time] at same ⊢
  have from' : u.time.source = q.source := same.symm
  cases q with
  | ref => exact absurd from' (other rfl)
  | xtal =>
    have kept : ¬ (Target.xtal = Target.ref ∨ u.time.source = .ref) := by simp [from', Target.source]
    simp only [TimeBase.grade, if_neg kept]
    rw [from']

theorem State.completeOnBoundary_switched (u : State) : Switched u u.completeOnBoundary := by
  unfold State.completeOnBoundary
  split
  case isTrue ready => exact State.completeSwitch_switched ready.1 (fun is => by cases is)
  case isFalse => exact .refl u

theorem TimeBase.count_fields (step n : Nat) (aligned : Bool) (t : TimeBase) :
    let c := t.count step n aligned
    c.elapsed = upTo Config.elapsedTop t.elapsed ∧ c.source = t.source ∧ c.generation = t.generation ∧ c.timeSet = t.timeSet
      ∧ c.lastPresented = t.lastPresented ∧ c.pendingStep = t.pendingStep := ⟨rfl, rfl, rfl, rfl, rfl, rfl⟩

/-- A boundary counted in a state whose Time Base agrees with `s` in what the blocks read. -/
theorem countedFrom_count {s u : State} (n : Nat) (aligned : Bool) (frame : u = { s with time := u.time })
    (elapsed : u.time.elapsed = s.time.elapsed) (source : u.time.source = s.time.source)
    (generation : u.time.generation = s.time.generation) (timeSet : u.time.timeSet = s.time.timeSet)
    (lastPresented : u.time.lastPresented = s.time.lastPresented) (pendingStep : u.time.pendingStep = s.time.pendingStep) :
    CountedFrom s { u with time := u.time.count u.config.slewStep n aligned } := by
  obtain ⟨elapsed', source', generation', timeSet', lastPresented', pendingStep'⟩ := u.time.count_fields u.config.slewStep n aligned
  refine ⟨?_, elapsed'.trans (by rw [elapsed]), source'.trans source, generation'.trans generation, timeSet'.trans timeSet,
    lastPresented'.trans lastPresented, pendingStep'.trans pendingStep⟩
  rw [frame]

theorem State.countBoundary_ticked (n : Nat) (aligned : Bool) {u : State} (up : u.up = true) :
    u.countBoundary n aligned = ({ u with time := u.time.count u.config.slewStep n aligned } : State).ticked := by
  unfold State.countBoundary
  exact if_pos up

theorem State.timeUp_of_up {s : State} (up : s.up = true) : s.timeUp = true := by
  simp only [State.up, State.timeUp, Bool.and_eq_true] at *
  exact ⟨up.1.1, up.2⟩

/-- A count followed by the switch to XTAL that may complete there. -/
theorem boundary_completes {c : Instr} {s u : State} {n : Nat} {aligned : Bool} (up : u.up = true)
    (counted : CountedFrom s { u with time := u.time.count u.config.slewStep n aligned })
    (runs : exec c s = .next (u.countBoundary n aligned).completeOnBoundary) :
    ∃ b t, exec c s = .next t ∧ CountedFrom s b ∧ Switched b.ticked t := by
  rw [State.countBoundary_ticked _ _ up] at runs
  exact ⟨_, _, runs, counted, State.completeOnBoundary_switched _⟩

/-- Each command that counts a boundary is a count, what the blocks take of it, and the switch that may complete. -/
theorem boundary_taken {c : Instr} {s : State} (up : s.up = true) (counts : CountsBoundary c s) :
    ∃ b t, exec c s = .next t ∧ CountedFrom s b ∧ Switched b.ticked t := by
  have timeUp := State.timeUp_of_up up
  obtain ⟨rfl, source⟩ | ⟨rfl, source, anchored⟩ | ⟨dt, anchor, rfl, anchored, good, how⟩ := counts
  · refine boundary_completes (u := s.reach s.time.nextBoundary) (n := s.time.nextBoundary) (aligned := false) up
      (countedFrom_count _ _ rfl rfl rfl rfl rfl rfl rfl) ?_
    rw [exec, execSecondBoundary, if_pos (by simp [timeUp, source])]
  · obtain ⟨anchor, anchored⟩ := Option.isSome_iff_exists.mp anchored
    have runs : exec .flywheelBoundary s = .next (s.flywheel anchor) := by
      rw [exec, execFlywheelBoundary, anchored]
      simp [timeUp, source]
    rw [State.flywheel_eq] at runs
    exact boundary_completes (u := s.reach (expectedBoundary anchor s.time.boundaryPos + s.config.toleranceUs)) up
      (countedFrom_count _ _ rfl rfl rfl rfl rfl rfl rfl) runs
  · have inside : inWindow s.config.toleranceUs anchor (s.time.clock + dt) = true := (inWindow_iff s.config anchor _ good.1).mpr good
    have runs := exec_refPulse (dt := dt) timeUp
    by_cases source : s.time.source = .ref
    · rw [State.pulse_counts (s := s.after dt) anchored inside source] at runs
      exact boundary_completes (u := (s.after dt).judged) up (countedFrom_count _ _ rfl rfl rfl rfl rfl rfl rfl) runs
    · obtain ⟨completing, late⟩ := how.resolve_left source
      let u : State := { (s.after dt).judged with time := { (s.after dt).judged.time with target := some .ref } }
      rw [State.pulse_completes (s := s.after dt) anchored inside source completing] at runs
      have eq : u.completeToRef = (u.countBoundary u.time.clock true).completeSwitch := by
        have far : Config.halfSecondUs ≤ u.time.clock - u.time.boundaryPos := late
        rw [State.completeToRef, if_pos far]
      obtain ⟨-, source', target, -⟩ := u.countBoundary_fields u.time.clock true
      refine ⟨_, _, runs, countedFrom_count (u := u) u.time.clock true rfl rfl rfl rfl rfl rfl rfl, ?_⟩
      rw [← State.countBoundary_ticked _ _ (by exact up)]
      have switched : Switched (u.countBoundary u.time.clock true) u.completeToRef := by
        rw [eq]
        exact State.completeSwitch_switched (q := .ref) target fun _ => by rw [source']; exact source
      exact switched

/-! ### What stands behind the tick -/

/-- After the tick only Time Base, watch and port move. -/
theorem State.ticked_frame (b : State) :
    b.ticked = { b.tick with time := b.ticked.time, watch := b.ticked.watch, port := b.ticked.port } := by
  unfold State.ticked
  exact State.ext_fields (by simp) (by simp) (by simp) (by dsimp only) (by simp) (by simp) (by simp) (by simp) (by simp)
    (by dsimp only) (by dsimp only)

theorem State.ticked_raised (b : State) : b.tick.port.Raised b.ticked.port := by
  have stranded := (quiet_byTime b.tick).leads.strandedStep b.tick (.refl _)
  unfold State.ticked State.presentIfMoved
  split
  · exact stranded.1
  · exact ((quiet_byTime b.tick).leads.presentMinute _ stranded).1

/-- At a boundary the local time is presented, whether or not it had moved. -/
theorem State.presentIfMoved_time {s : State} (up : s.up = true) :
    s.presentIfMoved.time = { s.time with lastPresented := some s.localTime } := by
  unfold State.presentIfMoved
  split
  case isTrue same => rw [← same]
  case isFalse => rw [State.presentMinute_time, if_pos up]

theorem State.presentIfMoved_localTime {s : State} (up : s.up = true) : s.presentIfMoved.localTime = s.localTime := by
  refine State.localTime_eq_of ?_ (by simp)
  rw [State.presentIfMoved_time up]
  exact ⟨rfl, rfl, rfl, rfl, rfl, rfl⟩

/-- Without a stranded step a tick is followed by its minute event alone. -/
theorem State.strandedStep_none {b : State} (none : b.time.pendingStep = none ∨ b.watch.handover = true) : b.strandedStep = b := by
  unfold State.strandedStep
  obtain none | handover := none
  · simp [none]
  · simp [handover]

/-! ### The Scanner's part of a tick (R47) -/

theorem State.endTest_eq (line : Fin 32) (s : State) : s.endTest line =
    { s with lines := s.lines.set line { s.lines[line] with test := none }, trips := s.trips.releaseLine line s.stamp } := rfl

/-- A line whose test injection has ended where a condition picks it. -/
def LineState.withoutTest (due : TestInjection → Bool) (l : LineState) : LineState := { l with test := l.test.filter fun j => !due j }

theorem LineState.withoutTest_due {due : TestInjection → Bool} {l : LineState} (any : l.test.any due = true) :
    l.withoutTest due = { l with test := none } := by
  unfold LineState.withoutTest
  cases test : l.test with
  | none => rfl
  | some j =>
    rw [test] at any
    simp_all

theorem LineState.withoutTest_not {due : TestInjection → Bool} {l : LineState} (none : ¬ l.test.any due = true) : l.withoutTest due = l := by
  have kept : (l.test.filter fun j => !due j) = l.test := by
    cases test : l.test with
    | none => rfl
    | some j =>
      rw [test] at none
      simp_all
  unfold LineState.withoutTest
  rw [kept]

/-- Vectors with equal entries are equal. -/
theorem vector_ext {α : Type} {n : Nat} {v w : Vector α n} (same : ∀ k : Fin n, v[k] = w[k]) : v = w :=
  Vector.ext fun k hk => same ⟨k, hk⟩

theorem getElem_ofFn_fin {α : Type} {n : Nat} (f : Fin n → α) (k : Fin n) : (Vector.ofFn f)[k] = f k := by simp

/-- Ending test injections line by line, on lines not yet passed. -/
theorem State.foldl_endTests (due : TestInjection → Bool) (l : List (Fin 32)) (nodup : l.Nodup) (s : State) :
    l.foldl (fun t i => if t.lines[i].test.any due then t.endTest i else t) s =
      { s with
        lines := Vector.ofFn fun i : Fin 32 => if i ∈ l then s.lines[i].withoutTest due else s.lines[i]
        trips := l.foldl (fun a i => if s.lines[i].test.any due then a.releaseLine i s.stamp else a) s.trips } := by
  induction l generalizing s with
  | nil =>
    have same : (Vector.ofFn fun i : Fin 32 => s.lines[i]) = s.lines := by ext i hi; simp
    simp only [List.foldl_nil, List.not_mem_nil, if_false, same]
  | cons i is ih =>
    obtain ⟨fresh, nodup⟩ := List.nodup_cons.mp nodup
    rw [List.foldl_cons, List.foldl_cons, ih nodup]
    by_cases any : s.lines[i].test.any due = true
    · rw [if_pos any, if_pos any, State.endTest_eq]
      have others : ∀ j ∈ is, ({ s with lines := s.lines.set i { s.lines[i] with test := none } } : State).lines[j] = s.lines[j] :=
        fun j mem => by rw [getElem_set_fin, if_neg fun same => fresh (by rw [same]; exact mem)]
      refine State.ext_fields rfl rfl rfl rfl ?_ ?_ rfl rfl rfl rfl rfl
      · refine vector_ext fun k => ?_
        rw [getElem_ofFn_fin, getElem_ofFn_fin]
        by_cases first : i = k
        · subst first
          rw [if_neg fresh, if_pos List.mem_cons_self, getElem_set_fin, if_pos rfl, LineState.withoutTest_due any]
        · rw [getElem_set_fin, if_neg first]
          simp [Ne.symm first]
      · refine List.foldl_ext _ _ _ fun a j mem => ?_
        rw [others j mem]
        rfl
    · rw [if_neg any, if_neg any]
      refine State.ext_fields rfl rfl rfl rfl ?_ rfl rfl rfl rfl rfl rfl
      refine vector_ext fun k => ?_
      rw [getElem_ofFn_fin, getElem_ofFn_fin]
      by_cases first : i = k
      · subst first
        rw [if_neg fresh, if_pos List.mem_cons_self, LineState.withoutTest_not any]
      · simp [Ne.symm first]

/-- The test injections that a condition picks end, each with a TEST release dated now. -/
theorem State.endTests_eq (due : TestInjection → Bool) (s : State) : s.endTests due =
    { s with
      lines := Vector.ofFn fun i : Fin 32 => s.lines[i].withoutTest due
      trips := (List.finRange 32).foldl (fun a i => if s.lines[i].test.any due then a.releaseLine i s.stamp else a) s.trips } := by
  rw [State.endTests, State.foldl_endTests due _ (List.nodup_finRange 32)]
  simp only [List.mem_finRange, if_true]

/-- The lines and the Trip Table after a tick are the Scanner's. -/
theorem State.tick_scanner (b : State) : b.tick.lines = b.scannerTick.lines ∧ b.tick.trips = b.scannerTick.trips := by
  simp [State.tick]

theorem foldl_only {α β : Type} [DecidableEq α] (f : β → α → β) (x : α) (l : List α) (nodup : l.Nodup) (b : β)
    (others : ∀ a ∈ l, a ≠ x → ∀ b, f b a = b) : l.foldl f b = if x ∈ l then f b x else b := by
  induction l generalizing b with
  | nil => rfl
  | cons a as ih =>
    obtain ⟨fresh, nodup⟩ := List.nodup_cons.mp nodup
    rw [List.foldl_cons, ih nodup _ fun c mem => others c (List.mem_cons_of_mem a mem)]
    by_cases is : a = x
    · subst is
      simp [fresh]
    · rw [others a List.mem_cons_self is]
      simp [Ne.symm is]

/-- Only one test injection is due. -/
theorem State.endTests_one {due : TestInjection → Bool} {s : State} {line : Fin 32} (any : s.lines[line].test.any due = true)
    (others : ∀ k : Fin 32, k ≠ line → ¬ s.lines[k].test.any due = true) :
    s.endTests due = { s with
      lines := s.lines.set line { s.lines[line] with test := none }, trips := s.trips.releaseLine line s.stamp } := by
  rw [State.endTests_eq, foldl_only _ line _ (List.nodup_finRange 32) _ fun k _ ne a => if_neg (others k ne),
    if_pos (List.mem_finRange line), if_pos any]
  refine State.ext_fields rfl rfl rfl rfl ?_ rfl rfl rfl rfl rfl rfl
  refine vector_ext fun k => ?_
  dsimp only
  rw [getElem_ofFn_fin]
  by_cases same : line = k
  · subst same
    rw [getElem_set_fin, if_pos rfl, LineState.withoutTest_due any]
  · rw [getElem_set_fin, if_neg same, LineState.withoutTest_not (others _ (Ne.symm same))]

/-! ### CANCEL_TEST (R48) -/

section Act

variable (c : Caller) {s : State}

theorem cancelTestAct_badField {line : Nat} (outside : 31 < line) : cancelTestAct line c s = answer .badField [] s := by
  rw [cancelTestAct, dif_neg (by omega)]
  rfl

theorem cancelTestAct_inside (line : Fin 32) : cancelTestAct line.val c s =
    if s.lines[line].test.isSome = true then answer .ok s.stamp.bytes (s.endTest line) else answer .state [] s := by
  rw [cancelTestAct, dif_pos line.isLt]
  rfl

end Act

/-! ### What a counted boundary leaves, block by block -/

/-- What stands at the end of a boundary as the tick has left it. -/
structure Blocks (b t : State) : Prop where
  config : t.config = b.config
  units : t.units = b.units
  lines : t.lines = b.scannerTick.lines
  trips : t.trips = b.scannerTick.trips
  tally : t.tally = b.tick.tally
  store : t.store = b.tick.store
  watch : t.watch = b.ticked.watch
  raised : b.tick.port.Raised t.port

theorem Switched.blocks {b t : State} (switched : Switched b.ticked t) : Blocks b t := by
  obtain ⟨lines, trips⟩ := b.tick_scanner
  have behind : b.ticked.config = b.config ∧ b.ticked.units = b.units ∧ b.ticked.lines = b.tick.lines ∧ b.ticked.trips = b.tick.trips
      ∧ b.ticked.tally = b.tick.tally ∧ b.ticked.store = b.tick.store := by
    simp [State.ticked]
  have frame : t.config = b.ticked.config ∧ t.units = b.ticked.units ∧ t.lines = b.ticked.lines ∧ t.trips = b.ticked.trips
      ∧ t.tally = b.ticked.tally ∧ t.store = b.ticked.store ∧ t.watch = b.ticked.watch := by
    rw [switched.frame]
    simp only [and_self]
  obtain ⟨config, units, lines', trips', tally, store⟩ := behind
  obtain ⟨config', units', lines'', trips'', tally', store', watch⟩ := frame
  exact ⟨config'.trans config, units'.trans units, lines''.trans (lines'.trans lines), trips''.trans (trips'.trans trips),
    tally'.trans tally, store'.trans store, watch, b.ticked_raised.trans switched.raised⟩

/-- A stranded step leaves source and elapsed counter, and counts a generation where it is applied. -/
theorem State.strandedStep_generation (s : State) : s.strandedStep.time.source = s.time.source
    ∧ s.strandedStep.time.elapsed = s.time.elapsed
    ∧ (s.strandedStep.time = s.time ∨ s.strandedStep.time.generation = s.time.generation + 1) := by
  rw [State.strandedStep_time]
  cases s.time.pendingStep with
  | none => exact ⟨rfl, rfl, .inl rfl⟩
  | some off =>
    dsimp only
    split
    · exact ⟨rfl, rfl, .inl rfl⟩
    · rw [State.applyStep_time]
      exact ⟨rfl, rfl, .inr rfl⟩

theorem generation_of_sameReading {x y : TimeBase} (same : SameReading x y) : y.generation = x.generation := same.1

/-- What the Time Base shows at the end of a boundary, by its fields. -/
structure ShownAfter (u : State) (x : TimeBase) : Prop where
  reading : SameReading u.time x
  source : x.source = u.time.source
  elapsed : x.elapsed = u.time.elapsed
  timeSet : x.timeSet = u.time.timeSet
  presented : x.lastPresented = some u.localTime
  grade : ∀ limit, x.grade limit = u.time.grade limit

theorem State.presentIfMoved_shown {u : State} (up : u.up = true) : ShownAfter u u.presentIfMoved.time := by
  rw [State.presentIfMoved_time up]
  exact ⟨⟨rfl, rfl, rfl, rfl, rfl, rfl⟩, rfl, rfl, rfl, rfl, fun _ => rfl⟩

theorem State.ticked_time {b : State} (up : b.up = true) : ShownAfter b.tick.strandedStep b.ticked.time :=
  State.presentIfMoved_shown (by rw [State.up, State.strandedStep_pins, State.tick_pins]; exact up)

theorem generation_moves (g : BitVec 8) : g + 1 ≠ g := by
  revert g
  decide

/-- Elapsed counter, local time and stamp at the end of a boundary. -/
structure Clocks (s b t : State) : Prop where
  elapsed : t.time.elapsed = b.time.elapsed
  presented : t.time.lastPresented = some t.localTime
  localTime : t.localTime = b.tick.strandedStep.localTime
  stamp : t.time.source = s.time.source → t.time.generation = s.time.generation → t.stamp = b.stamp

theorem Switched.clocks {s b t : State} (up : s.up = true) (counted : CountedFrom s b) (switched : Switched b.ticked t) : Clocks s b t := by
  have there : b.up = true := by rw [State.up, counted.frame]; exact up
  have shown := State.ticked_time there
  have config : t.config = b.ticked.config := by rw [switched.frame]
  have generations : t.time.generation = b.tick.strandedStep.time.generation := by
    rw [generation_of_sameReading switched.reading, generation_of_sameReading shown.reading]
  obtain ⟨source, elapsed, generation⟩ := b.tick.strandedStep_generation
  rw [State.tick_time] at source elapsed generation
  have localTime : t.localTime = b.tick.strandedStep.localTime := by
    rw [State.localTime_eq_of switched.reading config]
    exact State.presentIfMoved_localTime (by rw [State.up, State.strandedStep_pins, State.tick_pins]; exact there)
  refine ⟨(switched.elapsed.trans shown.elapsed).trans elapsed, by rw [switched.lastPresented, shown.presented, localTime], localTime,
    fun same still => ?_⟩
  have unmoved : b.tick.strandedStep.time = b.time := by
    refine generation.resolve_right fun moved => generation_moves s.time.generation ?_
    calc s.time.generation + 1 = b.tick.strandedStep.time.generation := by rw [moved, counted.generation]
      _ = s.time.generation := by rw [← generations, still]
  have kept : t.time.source = b.ticked.time.source := by rw [same, shown.source, source, counted.source]
  have reading := shown.reading
  have grade := shown.grade
  rw [unmoved] at reading grade
  have settings : t.config = b.config := switched.blocks.config
  simp only [State.stamp, switched.reading.reading, reading.reading, switched.grade kept, grade, settings, generation_of_sameReading switched.reading,
    generation_of_sameReading reading]

/-! ### The Watch Controller's part of a tick (R155) -/

/-- A deadline that an elapsed second has reached. -/
theorem filter_standing (elapsed : Nat) (deadline : Option Nat) :
    (deadline.filter fun x => decide (elapsed < x)) = if deadline.any (fun x => decide (x ≤ elapsed)) = true then none else deadline := by
  cases deadline with
  | none => rfl
  | some d => by_cases due : d ≤ elapsed <;> simp [Option.filter, due, Nat.not_lt.mpr, Nat.lt_of_not_le]

theorem State.windowExpiry_watch (s : State) : s.windowExpiry.watch = { s.watch with
    windowDeadline := s.watch.windowDeadline.filter fun x => decide (s.time.elapsed < x)
    overdue := s.watch.overdue || s.watch.windowDeadline.any fun x => decide (x ≤ s.time.elapsed) } := by
  rw [filter_standing]
  by_cases due : s.watch.windowDeadline.any (fun x => decide (x ≤ s.time.elapsed)) = true
  · rw [State.windowExpiry, reached, if_pos due, if_pos due, due, Bool.or_true]
  · rw [State.windowExpiry, reached, if_neg due, if_neg due, Bool.eq_false_of_not_eq_true due, Bool.or_false]

theorem State.warningExpiry_watch (s : State) : s.warningExpiry.watch = { s.watch with
    warningDeadline := s.watch.warningDeadline.filter fun x => decide (s.time.elapsed < x) } := by
  rw [filter_standing]
  by_cases due : s.watch.warningDeadline.any (fun x => decide (x ≤ s.time.elapsed)) = true
  · rw [State.warningExpiry, reached, if_pos due, if_pos due, State.raise_watch]
  · rw [State.warningExpiry, reached, if_neg due, if_neg due]

/-- The watch after the deadlines of a tick at an elapsed second. -/
def Watch.expired (elapsed : Nat) (w : Watch) : Watch :=
  let standing := fun d : Option Nat => d.filter fun x => decide (elapsed < x)
  { w with
    warningDeadline := standing w.warningDeadline, windowDeadline := standing w.windowDeadline
    overdue := w.overdue || w.windowDeadline.any fun x => decide (x ≤ elapsed) }

theorem State.tick_watch (b : State) : b.tick.watch = b.watch.expired b.time.elapsed := by
  rw [State.tick, State.storeTick_watch, State.watchTick, State.windowExpiry_watch, State.warningExpiry_watch, State.warningExpiry_time,
    State.tallyTick_watch, State.tallyTick_time, State.scannerTick_watch, State.scannerTick_time]
  rfl

theorem State.warningExpiry_due {s : State} {d : Nat} (up : s.up = true) (deadline : s.watch.warningDeadline = some d)
    (due : d ≤ s.time.elapsed) : s.warningExpiry = withEvent .handoverWarn { s with watch := { s.watch with warningDeadline := none } } := by
  have reached : reached s.time.elapsed s.watch.warningDeadline = true := by simp [reached, deadline, due]
  rw [State.warningExpiry, if_pos reached]
  exact State.raise_withEvent .handoverWarn up

theorem State.warningExpiry_stands {s : State} (stands : ∀ d : Nat, s.watch.warningDeadline = some d → s.time.elapsed < d) :
    s.warningExpiry = s := by
  unfold State.warningExpiry
  rw [if_neg]
  cases deadline : s.watch.warningDeadline with
  | none => simp [reached]
  | some d => simpa [reached] using stands d deadline

theorem State.windowExpiry_due {s : State} {d : Nat} (deadline : s.watch.windowDeadline = some d) (due : d ≤ s.time.elapsed) :
    s.windowExpiry = { s with watch := { s.watch with windowDeadline := none, overdue := true } } := by
  rw [State.windowExpiry, if_pos (by simp [reached, deadline, due])]

theorem State.windowExpiry_stands {s : State} (stands : ∀ d : Nat, s.watch.windowDeadline = some d → s.time.elapsed < d) :
    s.windowExpiry = s := by
  unfold State.windowExpiry
  rw [if_neg]
  cases deadline : s.watch.windowDeadline with
  | none => simp [reached]
  | some d => simpa [reached] using stands d deadline

/-- A warning deadline reached raises HANDOVER_WARN, which the window expiry and the Store Controller keep. -/
theorem State.warningExpiry_warns {u : State} {d : Nat} (up : u.up = true) (deadline : u.watch.warningDeadline = some d)
    (due : d ≤ u.time.elapsed) :
    u.warningExpiry.windowExpiry.storeTick.port.latched &&& Event.handoverWarn.bit = Event.handoverWarn.bit := by
  have later := (quiet_byTime u.warningExpiry).storeTick _ ((quiet_byTime u.warningExpiry).windowExpiry _ (.refl _))
  refine later.1.keeps ?_
  rw [State.warningExpiry_due up deadline due]
  exact withEvent_latched _ _

theorem State.tick_warns {b : State} {d : Nat} (up : b.up = true) (deadline : b.watch.warningDeadline = some d)
    (due : d ≤ b.time.elapsed) : b.tick.port.latched &&& Event.handoverWarn.bit = Event.handoverWarn.bit := by
  rw [State.tick, State.watchTick]
  exact State.warningExpiry_warns (d := d) (by simpa [State.up] using up) (by simpa using deadline) (by simpa using due)

/-- Without a stranded step the watch after a boundary is the one of the tick, or takes its minute event. -/
theorem State.ticked_watch {b : State} (up : b.up = true) (still : b.tick.strandedStep = b.tick) :
    (b.time.lastPresented = some b.tick.localTime → b.ticked.watch = b.tick.watch)
      ∧ (b.time.lastPresented ≠ some b.tick.localTime →
        b.ticked.watch = (b.tick.watch.minute b.config b.time.elapsed b.time.timeSet b.tick.localTime).1) := by
  have there : b.tick.up = true := by rw [State.up, State.tick_pins]; exact up
  refine ⟨fun same => ?_, fun moved => ?_⟩
  · rw [State.ticked, still, State.presentIfMoved, if_pos (by rw [State.tick_time]; exact same)]
  · rw [State.ticked, still, State.presentIfMoved, if_neg (by rw [State.tick_time]; exact moved), State.presentMinute, if_pos there]
    dsimp only
    rw [State.takeMinute_minute, State.raiseWord_watch]
    simp only [State.tick_config, State.tick_time]

theorem strandedStep_of_noStrandedStep {s b : State} (up : s.up = true) (counted : CountedFrom s b) (not : NoStrandedStep s) :
    b.tick.strandedStep = b.tick := by
  refine State.strandedStep_none ?_
  have watch : b.watch = s.watch := by rw [counted.frame]
  rw [State.tick_time, counted.pendingStep, Watch.handover_iff, State.tick_watch_state, watch]
  obtain none | opened | signed | down := not
  · exact .inl none
  · exact .inr (.inl opened)
  · exact .inr (.inr signed)
  · rw [up] at down
    cases down

/-! ### The Store Controller's part of a tick (R126) -/

theorem periodicTicks_eq : Config.periodicTicks = 3600 := by decide

theorem State.storeTick_early {s : State} (early : s.store.periodic + 1 < 3600) :
    s.storeTick = { s with store := { s.store with periodic := s.store.periodic + 1 } } := by
  rw [State.storeTick, periodicTicks_eq, if_pos early]

theorem State.storeTick_late {s : State} (late : 3600 ≤ s.store.periodic + 1) :
    s.storeTick = ({ s with store := { s.store with periodic := 0 } } : State).trigger := by
  rw [State.storeTick, periodicTicks_eq, if_neg (Nat.not_lt.mpr late)]

/-- The Tally Engine and the watch before the Store Controller's part of a tick. -/
def State.beforeStore (b : State) : State := b.scannerTick.tallyTick.watchTick

theorem State.tick_store (b : State) : b.tick = b.beforeStore.storeTick ∧ b.beforeStore.store = b.store := by
  exact ⟨rfl, by simp [State.beforeStore]⟩

/-- A trigger in IDLE with nothing marked: the walk ends at once. -/
theorem State.trigger_nothing {s : State} (idle : s.store.walk = .idle) (none : NoneMarked s.tally 0) :
    s.trigger = { s with store := { s.store.begin .walking with walk := .idle } } := by
  rw [State.trigger_idle idle, State.goOn_passed (s := { s with store := s.store.begin .walking }) none,
    State.endWalk_idle (s := { s with store := s.store.begin .walking }) rfl rfl]

/-- A trigger in IDLE: the first marked image is captured where the port is free, and waited for where it is not. -/
theorem State.trigger_first {s : State} {j : Fin 32} (idle : s.store.walk = .idle) (first : FirstMarked s.tally 0 j) :
    s.trigger = if s.store.holder = .none then
        { s with
          tally := s.tally.setMark false j
          store := { s.store.begin .walking with index := j, write := some ⟨j, false, s.store.sequence, s.tally.contents j⟩ } }
      else { s with store := { s.store.begin .walking with index := j } } := by
  rw [State.trigger_idle idle]
  split
  case isTrue free => exact State.goOn_capture (s := { s with store := s.store.begin .walking }) first free
  case isFalse held => exact State.goOn_waits (s := { s with store := s.store.begin .walking }) first held

theorem Store.begin_eq (w : WalkState) (t : Store) : t.begin w =
    { t with walk := w, number := t.sequence, sequence := upTo Config.countTop t.sequence, index := 0, again := false } := by
  rw [Store.begin, satSucc_eq_upTo]

/-- A trigger in IDLE, but for the capture: the next number, and no walk-again mark. -/
theorem State.trigger_idle_store {s : State} (idle : s.store.walk = .idle) :
    s.trigger.store = { s.store with
        number := s.store.sequence, sequence := upTo Config.countTop s.store.sequence, again := false
        walk := s.trigger.store.walk, index := s.trigger.store.index, write := s.trigger.store.write }
      ∧ (NoneMarked s.tally 0 → s.trigger.store.index = 0) := by
  obtain none | ⟨j, first⟩ := exists_firstMarked s.tally 0
  · rw [State.trigger_nothing idle none, Store.begin_eq]
    exact ⟨rfl, fun _ => rfl⟩
  · refine ⟨?_, fun none => (firstMarked_not_none first none).elim⟩
    rw [State.trigger_first idle first, Store.begin_eq]
    split <;> rfl

/-- A state with its trigger count back at 0. -/
def State.countedOut (s : State) : State := { s with store := { s.store with periodic := 0 } }

/-- The periodic trigger, from each walk state. -/
theorem State.storeTick_final {s : State} (late : 3600 ≤ s.store.periodic + 1) (final : s.store.walk = .final ∨ s.store.walk = .held) :
    s.storeTick = { s with store := { s.store with periodic := 0 } } := by
  rw [State.storeTick_late late]
  exact State.trigger_final (s := s.countedOut) final

theorem State.storeTick_walking {s : State} (late : 3600 ≤ s.store.periodic + 1) (walking : s.store.walk = .walking) :
    s.storeTick = { s with store := { s.store with periodic := 0, again := true } } := by
  rw [State.storeTick_late late]
  exact State.trigger_walking (s := s.countedOut) walking

theorem State.storeTick_idle {s : State} (late : 3600 ≤ s.store.periodic + 1) (idle : s.store.walk = .idle) :
    s.storeTick.store = { s.store with
        periodic := 0, number := s.store.sequence, sequence := upTo Config.countTop s.store.sequence, again := false
        walk := s.storeTick.store.walk, index := s.storeTick.store.index, write := s.storeTick.store.write }
      ∧ (NoneMarked s.tally 0 → s.storeTick.store.index = 0)
      ∧ (StoreLaw s.store → NewWalk .walking .idle s.tally (decide (s.store.holder = .none)) s s.storeTick) := by
  obtain ⟨store, index⟩ := State.trigger_idle_store (s := s.countedOut) idle
  rw [State.storeTick_late late]
  exact ⟨store, index, fun law => newWalk_of_same ((State.trigger_triggered s.countedOut).1 idle law) rfl rfl rfl⟩

/-! ### CHECKPOINT (R131) -/

section Act

variable (c : Caller) {s : State}

theorem checkpointAct_busy (final : s.store.walk = .final ∨ s.store.walk = .held) : checkpointAct c s = answer .busy [] s := by
  obtain final | held := final
  · simp only [checkpointAct, final, refuse]
  · simp only [checkpointAct, held, refuse]

theorem checkpointAct_accepted (free : s.store.walk = .idle ∨ s.store.walk = .walking) :
    checkpointAct c s = answer .accepted s.trigger.walkBody s.trigger := by
  obtain idle | walking := free
  · simp only [checkpointAct, idle]
  · simp only [checkpointAct, walking]

end Act

/-! ### Marks (R125, R127) -/

theorem Tally.mark_unit (t : Tally) (b : Bool) (u : Fin 8) : t.marked (unitImage u) = t.dirty[u]
    ∧ t.contents (unitImage u) = .unit t.units[u] ∧ t.setMark b (unitImage u) = { t with dirty := t.dirty.set u b } := by
  simp only [Tally.marked, Tally.contents, Tally.setMark, imageRecord_unit, and_self]

theorem Tally.mark_held {t : Tally} {k : Fin 24} {a : Account} {d : Bool} (b : Bool) (held : t.accounts[k] = .held a d) :
    t.marked (accountImage k) = d ∧ t.contents (accountImage k) = .account a
      ∧ t.setMark b (accountImage k) = { t with accounts := t.accounts.set k (.held a b) } := by
  simp only [Tally.marked, Tally.contents, Tally.setMark, imageRecord_account, held, AccountSlot.marked, AccountSlot.setMark, and_self]

theorem Tally.mark_free {t : Tally} {k : Fin 24} {r : Bool} (b : Bool) (free : t.accounts[k] = .free r) :
    t.marked (accountImage k) = r ∧ t.contents (accountImage k) = .empty
      ∧ t.setMark b (accountImage k) = { t with accounts := t.accounts.set k (.free b) } := by
  simp only [Tally.marked, Tally.contents, Tally.setMark, imageRecord_account, free, AccountSlot.marked, AccountSlot.setMark, and_self]

end Sys2Proof.Machine

namespace Sys2Proof.Proofs

open Sys2Proof Sys2Proof.Machine Sys2Proof.Claim Sys2Proof.Safety

/-- Settles O27: the four ways a test injection ends are the Scanner's one. -/
theorem testInjectionEnds : Obligations.TestInjectionEnds := by
  refine ⟨fun h i s taken => ⟨fun line outside => ?badField, fun line => ⟨fun none => ?state, fun some => ?ok⟩⟩, fun s up => ?expiry,
    fun s line j up test due others => ?one, fun c s up counts => ?boundary⟩
  case badField => exact answers_of_act taken rfl fun c => cancelTestAct_badField c outside
  case state =>
    have not : ¬ (s.pass h.dt).lines[line].test.isSome = true := by
      rw [show (s.pass h.dt).lines[line].test = .none from none]
      decide
    exact answers_of_act taken rfl fun c => (cancelTestAct_inside c line).trans (if_neg not)
  case ok => exact answers_of_act taken rfl fun c => (cancelTestAct_inside c (s := s.pass h.dt) line).trans (if_pos some)
  case expiry =>
    have runs : exec .testExpiry s = .next s.scannerTick := by rw [exec, execTestExpiry, if_pos up]
    rw [State.scannerTick, State.endTests_eq] at runs
    refine ⟨_, runs, rfl, fun line => ?_⟩
    rw [getElem_ofFn_fin, LineState.withoutTest]
    simp only [← decide_not, Nat.not_le]
  case one =>
    have runs : exec .testExpiry s = .next s.scannerTick := by rw [exec, execTestExpiry, if_pos up]
    rw [runs, State.scannerTick, State.endTests_one (line := line)]
    · rw [test]
      simpa using due
    · intro k ne any
      obtain ⟨l, is, reached⟩ := (Option.any_eq_true _ _).mp any
      exact absurd (of_decide_eq_true reached) (Nat.not_le.mpr (others k l ne is))
  case boundary =>
    obtain ⟨b, t, runs, counted, switched⟩ := boundary_taken up counts
    have blocks := switched.blocks
    have clocks := switched.clocks up counted
    have lines : b.lines = s.lines := by rw [counted.frame]
    have trips : b.trips = s.trips := by rw [counted.frame]
    refine ⟨t, runs, fun line => ?_, fun source generation => ?_⟩
    · rw [blocks.lines, State.scannerTick, State.endTests_eq, getElem_ofFn_fin, LineState.withoutTest, clocks.elapsed, lines]
      simp only [← decide_not, Nat.not_le]
    · rw [blocks.trips, State.scannerTick, State.endTests_eq, clocks.elapsed, clocks.stamp source generation, lines, trips]

/-- Settles O50: the expiries as commands, in the tick, and the minute event behind it. -/
theorem handoverDeadlines : Obligations.HandoverDeadlines := by
  refine ⟨fun s up => ⟨fun d deadline due => ?_, fun d deadline due => ?_, fun stands => ?_, fun stands => ?_⟩, fun c s up counts => ?boundary⟩
  · rw [exec, execWarningDeadlineExpiry, if_pos up, State.warningExpiry_due up deadline due]
  · rw [exec, execWindowDeadlineExpiry, if_pos up, State.windowExpiry_due deadline due]
  · rw [exec, execWarningDeadlineExpiry, if_pos up, State.warningExpiry_stands stands]
  · rw [exec, execWindowDeadlineExpiry, if_pos up, State.windowExpiry_stands stands]
  case boundary =>
    obtain ⟨b, t, runs, counted, switched⟩ := boundary_taken up counts
    have blocks := switched.blocks
    have clocks := switched.clocks up counted
    have there : b.up = true := by rw [State.up, counted.frame]; exact up
    have watch : b.watch = s.watch := by rw [counted.frame]
    refine ⟨t, runs, clocks.elapsed.trans counted.elapsed, clocks.presented, fun not => ?_⟩
    have still := strandedStep_of_noStrandedStep up counted not
    have shown : t.localTime = b.tick.localTime := by rw [clocks.localTime, still]
    obtain ⟨unmoved, moved⟩ := State.ticked_watch there still
    rw [counted.lastPresented, ← shown, State.tick_watch, watch, ← clocks.elapsed] at unmoved moved
    refine ⟨fun d deadline due => ?_, fun same => ?_, fun other => ?_⟩
    · refine blocks.raised.keeps (State.tick_warns there (d := d) (by rw [watch]; exact deadline) ?_)
      rw [← clocks.elapsed]
      exact due
    · rw [blocks.watch, unmoved same]
      rfl
    · rw [blocks.watch, moved other, State.takeMinute_minute, State.raiseWord_watch]
      have set : t.time.timeSet = b.time.timeSet := by
        rw [switched.timeSet, (State.ticked_time there).timeSet, still, State.tick_time]
      simp only [blocks.config, set]
      rfl

/-- Settles O41: CHECKPOINT, the periodic trigger and the counted boundary are the one trigger; the marks are those of the records. -/
theorem checkpointTriggers : Obligations.CheckpointTriggers := by
  refine ⟨⟨fun h i s taken => ⟨fun final => ?busy, fun walking => ?again, fun idle none => ?ends, fun j idle marked lowest => ?first⟩,
    fun s up late => ?periodic, fun c s up counts => ?boundary⟩, fun t b =>
      ⟨t.mark_unit b, fun k a d held => Tally.mark_held b held, fun k r free => Tally.mark_free b free⟩⟩
  case busy => exact answers_of_act taken rfl fun c => checkpointAct_busy c (s := s.pass h.dt) final
  case again =>
    refine answers_of_act taken rfl fun c => (checkpointAct_accepted c (s := s.pass h.dt) (.inr walking)).trans ?_
    rw [State.trigger_walking (s := s.pass h.dt) walking]
    rfl
  case ends =>
    refine answers_of_act taken rfl fun c => (checkpointAct_accepted c (s := s.pass h.dt) (.inl idle)).trans ?_
    rw [State.trigger_nothing (s := s.pass h.dt) idle fun k _ => none k, Store.begin_eq]
    rfl
  case first =>
    refine answers_of_act taken rfl fun c => (checkpointAct_accepted c (s := s.pass h.dt) (.inl idle)).trans ?_
    rw [State.trigger_first (s := s.pass h.dt) idle ⟨Nat.zero_le _, marked, fun k _ lt => lowest k lt⟩, Store.begin_eq]
    rfl
  case periodic =>
    have runs : exec .periodicTrigger s = .next s.storeTick := by
      rw [exec, execPeriodicTrigger, if_pos (by simp [up, periodicTicks_eq, late])]
    rw [runs]
    refine ⟨fun final => by rw [State.storeTick_final late final], fun walking => by rw [State.storeTick_walking late walking],
      fun idle => ⟨_, rfl, ?_, State.storeTick_idle late idle⟩⟩
    rw [State.storeTick_late late]
    exact State.trigger_eq _
  case boundary =>
    obtain ⟨b, t, runs, counted, switched⟩ := boundary_taken up counts
    have store : t.store = b.beforeStore.storeTick.store := switched.blocks.store
    have before : b.beforeStore.store = s.store := by rw [b.tick_store.2, counted.frame]
    refine ⟨t, runs, ?_⟩
    rw [store, ← before]
    refine ⟨fun early => by rw [State.storeTick_early early], fun late => ⟨fun final => by rw [State.storeTick_final late final],
      fun walking => by rw [State.storeTick_walking late walking], fun idle => ?_⟩⟩
    have fresh := (State.storeTick_idle late idle).1
    exact ⟨by rw [fresh], by rw [fresh], by rw [fresh], by rw [fresh]⟩

end Sys2Proof.Proofs
end

section
/-! ## The losses of the supplies and the reset line, and what the part takes while it is off, in reset or waiting (R20, R136, R174, R179, R182) -/

namespace Sys2Proof.Machine

open Sys2Proof Sys2Proof.Claim Sys2Proof.Safety

/-! ### The blocks stop -/

/-- The tally store stopped: a write in progress is cut off with what the array retained, and no walk stands (R136). -/
def Store.stopped (image : Image) (config : ConfigImage) (t : Store) : Store :=
  { t with
    images := match t.write with
      | some w => t.images.set w.image image
      | none => t.images
    configImage := match t.configWrite with
      | some (.writing _ _) => config
      | _ => t.configImage
    walk := .idle, again := false, write := none, finalDue := false, configWrite := none }

/-- The record of a write cut off is marked again (R136). -/
def Tally.cutOff (t : Tally) : Option ImageWrite → Tally
  | some w => t.setMark true w.image
  | none => t

theorem State.stopBlocks_eq (image : Image) (config : ConfigImage) (s : State) : s.stopBlocks image config =
    { s with
      store := s.store.stopped image config, tally := s.tally.cutOff s.store.write
      port := { s.port with slots := Vector.replicate 2 .free } } := by
  rw [State.stopBlocks, State.stopPort, State.stopStore, Store.stopped, Tally.cutOff.eq_def]
  cases s.store.write <;> rfl

theorem TimeBase.powerLost_running {t : TimeBase} (running : t.crystalRunning = true) : t.powerLost =
    { t with
      outageMark := some t.elapsed, target := none, rcHeld := false, refQualified := false, anchor := none, goodRun := 0, badRun := 0
      source := .xtal, holdover := if t.source = .ref then 0 else t.holdover } := by
  rw [TimeBase.powerLost, if_pos running]

theorem TimeBase.powerLost_stopped {t : TimeBase} (stopped : t.crystalRunning = false) : t.powerLost =
    { t with
      outageMark := some t.elapsed, target := none, rcHeld := false, refQualified := false, anchor := none, goodRun := 0, badRun := 0
      backupLost := true } := by
  rw [TimeBase.powerLost, if_neg (by simp [stopped])]

/-! ### The Time Base alone, while the blocks are down -/

/-- What follows a move of the Time Base written out. -/
theorem Beside.after {s t u : State} (later : Beside t u) (first : Beside s t := by exact .of_time _ _) : Beside s u := first.trans later

/-- An event raised of a Time Base set. -/
theorem Beside.raised {s : State} (t : TimeBase) (e : Event) : Beside s (({ s with time := t } : State).raise e) := by
  refine ⟨by simp, by simp, by simp, by simp, fun down => ?_⟩
  rw [State.raise_down e (s := { s with time := t }) down]

theorem State.refFailure_beside (s : State) : Beside s s.refFailure := by
  unfold State.refFailure
  dsimp only
  split
  · exact .raised _ _
  · exact .of_time _ _

/-- A count and the completion at it. -/
theorem State.countAndComplete_beside (n : Nat) (aligned : Bool) (s : State) : Beside s (s.countBoundary n aligned).completeOnBoundary :=
  (State.countBoundary_beside _ _ _).trans (State.completeOnBoundary_beside _)

theorem State.goodPulse_beside (s : State) : Beside s s.goodPulse := by
  unfold State.goodPulse
  dsimp only
  split
  · exact .after (State.countAndComplete_beside _ _ _)
  · split
    · exact .after (State.completeToRef_beside _)
    · split
      · exact .after (State.completeToRef_beside _)
      · exact .of_time _ _

theorem State.badPulse_beside (s : State) : Beside s s.badPulse := by
  unfold State.badPulse
  dsimp only
  split
  · exact .after (State.refFailure_beside _)
  · exact .of_time _ _

theorem State.pulse_beside (s : State) : Beside s s.pulse := by
  unfold State.pulse
  split
  · exact .of_time _ _
  · dsimp only
    split
    · exact .after (State.goodPulse_beside _)
    · exact .after (State.badPulse_beside _)

theorem State.crystalReady_beside (s : State) : Beside s s.crystalReady := by
  unfold State.crystalReady
  dsimp only
  split
  · split
    · exact .after (State.completeSwitch_beside _)
    · split
      · exact .of_time _ _
      · exact .raised _ _
  · exact .of_time _ _

theorem State.crystalStop_beside (s : State) : Beside s s.crystalStop := by
  unfold State.crystalStop
  dsimp only
  split
  · split
    · exact .raised _ _
    · exact .of_time _ _
  · exact .of_time _ _

/-- The events of the Time Base. -/
theorem exec_beside {c : Instr} {s t : State} (dt : Nat) (runs : exec c s = .next t)
    (event : c ∈ [.refPulse dt, .absenceLimitExpiry, .flywheelBoundary, .secondBoundary, .backupBoundary, .crystalReady dt, .crystalStop dt]) :
    Beside s t := by
  simp only [List.mem_cons, List.not_mem_nil, or_false] at event
  obtain rfl | rfl | rfl | rfl | rfl | rfl | rfl := event <;> cases runs
  case inl.refl =>
    split
    · exact .after (State.pulse_beside (s.pass dt))
    · exact .of_time _ _
  case inr.inl.refl =>
    split
    · exact .after (State.refFailure_beside (s.reach _))
    · exact .of_time s s.time
  case inr.inr.inl.refl =>
    split
    · split
      · exact .after (State.countAndComplete_beside _ _ (s.reach _))
      · exact .of_time s s.time
    · exact .of_time s s.time
  case inr.inr.inr.inl.refl =>
    split
    · exact .after (State.countAndComplete_beside _ _ (s.reach _))
    · exact .of_time s s.time
  case inr.inr.inr.inr.inl.refl =>
    split
    · exact .of_time _ _
    · exact .of_time s s.time
  case inr.inr.inr.inr.inr.inl.refl =>
    split
    · exact .of_time _ _
    · exact .after (State.crystalReady_beside (s.pass dt))
  case inr.inr.inr.inr.inr.inr.refl => exact .after (State.crystalStop_beside (s.pass dt))

end Sys2Proof.Machine

namespace Sys2Proof.Proofs

open Sys2Proof Sys2Proof.Machine Sys2Proof.Claim Sys2Proof.Safety

/-- Settles O51: each loss by the branch that its supplies pick, and the events of a part that is down by the condition they fail. -/
theorem suppliesAndReset : Obligations.SuppliesAndReset := by
  intro dt image config s
  refine ⟨fun timeUp running => ?onCrystal, fun timeUp stopped => ?noCrystal, fun main waits => ?waiting, fun off => ?off,
    fun off => ?bothLost, fun main => ?backupLost, fun up => ?resetUp, fun down => ?resetDown, fun down => ?isDown⟩
  case onCrystal =>
    rw [exec, execMainPowerLost, if_pos (by exact timeUp), State.stopBlocks_eq]
    dsimp only
    rw [TimeBase.powerLost_running (t := (s.pass dt).time) running]
    rfl
  case noCrystal =>
    rw [exec, execMainPowerLost, if_pos (by exact timeUp), State.stopBlocks_eq]
    dsimp only
    rw [TimeBase.powerLost_stopped (t := (s.pass dt).time) stopped]
    rfl
  case waiting =>
    have timeDown : (s.pass dt).timeUp = false := by
      simp only [State.timeUp, State.pass, ← Option.not_isSome, waits, Bool.not_true, Bool.and_false]
    rw [exec, execMainPowerLost, if_neg (by simp [timeDown]), if_pos (by exact main)]
    rfl
  case off =>
    have timeDown : (s.pass dt).timeUp = false := by simp only [State.timeUp, State.pass, off, Bool.false_and]
    rw [exec, execMainPowerLost, if_neg (by simp [timeDown]), if_neg (by simp [State.pass, off])]
  case bothLost => simp [exec, execBackupSupplyLost, Pins.loseBackup, State.pass, off]
  case backupLost => simp [exec, execBackupSupplyLost, Pins.loseBackup, State.pass, main]
  case resetUp =>
    rw [exec, execResetLineAsserted, if_pos (by exact up), State.stopBlocks_eq]
    rfl
  case resetDown =>
    rw [exec, execResetLineAsserted, if_neg (by exact Bool.eq_false_iff.mp down)]
    rfl
  case isDown =>
    have not : ¬ s.up = true := Bool.eq_false_iff.mp down
    have passed : ¬ (s.pass dt).up = true := not
    have warned : ∀ asserted, ¬ ((s.pass dt).setWarning asserted).up = true := fun _ => not
    have transfers : ∀ n, (s.pass dt).idleTransfer n =
        if s.pins.mainPower then { s.pass dt with port := { s.port with dataOut := List.replicate n 0#8 } } else s.pass dt := fun _ => rfl
    refine ⟨fun levels first => ?_, fun lines => ?_, fun verify => ?_, fun verify => ?_, ?_, ?_, ?_, ?_, ?_, ?_, fun bytes => ?_,
      fun clocked => ?_, fun code clocked => ?_, fun c t event runs => (exec_beside dt runs event).down down⟩
    · rw [exec, execTripLineSample, if_neg passed]
    · rw [exec, execModeLineSample, if_neg passed]
    · rw [exec, execImageWriteEnd, if_neg passed]
    · rw [exec, execConfigWriteEnd, if_neg passed]
    · rw [exec, execTestExpiry, if_neg not]
    · rw [exec, execPeriodicTrigger, if_neg (by simp [down])]
    · rw [exec, execWarningDeadlineExpiry, if_neg not]
    · rw [exec, execWindowDeadlineExpiry, if_neg not]
    · rw [exec, execPowerFailWarning, if_neg (by simp [warned])]
      rfl
    · rw [exec, execWarningReleased, if_neg (by simp [warned])]
      rfl
    · rw [exec, execSend, if_neg passed, transfers]
    · rw [exec, execCollect, if_neg passed, transfers]
    · rw [exec, execStatusPoll, if_neg passed, transfers]

end Sys2Proof.Proofs
end

section
/-! ## Accrual: the second tick of the Tally Engine (R87, R88, R90, R107, R111, R112) -/

namespace Sys2Proof.Machine

open Sys2Proof Sys2Proof.Claim Sys2Proof.Safety

/-! ### Saturating counts -/

theorem satAdd_of_le {top n : Nat} (le : n ≤ top) (k : Nat) : satAdd top n k = min top (n + k) := by
  unfold satAdd
  split <;> omega

theorem le_satAdd (top n k : Nat) : n ≤ satAdd top n k := by
  unfold satAdd
  split <;> omega

/-! ### A change of bound accounts, slot by slot -/

theorem accountAt_some {s : State} {k : Fin 24} {a : Account} (found : accountAt s k = some a) : ∃ d, s.tally.accounts[k] = .held a d := by
  unfold accountAt at found
  split at found
  case h_1 => cases found
  case h_2 b d slot =>
    cases found
    exact ⟨d, slot⟩

section OnBound

variable {f : Fin 8 → AccountClass → Option (Account → Account × Word32)}

theorem AccountSlot.onBound_free (r : Bool) : (AccountSlot.free r).onBound f = (.free r, 0#32) := rfl

theorem AccountSlot.onBound_changed {a : Account} {l : LiveFields} {g : Account → Account × Word32} (d : Bool) (live : a.live = some l)
    (found : (l.bound.bind fun u => f u l.cls) = some g) :
    (AccountSlot.held a d).onBound f = (.held (g a).1 (d || decide ((g a).1 ≠ a)), (g a).2) := by
  simp only [AccountSlot.onBound, live, found]

theorem AccountSlot.onBound_kept {a : Account} (d : Bool)
    (none : ∀ l : LiveFields, a.live = some l → (l.bound.bind fun u => f u l.cls) = none) :
    (AccountSlot.held a d).onBound f = (.held a d, 0#32) := by
  cases live : a.live with
  | none => simp only [AccountSlot.onBound, live]
  | some l => simp only [AccountSlot.onBound, live, none l live]

/-- The marks of two slots of one account: a mark set stands, and a change sets it. -/
def AccountSlot.MarksChange : AccountSlot → AccountSlot → Prop
  | .held a d, .held b e => e = (d || decide (b ≠ a))
  | .free r, .free q => q = r
  | _, _ => False

theorem AccountSlot.MarksChange.refl (x : AccountSlot) : x.MarksChange x := by
  cases x <;> simp [AccountSlot.MarksChange]

theorem AccountSlot.onBound_marks (x : AccountSlot) : x.MarksChange (x.onBound f).1 := by
  cases x with
  | free r => rfl
  | held a d =>
    by_cases none : ∀ l : LiveFields, a.live = some l → (l.bound.bind fun u => f u l.cls) = none
    · rw [AccountSlot.onBound_kept d none]
      exact .refl _
    · push Not at none
      obtain ⟨l, live, changes⟩ := none
      obtain ⟨g, found⟩ := Option.ne_none_iff_exists'.mp changes
      rw [AccountSlot.onBound_changed d live found]
      rfl

theorem marksChanges_iff {x y : Tally} : MarksChanges x y ↔ (∀ u : Fin 8, y.dirty[u] = (x.dirty[u] || decide (y.units[u] ≠ x.units[u])))
    ∧ ∀ k : Fin 24, x.accounts[k].MarksChange y.accounts[k] := by
  unfold MarksChanges
  refine and_congr_right fun _ => forall_congr' fun k => ?_
  cases x.accounts[k] <;> cases y.accounts[k] <;> rfl

theorem or_keeps {w v : Word32} (x : Word32) (contains : w &&& v = v) : (w ||| x) &&& v = v := by
  rw [BitVec.and_comm, BitVec.and_or_distrib_left, BitVec.and_comm v w, contains, or_and_absorb]

theorem or_contains (w v : Word32) : (w ||| v) &&& v = v := by
  rw [BitVec.or_comm]
  exact or_keeps w (BitVec.and_self)

theorem foldl_or_keeps {α : Type} (f : α → Word32) (l : List α) {w v : Word32} (contains : w &&& v = v) :
    (l.foldl (fun w a => w ||| f a) w) &&& v = v := by
  induction l generalizing w with
  | nil => exact contains
  | cons a l ih => exact ih (or_keeps _ contains)

theorem foldl_or_contains {α : Type} (f : α → Word32) {x : α} {l : List α} (mem : x ∈ l) (w : Word32) :
    (l.foldl (fun w a => w ||| f a) w) &&& f x = f x := by
  induction l generalizing w with
  | nil => cases mem
  | cons a l ih =>
    obtain rfl | mem := List.mem_cons.mp mem
    · exact foldl_or_keeps f l (or_contains _ _)
    · exact ih mem _

theorem State.onBound_latched {s : State} (up : s.up = true) : (s.onBound f).port.latched =
    s.port.latched ||| (List.finRange 24).foldl (fun w k => w ||| (s.tally.accounts[k].onBound f).2) 0#32 := by
  unfold State.onBound State.raiseWord
  dsimp only
  split
  case isTrue => rfl
  case isFalse down =>
    rw [State.up] at up down
    exact absurd up down

/-- What an account's change raises is latched. -/
theorem State.onBound_raised {s : State} (up : s.up = true) (k : Fin 24) :
    (s.onBound f).port.latched &&& (s.tally.accounts[k].onBound f).2 = (s.tally.accounts[k].onBound f).2 := by
  have raised := or_keeps s.port.latched
    (foldl_or_contains (fun i : Fin 24 => (s.tally.accounts[i].onBound f).2) (List.mem_finRange k) 0#32)
  rw [BitVec.or_comm] at raised
  rw [State.onBound_latched up]
  exact raised

theorem State.onBound_tally (s : State) : (s.onBound f).tally =
    { s.tally with accounts := Vector.ofFn fun k : Fin 24 => (s.tally.accounts[k].onBound f).1 } := by
  simp [State.onBound]

end OnBound

/-! ### One second of a bound account (R107) -/

theorem accrueSecond_eq {a : Account} {l : LiveFields} (cfg : LiveConfig) (c : AccountClass) (m : RunMode) (live : a.live = some l)
    (range : a.figures.equivalent ≤ Config.elapsedTop) :
    let parts := a.fraction + perClassMode cfg.runWeight c m
    let equivalent := min Config.elapsedTop (a.figures.equivalent + parts / 256)
    accrueSecond cfg c m a = ({ a with
      figures := { a.figures with run := a.figures.run.add m 1, equivalent := equivalent }, fraction := parts % 256
      live := some { l with service := serviceOf equivalent l } }, serviceEvents l.service (serviceOf equivalent l)) := by
  intro parts equivalent
  have earned : satAdd Config.elapsedTop a.figures.equivalent (parts / 256) = equivalent := satAdd_of_le range _
  rw [accrueSecond, Account.evaluate_eq (l := l) (by exact live)]
  simp only [Account.earnParts, Account.earn, earned, parts]

/-! ### The second tick, unit by unit and slot by slot (R88, R90) -/

theorem State.tallyTick_unit (s : State) (u : Fin 8) :
    s.tallyTick.tally.units[u] = tickCounts s.tally.freeze s.units[u] s.tally.units[u]
      ∧ s.tallyTick.tally.side[u] = tickSide s.tally.freeze s.units[u] s.tally.side[u] := by
  rw [State.tallyTick, State.onBound_tally]
  simp only [Tally.changeUnits]
  exact ⟨getElem_ofFn_fin _ u, getElem_ofFn_fin _ u⟩

theorem State.tallyTick_slot (s : State) (k : Fin 24) : s.tallyTick.tally.accounts[k] =
    (s.tally.accounts[k].onBound (tickAccount s.config s.tally.freeze s.units)).1 := by
  rw [State.tallyTick, State.onBound_slot]
  rfl

theorem State.tallyTick_raised {s : State} (up : s.up = true) (k : Fin 24) :
    let w := (s.tally.accounts[k].onBound (tickAccount s.config s.tally.freeze s.units)).2
    s.tallyTick.port.latched &&& w = w := by
  rw [State.tallyTick]
  exact State.onBound_raised (by exact up) k

theorem State.tallyTick_serial (s : State) : s.tallyTick.tally.serial = s.tally.serial := by
  rw [State.tallyTick, State.onBound_tally]
  rfl

theorem State.tallyTick_marks (s : State) : MarksChanges s.tally s.tallyTick.tally := by
  refine marksChanges_iff.mpr ⟨fun u => ?_, fun k => ?_⟩
  · rw [(s.tallyTick_unit u).1, State.tallyTick, State.onBound_tally]
    simp only [Tally.changeUnits]
    exact getElem_ofFn_fin _ u
  · rw [State.tallyTick_slot]
    exact AccountSlot.onBound_marks _

/-- What the tick makes of a tally depends on the configuration, the units and the tally alone. -/
theorem State.tallyTick_of_same {s t : State} (config : t.config = s.config) (units : t.units = s.units) (tally : t.tally = s.tally) :
    t.tallyTick.tally = s.tallyTick.tally := by
  simp only [State.tallyTick, State.onBound_tally, config, units, tally]

theorem running_ne {m : UnitMode} {r : RunMode} (running : m.running = some r) : m ≠ .stopped ∧ m ≠ .conflict := by
  cases m <;> simp [UnitMode.running] at running ⊢

theorem running_none {m : UnitMode} (not : ¬ Running m) : m.running = none := by
  cases m <;> simp [UnitMode.running, Running] at not ⊢

section Tick

variable {f : Bool} {b : UnitTrack}

theorem tick_running {m : RunMode} (settled : b.settled = true) (running : b.mode.running = some m) (c : UnitCounts) (e : SideEntry) :
    tickCounts f b c = (if f then c else { c with run := c.run.add m 1 })
      ∧ tickSide f b e = if f then { e with run := e.run.add m 1 } else e := by
  cases f <;> simp [tickCounts, tickSide, settled, running]

theorem tick_conflict (settled : b.settled = true) (conflict : b.mode = .conflict) (c : UnitCounts) (e : SideEntry) :
    tickCounts f b c = (if f then c else { c with conflict := satAdd Config.countTop c.conflict 1 })
      ∧ tickSide f b e = if f then { e with conflict := satAdd Config.countTop e.conflict 1 } else e := by
  cases f <;> simp [tickCounts, tickSide, settled, conflict, UnitMode.running, count1]

theorem tick_unsettled (unsettled : b.settled = false) (runs : b.mode ≠ .stopped) (c : UnitCounts) (e : SideEntry) :
    tickCounts f b c = { c with unobserved := satAdd Config.countTop c.unobserved 1 } ∧ tickSide f b e = e := by
  simp [tickCounts, tickSide, unsettled, runs, count1]

theorem tick_stopped (stopped : b.mode = .stopped) (c : UnitCounts) (e : SideEntry) : tickCounts f b c = c ∧ tickSide f b e = e := by
  cases f <;> simp [tickCounts, tickSide, stopped, UnitMode.running]

end Tick

/-- An account bound to no settled running unit, or in a freeze, does not accrue. -/
theorem tickAccount_none {cfg : LiveConfig} {f : Bool} {units : Vector UnitTrack 8} {l : LiveFields}
    (idle : ∀ u : Fin 8, l.bound = some u → units[u].settled = false ∨ ¬ Running units[u].mode ∨ f = true) :
    (l.bound.bind fun u => tickAccount cfg f units u l.cls) = none := by
  cases bound : l.bound with
  | none => rfl
  | some u =>
    rw [Option.bind_some, tickAccount]
    obtain unsettled | still | frozen := idle u bound
    · simp only [unsettled, Bool.false_and, Bool.false_eq_true, if_false]
    · simp only [running_none still, Option.map_none, ite_self]
    · simp only [frozen, Bool.not_true, Bool.and_false, Bool.false_eq_true, if_false]

theorem tickAccount_some {cfg : LiveConfig} {units : Vector UnitTrack 8} {l : LiveFields} {u : Fin 8} {m : RunMode} (bound : l.bound = some u)
    (settled : units[u].settled = true) (running : units[u].mode.running = some m) :
    (l.bound.bind fun u => tickAccount cfg false units u l.cls) = some (accrueSecond cfg l.cls m) := by
  rw [bound, Option.bind_some, tickAccount, settled, running]
  rfl

/-! ### The tally after a counted boundary -/

/-- The Tally Engine's part of a boundary, and the Store Controller's behind it. -/
structure Tallied (s u t : State) : Prop where
  tally : u.tally = s.tallyTick.tally
  store : u.store = s.store
  ticked : t.tally = u.storeTick.tally
  stored : t.store = u.storeTick.store
  raised : s.up = true → ∀ k : Fin 24, let w := (s.tally.accounts[k].onBound (tickAccount s.config s.tally.freeze s.units)).2
    t.port.latched &&& w = w

theorem State.afterTally_raised (u : State) : u.port.Raised u.watchTick.storeTick.port := by
  have quiet := quiet_byTime u
  rw [State.watchTick]
  exact (quiet.storeTick _ (quiet.windowExpiry _ (quiet.warningExpiry _ (.refl _)))).1

theorem Blocks.tallied {s b t : State} (counted : CountedFrom s b) (blocks : Blocks b t) : Tallied s b.beforeStore t := by
  have config : b.scannerTick.config = s.config := by rw [State.scannerTick_config, counted.frame]
  have units : b.scannerTick.units = s.units := by rw [State.scannerTick_units, counted.frame]
  have tally : b.scannerTick.tally = s.tally := by rw [State.scannerTick_tally, counted.frame]
  have pins : b.scannerTick.pins = s.pins := by rw [State.scannerTick_pins, counted.frame]
  refine ⟨?_, by rw [b.tick_store.2, counted.frame], blocks.tally, blocks.store, fun up k => ?_⟩
  · rw [State.beforeStore, State.watchTick_tally]
    exact State.tallyTick_of_same config units tally
  · have latched := State.tallyTick_raised (s := b.scannerTick) (by rw [State.up, pins]; exact up) k
    rw [config, units, tally] at latched
    have raised := blocks.raised
    rw [State.tick] at raised
    exact raised.keeps ((State.afterTally_raised _).keeps latched)

theorem State.storeTick_same (s : State) : s.storeTick.tally.units = s.tally.units ∧ s.storeTick.tally.side = s.tally.side
    ∧ s.storeTick.tally.freeze = s.tally.freeze ∧ s.storeTick.tally.serial = s.tally.serial
    ∧ ∀ k : Fin 24, s.storeTick.tally.accounts[k].account = s.tally.accounts[k].account := by
  unfold State.storeTick
  split
  · exact ⟨rfl, rfl, rfl, rfl, fun _ => rfl⟩
  · obtain ⟨units, side, freeze, serial, accounts, -⟩ := State.trigger_same { s with store := { s.store with periodic := 0 } }
    exact ⟨units, side, freeze, serial, accounts⟩

/-- Only the periodic trigger in IDLE moves the marks. -/
theorem State.storeTick_noWalk {s : State} (not : ¬ (3600 ≤ s.store.periodic + 1 ∧ s.store.walk = .idle)) : s.storeTick.tally = s.tally := by
  by_cases late : 3600 ≤ s.store.periodic + 1
  · have busy : s.store.walk ≠ .idle := fun idle => not ⟨late, idle⟩
    cases walk : s.store.walk with
    | idle => exact absurd walk busy
    | walking => rw [State.storeTick_walking late walk]
    | final => rw [State.storeTick_final late (.inl walk)]
    | held => rw [State.storeTick_final late (.inr walk)]
  · rw [State.storeTick_early (Nat.lt_of_not_le late)]

/-- All but the marks is as the Tally Engine leaves it. -/
theorem Tallied.records {s u t : State} (tallied : Tallied s u t) :
    t.tally.units = s.tallyTick.tally.units ∧ t.tally.side = s.tallyTick.tally.side ∧ t.tally.freeze = s.tally.freeze
      ∧ t.tally.serial = s.tally.serial ∧ ∀ k : Fin 24, accountAt t k =
        ((s.tally.accounts[k].onBound (tickAccount s.config s.tally.freeze s.units)).1).account := by
  obtain ⟨units, side, freeze, serial, account⟩ := u.storeTick_same
  rw [tallied.tally] at units side freeze serial account
  refine ⟨by rw [tallied.ticked, units], by rw [tallied.ticked, side], by rw [tallied.ticked, freeze, State.tallyTick_freeze],
    by rw [tallied.ticked, serial, State.tallyTick_serial], fun k => ?_⟩
  rw [accountAt_eq, tallied.ticked, account, State.tallyTick_slot]

end Sys2Proof.Machine

namespace Sys2Proof.Proofs

open Sys2Proof Sys2Proof.Machine Sys2Proof.Claim Sys2Proof.Safety

/-- Settles O34: the second tick of the Tally Engine, and the periodic walk that may begin behind it. -/
theorem secondTickAccrues : Obligations.SecondTickAccrues := by
  intro c s up counts
  obtain ⟨b, t, runs, counted, switched⟩ := boundary_taken up counts
  have blocks := switched.blocks
  have tallied := blocks.tallied counted
  obtain ⟨units, side, freeze, serial, account⟩ := tallied.records
  refine ⟨t, runs, by rw [blocks.units, counted.frame], by rw [blocks.config, counted.frame], freeze, fun u => ?unit,
    fun k a l found live => ⟨fun u m bound settled running thawed range => ?accrues, fun idle => ?rests⟩,
    fun k a found lost => ?lost, fun k free => ?free, fun law => ?store⟩
  case unit =>
    obtain ⟨counts', side'⟩ := s.tallyTick_unit u
    rw [units, side, counts', side']
    refine ⟨fun settled m running => ?_, fun settled conflict => ?_, fun unsettled runs => tick_unsettled unsettled runs _ _, fun stopped => tick_stopped stopped _ _⟩
    · obtain ⟨counted, entered⟩ := tick_running (f := s.tally.freeze) settled running s.tally.units[u] s.tally.side[u]
      rw [counted, entered]
      exact ⟨fun thawed => by simp [thawed], fun frozen => by simp [frozen]⟩
    · obtain ⟨counted, entered⟩ := tick_conflict (f := s.tally.freeze) settled conflict s.tally.units[u] s.tally.side[u]
      rw [counted, entered]
      exact ⟨fun thawed => by simp [thawed], fun frozen => by simp [frozen]⟩
  case accrues =>
    obtain ⟨d, slot⟩ := accountAt_some found
    have changed := AccountSlot.onBound_changed d live (tickAccount_some (cfg := s.config) (units := s.units) bound settled running)
    have latched := tallied.raised up k
    rw [thawed, slot, changed] at latched
    rw [account, thawed, slot, changed]
    rw [accrueSecond_eq s.config l.cls m live range] at latched ⊢
    exact ⟨_, rfl, rfl, rfl, rfl, rfl, latched⟩
  case rests =>
    obtain ⟨d, slot⟩ := accountAt_some found
    rw [account, slot, AccountSlot.onBound_kept d fun l' live' => ?_]
    · rfl
    · cases live.symm.trans live'
      exact tickAccount_none idle
  case lost =>
    obtain ⟨d, slot⟩ := accountAt_some found
    rw [account, slot, AccountSlot.onBound_kept d fun l' live' => ?_]
    · rfl
    · rw [lost] at live'
      cases live'
  case free =>
    rw [account]
    rw [accountAt_eq] at free
    cases slot : s.tally.accounts[k] with
    | free r => rfl
    | held a d =>
      rw [slot] at free
      cases free
  case store =>
    refine ⟨s.tallyTick.tally, s.tallyTick_marks, units.symm, side.symm, serial, ?_⟩
    split
    case isTrue new =>
      obtain ⟨-, -, walk⟩ := State.storeTick_idle (s := b.beforeStore) (by rw [tallied.store]; exact new.1) (by rw [tallied.store]; exact new.2)
      rw [tallied.tally, tallied.store] at walk
      exact newWalk_of_same (walk law) (by rw [tallied.store]) tallied.stored tallied.ticked
    case isFalse not => rw [tallied.ticked, State.storeTick_noWalk (by rw [tallied.store]; exact not), tallied.tally]

end Sys2Proof.Proofs
end

section
/-! ## The ends of writes: the port is returned (R128 to R130, R132, R134, R135, R175 to R177) -/

namespace Sys2Proof.Machine

open Sys2Proof Sys2Proof.Claim Sys2Proof.Safety

/-! ### A walk that goes on -/

theorem State.goOn_cases (s : State) (n : Nat) :
    (NoneMarked s.tally n ∧ s.goOn n = s.endWalk)
      ∨ (∃ j, FirstMarked s.tally n j ∧ s.store.holder = .none ∧ s.goOn n = s.capture j)
      ∨ ∃ j, FirstMarked s.tally n j ∧ s.store.holder ≠ .none ∧ s.goOn n = { s with store := { s.store with index := j } } := by
  obtain none | ⟨j, first⟩ := exists_firstMarked s.tally n
  · exact .inl ⟨none, State.goOn_passed none⟩
  · by_cases free : s.store.holder = .none
    · exact .inr (.inl ⟨j, first, free, State.goOn_capture first free⟩)
    · exact .inr (.inr ⟨j, first, free, State.goOn_waits first free⟩)

/-- What a walk under way leaves of the final walk due and, in WALKING, of the configuration write. -/
structure WalksOn (s t : State) : Prop where
  finalDue : t.store.finalDue = s.store.finalDue
  config : s.store.walk = .walking → t.store.configWrite = s.store.configWrite ∧ t.store.walk ≠ .final

theorem State.endWalk_walksOn (s : State) : WalksOn s s.endWalk := by
  cases walk : s.store.walk with
  | idle => simp only [State.endWalk, walk]; exact ⟨rfl, fun is => by rw [walk] at is; cases is⟩
  | held => simp only [State.endWalk, walk]; exact ⟨rfl, fun is => by rw [walk] at is; cases is⟩
  | final =>
    rw [State.endWalk_final walk]
    exact ⟨State.grantConfig_finalDue _, fun is => by rw [walk] at is; cases is⟩
  | walking =>
    cases again : s.store.again with
    | false => rw [State.endWalk_idle walk again]; exact ⟨rfl, fun _ => ⟨rfl, nofun⟩⟩
    | true =>
      rw [State.endWalk_again walk again]
      obtain ⟨-, eq⟩ | ⟨j, -, -, eq⟩ | ⟨j, -, -, eq⟩ := ({ s with store := s.store.begin .walking } : State).goOn_cases 0
      · rw [eq, State.endWalk_idle (s := { s with store := s.store.begin .walking }) rfl rfl]
        exact ⟨rfl, fun _ => ⟨rfl, nofun⟩⟩
      · rw [eq]; exact ⟨rfl, fun _ => ⟨rfl, nofun⟩⟩
      · rw [eq]; exact ⟨rfl, fun _ => ⟨rfl, nofun⟩⟩

theorem State.goOn_walksOn (n : Nat) (s : State) : WalksOn s (s.goOn n) := by
  obtain ⟨-, eq⟩ | ⟨j, -, -, eq⟩ | ⟨j, -, -, eq⟩ := s.goOn_cases n
  · rw [eq]; exact s.endWalk_walksOn
  · rw [eq]; exact ⟨rfl, fun walk => ⟨rfl, by rw [State.capture]; simp [walk]⟩⟩
  · rw [eq]; exact ⟨rfl, fun walk => ⟨rfl, by simp [walk]⟩⟩

/-! ### The port granted (R134) -/

/-- The configuration write after the port is free: one that waits is granted, and captures the live configuration. -/
def State.granted (s : State) : Option ConfigWrite :=
  if s.store.configWrite = some .waiting then some (.writing false (.write s.config)) else s.store.configWrite

theorem State.grantConfig_free {s : State} (free : s.store.holder = .none) (walk : s.store.walk ≠ .final) :
    s.grantConfig.store.configWrite = s.granted := by
  unfold State.grantConfig State.granted Store.configWaiting
  by_cases waits : s.store.configWrite = some .waiting
  · rw [if_pos (by simp [waits, free, walk]), if_pos waits]
  · rw [if_neg (by simp [waits]), if_neg waits]

theorem State.grantConfig_final {s : State} (walk : s.store.walk = .final) : s.grantConfig = s := by
  rw [State.grantConfig, if_neg (by simp [walk])]

/-- A final walk grants the port where it ends. -/
theorem State.goOn_final {s : State} (n : Nat) (free : s.store.holder = .none) (walk : s.store.walk = .final) :
    (s.goOn n).store.configWrite = if (s.goOn n).store.walk = .final then s.store.configWrite else s.granted := by
  obtain ⟨-, eq⟩ | ⟨j, -, -, eq⟩ | ⟨j, -, held, -⟩ := s.goOn_cases n
  · let ended : State := { s with store := { s.store with walk := if s.tally.freeze then .held else .idle } }
    have walk' : ended.store.walk ≠ .final := by
      show (if s.tally.freeze then WalkState.held else .idle) ≠ .final
      split <;> nofun
    rw [eq, State.endWalk_final walk, State.grantConfig_walk, if_neg walk']
    exact State.grantConfig_free (s := ended) free walk'
  · rw [eq, if_pos (by exact walk)]
    rfl
  · exact absurd free held

/-! ### The port returned -/

/-- A write has ended: no image write stands, and the walk stands as it was. -/
structure Ended (s u : State) : Prop where
  walk : u.store.walk = s.store.walk
  number : u.store.number = s.store.number
  index : u.store.index = s.store.index
  sequence : u.store.sequence = s.store.sequence
  again : u.store.again = s.store.again
  finalDue : u.store.finalDue = s.store.finalDue
  freeze : u.tally.freeze = s.tally.freeze
  write : u.store.write = none

theorem Ended.grantConfig {s u : State} (ended : Ended s u) : Ended s u.grantConfig := by
  rw [State.grantConfig_eq]
  exact ⟨ended.walk, ended.number, ended.index, ended.sequence, ended.again, ended.finalDue, ended.freeze, ended.write⟩

/-- The final walk that is due begins. -/
theorem Ended.beginFinal {s u : State} (ended : Ended s u) (due : s.store.finalDue = true) (free : u.store.holder = .none) (n : Nat)
    (port : Bool) : PortReturned n u.tally port s u.beginFinal := by
  have new := State.newWalk_final ended.sequence free
  rw [ended.freeze] at new
  refine ⟨(State.goOn_walksOn _ _).finalDue, fun _ => new, fun not => ?_, fun not => ?_⟩
  all_goals
    rw [due] at not
    cases not

/-- The walk goes on from an index. -/
theorem Ended.goOn {s u : State} (ended : Ended s u) (due : s.store.finalDue = false) {port : Bool}
    (free : decide (u.store.holder = .none) = if s.store.walk = .final then true else port) (n : Nat) :
    PortReturned n u.tally port s (u.goOn n) := by
  have goes := u.goOn_goesOn n ended.write free
  rw [ended.walk, ended.number] at goes
  refine ⟨(State.goOn_walksOn _ _).finalDue.trans (ended.finalDue.trans due), fun is => ?_, fun _ final => ?_, fun _ walking => ?_⟩
  · rw [due] at is
    cases is
  · rw [final, if_pos rfl] at goes
    refine ⟨goes, fun none => ?_⟩
    rw [State.goOn_passed none, State.endWalk_final (ended.walk.trans final)]
    refine ⟨?_, ?_, ?_⟩
    · rw [State.grantConfig_walk, ended.freeze]
    · rw [State.grantConfig_write]
      exact ended.write
    · rw [State.grantConfig_tally]
  · rw [walking, if_neg nofun] at goes
    refine ⟨goes, fun none again => ?_, fun none again => ?_⟩
    · rw [State.goOn_passed none, State.endWalk_idle (ended.walk.trans walking) (ended.again.trans again)]
      exact ⟨rfl, ended.write, rfl⟩
    · rw [walking, if_neg nofun] at free
      rw [State.goOn_passed none, State.endWalk_again (ended.walk.trans walking) (ended.again.trans again)]
      exact State.newWalk_walking ended.sequence ended.write free

end Sys2Proof.Machine
end

section
/-! ## IMAGE_WRITE_END, CONFIG_WRITE_END and CHECK_CONFIG (R129, R130, R135, R175 to R177) -/

namespace Sys2Proof.Machine

open Sys2Proof Sys2Proof.Claim Sys2Proof.Safety

/-! ### Marks by image (R125) -/

theorem imageRecord_injective {i j : Fin 32} (same : imageRecord i = imageRecord j) : i = j := by
  unfold imageRecord at same
  split at same <;> split at same <;> simp_all <;> omega

theorem AccountSlot.setMark_marked (b : Bool) (x : AccountSlot) : (x.setMark b).marked = b := by
  cases x <;> rfl

theorem Tally.setMark_marked (t : Tally) (b : Bool) (i j : Fin 32) : (t.setMark b i).marked j = if i = j then b else t.marked j := by
  by_cases same : i = j
  · subst same
    rw [if_pos rfl]
    unfold Tally.setMark Tally.marked
    cases imageRecord i with
    | inl u => dsimp only; rw [getElem_set_fin, if_pos rfl]
    | inr k => dsimp only; rw [getElem_set_fin, if_pos rfl, AccountSlot.setMark_marked]
  · rw [if_neg same]
    have other : imageRecord i ≠ imageRecord j := fun is => same (imageRecord_injective is)
    unfold Tally.setMark Tally.marked
    cases i' : imageRecord i with
    | inl u =>
      cases j' : imageRecord j with
      | inl v =>
        dsimp only
        rw [getElem_set_fin, if_neg fun is => other (by rw [i', j', is])]
      | inr l => rfl
    | inr k =>
      cases j' : imageRecord j with
      | inl v => rfl
      | inr l =>
        dsimp only
        rw [getElem_set_fin, if_neg fun is => other (by rw [i', j', is])]

/-! ### The end of an image write (R129, R130) -/

/-- An image write that has ended, the port not yet returned. -/
def State.imageDone (w : ImageWrite) (s : State) : ImageVerify → State
  | .matched =>
    { s with store := { s.store with
        images := s.store.images.set w.image (.write w.number w.content)
        failed := s.store.failed.set w.image false
        numbers := s.store.numbers.set w.image (some w.number)
        write := none } }
  | .mismatched retained =>
    { s with
      store := { s.store with
        images := s.store.images.set w.image retained
        failed := s.store.failed.set w.image true
        numbers := s.store.numbers.set w.image none
        write := none }
      tally := s.tally.setMark true w.image }

theorem State.imageEnd_done {s : State} {w : ImageWrite} {verify : ImageVerify} (write : s.store.write = some w)
    (finished : verify = .matched ∨ w.second = true) : s.imageEnd verify = (s.imageDone w verify).afterImage w.image := by
  cases verify with
  | matched => simp only [State.imageEnd, write, State.imageDone]
  | mismatched retained =>
    have second := finished.resolve_left nofun
    simp only [State.imageEnd, write, second, if_true, State.imageDone]

theorem State.imageEnd_again {s : State} {w : ImageWrite} (retained : Image) (write : s.store.write = some w) (first : w.second = false) :
    s.imageEnd (.mismatched retained) =
      { s with store := { s.store with images := s.store.images.set w.image retained, write := some { w with second := true } } } := by
  simp only [State.imageEnd, write, first, Bool.false_eq_true, if_false]

theorem State.imageDone_ended (w : ImageWrite) (s : State) (verify : ImageVerify) : Ended s (s.imageDone w verify) := by
  cases verify with
  | matched => exact ⟨rfl, rfl, rfl, rfl, rfl, rfl, rfl, rfl⟩
  | mismatched retained => exact ⟨rfl, rfl, rfl, rfl, rfl, rfl, Tally.setMark_freeze _ _ _, rfl⟩

theorem State.imageDone_frame (w : ImageWrite) (s : State) (verify : ImageVerify) :
    (s.imageDone w verify).config = s.config ∧ (s.imageDone w verify).store.configWrite = s.store.configWrite := by
  cases verify <;> exact ⟨rfl, rfl⟩

/-- A walk's operations move the tally and the store alone. -/
theorem State.afterImage_frame (i : Fin 32) (s : State) :
    s.afterImage i = { s with tally := (s.afterImage i).tally, store := (s.afterImage i).store } :=
  State.ext_fields (by simp) (by simp) (by simp) (by simp) (by simp) (by simp) (by simp) rfl rfl (by simp) (by simp)

theorem State.afterConfig_frame (s : State) : s.afterConfig = { s with tally := s.afterConfig.tally, store := s.afterConfig.store } :=
  State.ext_fields (by simp) (by simp) (by simp) (by simp) (by simp) (by simp) (by simp) rfl rfl (by simp) (by simp)

section Returned

variable {s u : State} (ended : Ended s u)

include ended

/-- What begins or goes on when an image write has ended, by the final walk due and the walk state. -/
theorem Ended.afterImage_due (due : s.store.finalDue = true) (i : Fin 32) : u.afterImage i = u.beginFinal := by
  rw [State.afterImage, if_pos (ended.finalDue.trans due)]

theorem Ended.afterImage_walk (due : s.store.finalDue = false) (walk : s.store.walk = .walking ∨ s.store.walk = .final) (i : Fin 32) :
    u.afterImage i = u.grantConfig.goOn (i.val + 1) := by
  rw [State.afterImage, if_neg (by simp [ended.finalDue, due]), if_pos (by rw [ended.walk]; exact walk)]

/-- The port after an image write: a waiting configuration write is granted ahead of an ordinary walk, and behind a final one. -/
theorem Ended.afterImage (walk : s.store.walk = .walking ∨ s.store.walk = .final) (free : u.store.holder = .none) (i : Fin 32) :
    PortReturned (i.val + 1) u.tally (!(u.store.configWrite == some .waiting)) s (u.afterImage i)
      ∧ (u.afterImage i).store.configWrite = if (u.afterImage i).store.walk = .final then u.store.configWrite else u.granted := by
  cases due : s.store.finalDue with
  | true =>
    rw [ended.afterImage_due due]
    refine ⟨ended.beginFinal due free _ _, ?_⟩
    exact State.goOn_final (s := { u with store := { u.store.begin .final with finalDue := false } }) 0 free rfl
  | false =>
    rw [ended.afterImage_walk due walk]
    obtain walking | final := walk
    · have still : u.store.walk ≠ .final := by rw [ended.walk, walking]; nofun
      have granted := State.grantConfig_free free still
      obtain ⟨config, ends⟩ := (u.grantConfig.goOn_walksOn (i.val + 1)).config (ended.grantConfig.walk.trans walking)
      refine ⟨?_, by rw [if_neg ends, config, granted]⟩
      rw [← u.grantConfig_tally]
      refine ended.grantConfig.goOn due ?_ _
      rw [walking, if_neg nofun]
      by_cases waits : u.store.configWrite = some .waiting
      · have held : u.grantConfig.store.holder ≠ .none := by
          rw [ne_eq, Store.holder_none_iff, granted, State.granted, if_pos waits]
          exact fun none => none.2 _ _ rfl
        simp [held, waits]
      · have stays : u.grantConfig.store.holder = .none := by
          rw [Store.holder_none_iff, granted, State.granted, if_neg waits, State.grantConfig_write]
          exact (Store.holder_none_iff _).mp free
        simp [stays, waits]
    · rw [State.grantConfig_final (ended.walk.trans final)]
      refine ⟨ended.goOn due ?_ _, State.goOn_final _ free (ended.walk.trans final)⟩
      rw [final, if_pos rfl, free]
      rfl

/-- The port after a configuration write: the final walk due begins, a walk goes on at its index, and else nothing follows. -/
theorem Ended.afterConfig (free : u.store.holder = .none) : PortReturned s.store.index.val u.tally true s u.afterConfig
    ∧ (s.store.finalDue = false → s.store.walk = .idle ∨ s.store.walk = .held → u.afterConfig = u) := by
  unfold State.afterConfig
  cases due : s.store.finalDue with
  | true =>
    rw [if_pos (ended.finalDue.trans due)]
    exact ⟨ended.beginFinal due free _ _, nofun⟩
  | false =>
    rw [if_neg (by simp [ended.finalDue, due]), ended.walk, ended.index]
    split
    case isTrue walk =>
      refine ⟨ended.goOn due (by simp [free]) _, fun _ rests => ?_⟩
      rcases walk with is | is <;> rw [is] at rests <;> simp at rests
    case isFalse rests =>
      refine ⟨⟨ended.finalDue.trans due, fun is => ?_, fun _ is => absurd (.inr is) rests, fun _ is => absurd (.inl is) rests⟩,
        fun _ _ => rfl⟩
      rw [due] at is
      cases is

end Returned

theorem Ended.ofPass {s u : State} {dt : Nat} (ended : Ended (s.pass dt) u) : Ended s u :=
  ⟨ended.walk, ended.number, ended.index, ended.sequence, ended.again, ended.finalDue, ended.freeze, ended.write⟩

/-- An ordinary walk that goes on from an index leaves the marks before it. -/
theorem State.goOn_marked {u : State} {n : Nat} {i : Fin 32} (walk : u.store.walk = .walking) (again : u.store.again = false)
    (before : i.val < n) : (u.goOn n).tally.marked i = u.tally.marked i := by
  obtain ⟨-, eq⟩ | ⟨j, first, -, eq⟩ | ⟨j, -, -, eq⟩ := u.goOn_cases n
  · rw [eq, State.endWalk_idle walk again]
  · have other : j ≠ i := fun is => by
      have past := first.1
      rw [is] at past
      exact absurd before (Nat.not_lt.mpr past)
    rw [eq, State.capture, Tally.setMark_marked, if_neg other]
  · rw [eq]

/-! ### The end of a configuration write (R135) -/

/-- A configuration write that has ended, its reply not yet placed and the port not yet returned. -/
def State.configDone (image : ConfigImage) (s : State) : ConfigVerify → State
  | .matched => { s with store := { s.store with configImage := image, configWrite := none, configFault := false } }
  | .mismatched retained => { s with store := { s.store with configImage := retained, configWrite := none, configFault := true } }

/-- The reply code of a configuration write that has ended. -/
def ConfigVerify.code : ConfigVerify → ReplyCode
  | .matched => .ok
  | .mismatched _ => .storeError

theorem State.configWriteEnd_done {s : State} {second : Bool} {image : ConfigImage} {verify : ConfigVerify}
    (write : s.store.configWrite = some (.writing second image)) (finished : verify = .matched ∨ second = true) :
    s.configWriteEnd verify = ((s.configDone image verify).placeReserved verify.code).afterConfig := by
  cases verify with
  | matched => simp only [State.configWriteEnd, State.configEnd, write, State.configDone, ConfigVerify.code, if_true]
  | mismatched retained =>
    have second := finished.resolve_left nofun
    simp only [State.configWriteEnd, State.configEnd, write, second, if_true, State.configDone, ConfigVerify.code, Bool.false_eq_true,
      if_false]

theorem State.configWriteEnd_again {s : State} {image : ConfigImage} (retained : ConfigImage)
    (write : s.store.configWrite = some (.writing false image)) : s.configWriteEnd (.mismatched retained) =
      { s with store := { s.store with configImage := retained, configWrite := some (.writing true image) } } := by
  simp only [State.configWriteEnd, State.configEnd, write, Bool.false_eq_true, if_false]

theorem State.placeReserved_first {s : State} {i : Fin 2} {head : ReplyHead} (code : ReplyCode) (reserved : s.port.slots[i] = .reserved head)
    (first : ∀ j : Fin 2, j < i → ∀ g, s.port.slots[j] ≠ .reserved g) : s.placeReserved code = s.place i ⟨head, code, []⟩ := by
  have slots : List.finRange 2 = [0, 1] := rfl
  match i with
  | 0 => simp only [State.placeReserved, slots, List.findSome?_cons, reserved]
  | 1 =>
    cases before : s.port.slots[(0 : Fin 2)] with
    | reserved g => exact absurd before (first 0 (by decide) g)
    | free => simp only [State.placeReserved, slots, List.findSome?_cons, before, reserved]
    | waiting order r => simp only [State.placeReserved, slots, List.findSome?_cons, before, reserved]

/-- The end of a configuration write moves tally, store and port alone. -/
theorem State.configEnd_frame (image : ConfigImage) (head : ReplyHead) (verify : ConfigVerify) (i : Fin 2) (z : State) :
    let t := ((z.configDone image verify).place i ⟨head, verify.code, []⟩).afterConfig
    t = { z with tally := t.tally, store := t.store, port := t.port } := by
  intro t
  refine (State.afterConfig_frame _).trans ?_
  dsimp only [t]
  rw [State.afterConfig_port]
  cases verify <;> rfl

theorem State.configDone_ended {z : State} (none : z.store.write = none) (image : ConfigImage) (verify : ConfigVerify) :
    Ended z (z.configDone image verify) := by
  cases verify <;> exact ⟨rfl, rfl, rfl, rfl, rfl, rfl, rfl, none⟩

theorem Ended.placeReserved {s u : State} (ended : Ended s u) (code : ReplyCode) : Ended s (u.placeReserved code) := by
  obtain ⟨walk, number, index, sequence, again, finalDue, freeze, write⟩ := ended
  have store := State.placeReserved_store code u
  have tally := State.placeReserved_tally code u
  rw [← store] at walk number index sequence again finalDue write
  rw [← tally] at freeze
  exact ⟨walk, number, index, sequence, again, finalDue, freeze, write⟩

/-! ### CHECK_CONFIG (R177) -/

section Act

variable (c : Caller) {s : State}

theorem checkConfigAct_busy (asked : s.store.configWrite.isSome = true) : checkConfigAct c s = answer .busy [] s := by
  simp only [checkConfigAct, asked, if_true]
  rfl

theorem State.checkConfig_eq (s : State) : s.checkConfig = { s with store := { s.store with
    configFault := s.store.configFault || s.store.configImage.code != crc16 s.store.configImage.items.bytes
      || s.store.configImage.code != crc16 s.config.bytes } } := by
  unfold State.checkConfig
  split
  case isTrue same =>
    simp only [State.configMatches, ConfigImage.good, State.configAgrees, LiveConfig.code, Bool.and_eq_true, beq_iff_eq] at same
    obtain ⟨good, agrees⟩ := same
    simp only [← good, ← agrees, bne_self_eq_false, Bool.or_false]
  case isFalse differ =>
    have differs : (s.store.configImage.code != crc16 s.store.configImage.items.bytes || s.store.configImage.code != crc16 s.config.bytes) = true := by
      simpa only [State.configMatches, ConfigImage.good, State.configAgrees, LiveConfig.code, Bool.not_eq_true, Bool.and_eq_false_iff,
        Bool.or_eq_true, bne, Bool.not_eq_true'] using differ
    rw [Bool.or_assoc, differs, Bool.or_true]

theorem checkConfigAct_ok (none : s.store.configWrite = none) : checkConfigAct c s = answer .ok
    (u16 s.store.configImage.code.toNat ++ u16 (crc16 s.store.configImage.items.bytes).toNat ++ u16 (crc16 s.config.bytes).toNat
      ++ flag (s.store.configImage.code == crc16 s.store.configImage.items.bytes) ++ flag (s.store.configImage.code == crc16 s.config.bytes))
    s.checkConfig := by
  rw [checkConfigAct, if_neg (by simp [none])]
  rfl

end Act

end Sys2Proof.Machine

namespace Sys2Proof.Proofs

open Sys2Proof Sys2Proof.Machine Sys2Proof.Claim Sys2Proof.Safety

/-- Settles O42: the write that has ended, and what the returned port goes on to. -/
theorem imageWriteEnds : Obligations.ImageWriteEnds := by
  intro dt s w up write z
  have runs : ∀ verify, exec (.imageWriteEnd dt verify) s = .next (z.imageEnd verify) := fun verify => by
    rw [exec, execImageWriteEnd, if_pos (by exact up)]
  have done : ∀ verify, verify = .matched ∨ w.second = true →
      exec (.imageWriteEnd dt verify) s = .next ((z.imageDone w verify).afterImage w.image) := fun verify finished => by
    rw [runs, State.imageEnd_done (s := z) write finished]
  have ended : ∀ verify, Ended s (z.imageDone w verify) := fun verify => (z.imageDone_ended w verify).ofPass
  refine ⟨?matched, fun kept first => ?again, fun kept second => ?failed, fun law verify y how => ?returned, fun config due again walk => ?goes⟩
  case matched =>
    obtain ⟨units, -, -, -, accounts, images, failed, numbers, -⟩ := State.afterImage_same w.image (z.imageDone w .matched)
    exact ⟨_, done _ (.inl rfl), State.afterImage_frame _ _, images, failed, numbers, units, fun k => by
      rw [accountAt_eq, accountAt_eq, accounts]; rfl⟩
  case again => rw [runs, State.imageEnd_again (s := z) kept write first]; rfl
  case failed =>
    obtain ⟨units, -, -, -, accounts, images, failed, numbers, -⟩ := State.afterImage_same w.image (z.imageDone w (.mismatched kept))
    refine ⟨_, done _ (.inr second), State.afterImage_frame _ _, images, failed, numbers, units.trans (Tally.setMark_units _ _ _),
      fun k => ?_, fun walking again due => ?_⟩
    · rw [accountAt_eq, accountAt_eq, accounts]
      exact Tally.setMark_account _ _ _ _
    · have stands := (ended (.mismatched kept)).grantConfig
      rw [(ended _).afterImage_walk due (.inl walking), State.goOn_marked (stands.walk.trans walking) (stands.again.trans again)
        (Nat.lt_succ_self _), State.grantConfig_tally]
      exact (Tally.setMark_marked _ _ _ _).trans (if_pos rfl)
  case returned =>
    obtain ⟨finished, tally⟩ : (verify = .matched ∨ w.second = true) ∧ (z.imageDone w verify).tally = y := by
      obtain ⟨rfl, rfl⟩ | ⟨⟨kept, rfl⟩, second, rfl⟩ := how
      · exact ⟨.inl rfl, rfl⟩
      · exact ⟨.inr second, rfl⟩
    obtain ⟨config, asked⟩ := z.imageDone_frame w verify
    have writes : s.store.write.isSome = true := by rw [write]; rfl
    have free : (z.imageDone w verify).store.holder = .none :=
      (Store.holder_none_iff _).mpr ⟨(ended verify).write, fun b image => by rw [asked]; exact law.2 writes b image⟩
    obtain ⟨returned, granted⟩ := (ended verify).afterImage (law.1 writes) free w.image
    rw [asked, tally] at returned
    refine ⟨_, done verify finished, returned, granted.trans ?_⟩
    rw [State.granted, asked, config]
    by_cases final : ((z.imageDone w verify).afterImage w.image).store.walk = .final
    · rw [if_pos final, if_neg (by simp [final])]
      rfl
    · by_cases waits : s.store.configWrite = some .waiting
      · rw [if_neg final, if_pos (show z.store.configWrite = _ from waits), if_pos (by simp [waits, final])]
        rfl
      · rw [if_neg final, if_neg (show ¬ z.store.configWrite = _ from waits), if_neg (by simp [waits])]
        rfl
  case goes =>
    have free : (z.imageDone w .matched).store.holder = .none :=
      (Store.holder_none_iff _).mpr ⟨rfl, fun b image is => by
        have none : s.store.configWrite = some (.writing b image) := is
        rw [config] at none
        cases none⟩
    obtain ⟨⟨-, -, -, walks⟩, -⟩ := (ended .matched).afterImage (.inl walk) free w.image
    obtain ⟨goes, ends, -⟩ := walks due walk
    rw [show (z.imageDone w .matched).store.configWrite = none from config] at goes
    refine ⟨fun none => ?_, fun j past marked lowest => ?_⟩
    · obtain ⟨idle, write, tally⟩ := ends (fun k past => none k past) again
      exact ⟨_, done _ (.inl rfl), idle, write, tally⟩
    · obtain ⟨walking, -, index, write, tally⟩ := goes j ⟨past, marked, fun k from' lt => lowest k from' lt⟩
      exact ⟨_, done _ (.inl rfl), walking, index, write, tally⟩

/-- Settles O44: the write that has ended, its reply and the returned port; CHECK_CONFIG by whether a write is asked for. -/
theorem configurationWriteEndsAndCheck : Obligations.ConfigurationWriteEndsAndCheck := by
  refine ⟨fun dt s second image up write => ?ends, fun h i s taken => ⟨fun asked => ?busy, fun none => ?checks⟩⟩
  case ends =>
    intro z
    have runs : ∀ verify, exec (.configWriteEnd dt verify) s = .next (z.configWriteEnd verify) := fun verify => by
      rw [exec, execConfigWriteEnd, if_pos (by exact up)]
    have done : ∀ verify, verify = .matched ∨ second = true → exec (.configWriteEnd dt verify) s =
        .next ((z.configDone image verify).placeReserved verify.code).afterConfig := fun verify finished => by
      rw [runs, State.configWriteEnd_done (s := z) write finished]
    refine ⟨fun kept first => ?again, fun i head reserved lowest => ?replies, fun law verify how => ?returned⟩
    case again =>
      rw [first] at write
      rw [runs, State.configWriteEnd_again (s := z) kept write]
      rfl
    case replies =>
      have placed : ∀ verify, (z.configDone image verify).placeReserved verify.code = (z.configDone image verify).place i ⟨head, verify.code, []⟩ :=
        fun verify => State.placeReserved_first _ (by cases verify <;> exact reserved) (by cases verify <;> exact lowest)
      have ends : ∀ verify, verify = .matched ∨ second = true → ∃ t, exec (.configWriteEnd dt verify) s = .next t
          ∧ t = { z with tally := t.tally, store := t.store, port := t.port } ∧ t.port = (z.place i ⟨head, verify.code, []⟩).port
          ∧ t.SameRecords (z.configDone image verify) ∧ t.store.configWrite = none ∧ t.config = s.config := fun verify finished => by
        refine ⟨_, done verify finished, ?_, ?_, ?_, ?_, ?_⟩ <;> rw [placed]
        · exact State.configEnd_frame image head verify i z
        · rw [State.afterConfig_port]
          cases verify <;> rfl
        · exact (State.afterConfig_same _).then (.ofStore _ _ ⟨rfl, rfl, rfl, rfl, rfl, rfl⟩)
        · refine Option.not_isSome_iff_eq_none.mp ?_
          rw [State.afterConfig_asked]
          cases verify <;> nofun
        · rw [State.afterConfig_config]
          cases verify <;> rfl
      refine ⟨?_, fun kept second => ?_⟩
      · obtain ⟨t, runs, frame, port, ⟨-, -, -, -, -, images, failed, -, configImage, fault, -⟩, none, -⟩ := ends .matched (.inl rfl)
        exact ⟨t, runs, frame, port, configImage, fault, none, images, failed⟩
      · obtain ⟨t, runs, frame, port, ⟨-, -, -, -, -, images, failed, -, configImage, fault, -⟩, none, config⟩ :=
          ends (.mismatched kept) (.inr second)
        exact ⟨t, runs, frame, port, configImage, fault, none, images, failed, config⟩
    case returned =>
      have finished : verify = .matched ∨ second = true := how.imp_right And.right
      have none : s.store.write = none := by
        by_contra some
        exact law.2 (Option.isSome_iff_ne_none.mpr some) _ _ write
      let u := (z.configDone image verify).placeReserved verify.code
      have store : u.store = (z.configDone image verify).store := State.placeReserved_store _ _
      have tally : u.tally = s.tally := by
        rw [State.placeReserved_tally]
        cases verify <;> rfl
      have ended : Ended s u := ((State.configDone_ended (z := z) none image verify).placeReserved _).ofPass
      have free : u.store.holder = .none := by
        rw [Store.holder_none_iff]
        refine ⟨ended.write, fun b kept => ?_⟩
        rw [store]
        cases verify <;> nofun
      obtain ⟨returned, rests⟩ := ended.afterConfig free
      rw [tally] at returned
      refine ⟨_, done verify finished, returned, fun due walk => ?_⟩
      rw [rests due walk]
      exact ⟨ended.walk, ended.write, tally⟩
  case busy => exact answers_of_act taken rfl fun c => checkConfigAct_busy c (s := s.pass h.dt) asked
  case checks =>
    refine answers_of_act taken rfl fun c => (checkConfigAct_ok c (s := s.pass h.dt) none).trans ?_
    rw [State.checkConfig_eq]
    rfl

end Sys2Proof.Proofs
end

section
/-! ## The power-fail warning and its withdrawal (R116, R117, R132, R133) -/

namespace Sys2Proof.Machine

open Sys2Proof Sys2Proof.Claim Sys2Proof.Safety

/-! ### The warning is taken (R116, R132) -/

theorem State.takeWarning_frame (s : State) : s.takeWarning = { s with tally := s.takeWarning.tally, store := s.takeWarning.store } :=
  State.ext_fields (by simp) (by simp) (by simp) (by simp) (by simp) (by simp) (by simp) rfl rfl (by simp) (by simp)

theorem State.takeWarning_final {s : State} (final : s.store.walk = .final ∨ s.store.walk = .held) : s.takeWarning = s := by
  obtain final | held := final
  · simp only [State.takeWarning, final]
  · simp only [State.takeWarning, held]

theorem State.takeWarning_eq {s : State} (final : s.store.walk ≠ .final) (held : s.store.walk ≠ .held) : s.takeWarning =
    if s.store.holder = .none then s.beginFinal else { s with store := { s.store with finalDue := true } } := by
  cases walk : s.store.walk with
  | final => exact absurd walk final
  | held => exact absurd walk held
  | idle => simp only [State.takeWarning, walk]
  | walking => simp only [State.takeWarning, walk]

/-! ### Crediting (R117) -/

theorem satAdd_satAdd (top n i j : Nat) : satAdd top (satAdd top n i) j = satAdd top n (i + j) := by
  by_cases below : n < top
  · rw [satAdd_of_le below.le i, satAdd_of_le below.le, satAdd_of_le (Nat.min_le_left _ _)]
    omega
  · simp only [satAdd, if_neg below]

theorem satAdd_zero (top n : Nat) : satAdd top n 0 = n := by
  unfold satAdd
  split <;> omega

theorem Account.earnParts_earnParts (p q : Nat) (a : Account) : (a.earnParts p).earnParts q = a.earnParts (p + q) := by
  have carried : (a.fraction + p) / 256 + ((a.fraction + p) % 256 + q) / 256 = (a.fraction + (p + q)) / 256 := by omega
  have rest : ((a.fraction + p) % 256 + q) % 256 = (a.fraction + (p + q)) % 256 := by omega
  simp only [Account.earnParts, Account.earn, satAdd_satAdd, carried, rest]

theorem Account.earnParts_zero {a : Account} (fraction : a.fraction < 256) : a.earnParts 0 = a := by
  simp only [Account.earnParts, Account.earn, Nat.add_zero, Nat.div_eq_of_lt fraction, Nat.mod_eq_of_lt fraction, satAdd_zero]

/-- Seconds at a weight, one by one or at once. -/
theorem Account.iterate_earnParts (w n : Nat) {a : Account} (fraction : a.fraction < 256) :
    Nat.iterate (Account.earnParts w) n a = a.earnParts (w * n) := by
  induction n with
  | zero => exact (Account.earnParts_zero fraction).symm
  | succ n ih => rw [Function.iterate_succ_apply', ih, Account.earnParts_earnParts, Nat.mul_succ]

theorem creditAccount_eq {a : Account} {l : LiveFields} (cfg : LiveConfig) (e : SideEntry) (live : a.live = some l)
    (range : a.figures.equivalent ≤ Config.elapsedTop) :
    let f := a.figures
    let closings := if l.cls = .breaker then e.closings else 0
    let parts := a.fraction + sumOver cfg.runWeight l.cls e.run
    let equivalent := min Config.elapsedTop (f.equivalent + parts / 256 + sumOver cfg.startEquivalent l.cls e.starts
      + perClass cfg.changeEquivalent l.cls * e.changes + perClass cfg.closeEquivalent l.cls * closings)
    creditAccount cfg e l.cls a = ({ a with
      figures := { f with
        run := f.run.addAll e.run, starts := f.starts.addAll e.starts, changes := satAdd Config.countTop f.changes e.changes
        closings := satAdd Config.countTop f.closings closings, equivalent := equivalent }
      fraction := parts % 256
      live := some { l with service := serviceOf equivalent l } }, serviceEvents l.service (serviceOf equivalent l)) := by
  intro f closings parts equivalent
  have earned : satAdd Config.elapsedTop a.figures.equivalent (parts / 256 + (weighted cfg.startEquivalent l.cls e.starts
      + perClass cfg.changeEquivalent l.cls * e.changes + perClass cfg.closeEquivalent l.cls * closings)) = equivalent := by
    rw [satAdd_of_le range]
    simp only [equivalent, weighted, sumOver, f, Nat.add_assoc]
  rw [creditAccount, Account.evaluate_eq (l := l) (by exact live)]
  simp only [Account.earnParts, Account.earn, satAdd_satAdd]
  change ((_, _) : Account × Word32) = _
  rw [show weighted cfg.runWeight l.cls e.run = sumOver cfg.runWeight l.cls e.run from rfl, earned]

theorem State.credit_unit (s : State) (u : Fin 8) : s.credit.tally.units[u] = creditCounts s.tally.side[u] s.tally.units[u]
    ∧ s.credit.tally.dirty[u] = (s.tally.dirty[u] || decide (creditCounts s.tally.side[u] s.tally.units[u] ≠ s.tally.units[u])) := by
  rw [State.credit, State.onBound_tally]
  simp only [Tally.changeUnits]
  exact ⟨getElem_ofFn_fin _ u, getElem_ofFn_fin _ u⟩

theorem State.credit_cleared (s : State) : s.credit.tally.side = Vector.replicate 8 .zero ∧ s.credit.tally.freeze = false := by
  rw [State.credit, State.onBound_tally]
  exact ⟨rfl, rfl⟩

/-- What the crediting makes of an account slot: the mark of a bound account, and the credit. -/
def creditSlot (cfg : LiveConfig) (side : Vector SideEntry 8) (x : AccountSlot) : AccountSlot × Word32 :=
  x.markBound.onBound fun u c => some (creditAccount cfg side[u] c)

theorem State.credit_slot (s : State) (k : Fin 24) :
    s.credit.tally.accounts[k] = (creditSlot s.config s.tally.side s.tally.accounts[k]).1 := by
  rw [State.credit, State.onBound_slot]
  dsimp only
  rw [getElem_ofFn_fin]
  rfl

theorem State.credit_raised {s : State} (up : s.up = true) (k : Fin 24) :
    let w := (creditSlot s.config s.tally.side s.tally.accounts[k]).2
    s.credit.port.latched &&& w = w := by
  rw [State.credit]
  have latched := State.onBound_raised (f := fun u c => some (creditAccount s.config s.tally.side[u] c))
    (s := { s with tally := { (s.tally.changeUnits fun u c => creditCounts s.tally.side[u] c) with
      accounts := Vector.ofFn fun i : Fin 24 => s.tally.accounts[i].markBound, side := Vector.replicate 8 .zero, freeze := false } }) up k
  dsimp only at latched
  rw [getElem_ofFn_fin] at latched
  exact latched

theorem creditSlot_bound {cfg : LiveConfig} {side : Vector SideEntry 8} {a : Account} {l : LiveFields} {u : Fin 8} (d : Bool)
    (live : a.live = some l) (bound : l.bound = some u) : creditSlot cfg side (.held a d) =
      (.held (creditAccount cfg side[u] l.cls a).1 true, (creditAccount cfg side[u] l.cls a).2) := by
  have marked : (AccountSlot.held a d).markBound = .held a true := by
    simp only [AccountSlot.markBound, live, Option.bind_some, bound, Option.isSome_some, Bool.or_true]
  rw [creditSlot, marked, AccountSlot.onBound_changed true live (g := creditAccount cfg side[u] l.cls) (by rw [bound]; rfl), Bool.true_or]

theorem creditSlot_unbound {cfg : LiveConfig} {side : Vector SideEntry 8} {x : AccountSlot}
    (unbound : (x.account.bind (·.live)).bind (·.bound) = none) : creditSlot cfg side x = (x, 0#32) := by
  cases x with
  | free r => rfl
  | held a d =>
    have none : (a.live.bind (·.bound)) = none := unbound
    have marked : (AccountSlot.held a d).markBound = .held a d := by
      simp only [AccountSlot.markBound, none, Option.isSome_none, Bool.or_false]
    rw [creditSlot, marked, AccountSlot.onBound_kept d fun l live => ?_]
    rw [live, Option.bind_some] at none
    rw [none]
    rfl

/-! ### The walk state moves on (R133) -/

theorem State.releaseWalk_eq (s : State) : s.releaseWalk = { s with store := { s.store with
    walk := if s.store.walk = .final then .walking else if s.store.walk = .held then .idle else s.store.walk } } := by
  have same : s = { s with store := { s.store with walk := s.store.walk } } := rfl
  cases walk : s.store.walk with
  | final => simp only [State.releaseWalk, walk, if_true]
  | held => simp only [State.releaseWalk, walk, if_true, reduceCtorEq, if_false]
  | idle => simp only [State.releaseWalk, walk, reduceCtorEq, if_false]; rw [← walk]
  | walking => simp only [State.releaseWalk, walk, reduceCtorEq, if_false]; rw [← walk]

end Sys2Proof.Machine

namespace Sys2Proof.Proofs

open Sys2Proof Sys2Proof.Machine Sys2Proof.Claim Sys2Proof.Safety

/-- Settles O40: the warning by port and walk state, its withdrawal by the crediting, and the crediting second by second. -/
theorem powerFailFreeze : Obligations.PowerFailFreeze := by
  refine ⟨⟨fun dt s up thawed => ?warning, fun dt s up frozen => ?released⟩, fun a w n fraction => Account.iterate_earnParts w n fraction⟩
  case warning =>
    let u : State := { (s.pass dt).setWarning true with tally := { s.tally with freeze := true } }
    have runs : exec (.powerFailWarning dt) s = .next u.takeWarning := by
      rw [exec, execPowerFailWarning, if_pos (by simp [State.setWarning, State.pass, State.up, thawed] at up ⊢; exact up)]
      rfl
    obtain ⟨units, side, freeze, -, accounts, images, -, -, -, -, periodic⟩ := u.takeWarning_same
    refine ⟨_, runs, u.takeWarning_frame, freeze, units, side, fun k => ?_, images, periodic, fun held final still => ?_,
      fun final => ?_, fun free final still => ?_, fun free final still => ?_⟩
    · rw [accountAt_eq, accountAt_eq, accounts]
    · rw [State.takeWarning_eq (s := u) final still, if_neg (show ¬ u.store.holder = _ from held)]
      exact ⟨rfl, rfl⟩
    · rw [State.takeWarning_final (s := u) final]
      exact ⟨rfl, rfl⟩
    · rw [State.takeWarning_eq (s := u) final still, if_pos (show u.store.holder = _ from free)]
      exact State.newWalk_final (s := s) (u := u) rfl free
    · rw [State.takeWarning_eq (s := u) final still, if_pos (show u.store.holder = _ from free)]
      obtain ⟨number, sequence, again, goes, ends⟩ := State.newWalk_final (s := s) (u := u) rfl free
      refine ⟨number, sequence, again, fun none => ?_, fun i marked lowest => ?_⟩
      · obtain ⟨walk, write, -⟩ := ends fun k _ => none k
        exact ⟨walk, write⟩
      · obtain ⟨walk, -, index, write, tally⟩ := goes i ⟨Nat.zero_le _, marked, fun k _ lt => lowest k lt⟩
        refine ⟨walk, index, write, ?_⟩
        rw [tally]
        exact (Tally.setMark_marked _ _ _ _).trans (if_pos rfl)
  case released =>
    let u : State := (s.pass dt).setWarning false
    have there : u.up = true := up
    have runs : exec (.warningReleased dt) s = .next u.credit.releaseWalk := by
      rw [exec, execWarningReleased, if_pos (by rw [Bool.and_eq_true]; exact ⟨there, frozen⟩)]
    rw [State.releaseWalk_eq] at runs
    obtain ⟨side, freeze⟩ := u.credit_cleared
    refine ⟨_, runs, ?_, freeze, side, ?_, fun v => ?_, fun v => (u.credit_unit v).1, fun k unbound => ?_,
      fun k a l v found live bound range => ?_⟩
    · exact State.ext_fields u.credit_pending u.credit_pins u.credit_config u.credit_time u.credit_lines u.credit_trips u.credit_units
        rfl rfl u.credit_watch rfl
    · rw [State.credit_store]
      rfl
    · obtain ⟨credited, dirty⟩ := u.credit_unit v
      rw [dirty, credited]
      rfl
    · rw [accountAt_eq] at unbound
      dsimp only
      rw [State.credit_slot, creditSlot_unbound (x := u.tally.accounts[k]) unbound]
      rfl
    · obtain ⟨d, slot⟩ := accountAt_some found
      have there' : u.tally.accounts[k] = .held a d := slot
      have latched := State.credit_raised there k
      have credited := u.credit_slot k
      rw [there', creditSlot_bound d live bound, creditAccount_eq _ _ live range] at latched credited
      exact ⟨credited, latched⟩

end Sys2Proof.Proofs
end

section
/-! ## The configuration items: codes, indices, ranges, defaults, fields, and what a change of one leaves (10 section 10.1, R175) -/

namespace Sys2Proof.Machine

open Sys2Proof Sys2Proof.Claim Sys2Proof.Safety

theorem within_iff (lo hi v : Int) : within lo hi v = true ↔ lo ≤ v ∧ v ≤ hi := by
  simp [within]

/-- Item codes lie in 1..22. -/
theorem itemIndices_pos {code index : Nat} (named : index < itemIndices code) : 1 ≤ code ∧ code ≤ 22 := by
  unfold itemIndices at named
  split_ifs at named <;> omega

/-! ### The table of items -/

/-- Each row gives the number of its indices, and the factory configuration its defaults. -/
theorem itemTable_defaults : ∀ n : Fin itemTable.length, itemIndices (n.val + 1) = itemTable[n].2.2.length
    ∧ ∀ k : Fin itemTable[n].2.2.length, itemGet .factory (n.val + 1) k.val = itemTable[n].2.2[k] := by
  decide +kernel

/-- The rows' ranges, with the four slew steps. -/
theorem itemInRange_iff (n : Fin itemTable.length) (v : Int) : itemInRange (n.val + 1) v = true ↔
    itemTable[n].1 ≤ v ∧ v ≤ itemTable[n].2.1 ∧ (n.val + 1 = 20 → v ∈ [1, 2, 5, 10]) := by
  obtain ⟨n, lt⟩ := n
  have rows : n < 22 := lt
  interval_cases n
  all_goals simp [itemInRange, itemTable, within_iff]
  -- The slew steps are left (code 20).
  omega

/-! ### The fields -/

theorem LiveConfig.itemFields (c : LiveConfig) : ItemFields c := by
  refine ⟨fun q => ?_, fun l => ?_, fun k => ?_, fun k => ?_, rfl, rfl, rfl, rfl, rfl, rfl, rfl, rfl, rfl, rfl, rfl⟩
  · simp [itemGet]
  · simp [itemGet, boolValue]
  · simp [itemGet]
  · simp [itemGet]

/-! ### What a change of one item leaves -/

theorem LiveConfig.mapLine_lines (c : LiveConfig) (index : Nat) (f : LineConfig → LineConfig) (k : Nat) :
    (c.mapLine index f).lines[k]? = if index = k then c.lines[k]?.map f else c.lines[k]? := by
  unfold LiveConfig.mapLine
  split
  case isTrue inside =>
    rw [Vector.getElem?_set]
    split
    case isTrue same =>
      subst same
      rw [Vector.getElem?_eq_getElem inside]
      rfl
    case isFalse => rfl
  case isFalse outside =>
    split
    case isTrue same =>
      subst same
      have none : c.lines[index]? = none := Vector.getElem?_eq_none (Nat.le_of_not_lt outside)
      rw [none]
      rfl
    case isFalse => rfl

/-- A line item that a change leaves reads as before. -/
theorem LiveConfig.mapLine_reads {β : Type} (c : LiveConfig) (index k : Nat) {f : LineConfig → LineConfig} {g : LineConfig → β}
    (keeps : ∀ l, g (f l) = g l) : (c.mapLine index f).lines[k]?.map g = c.lines[k]?.map g := by
  rw [LiveConfig.mapLine_lines]
  split
  · rw [Option.map_map]
    exact congrArg (c.lines[k]?.map ·) (funext keeps)
  · rfl

theorem LiveConfig.mapLine_eq (c : LiveConfig) (index : Nat) (f : LineConfig → LineConfig) :
    c.mapLine index f = { c with lines := (c.mapLine index f).lines } := by
  unfold LiveConfig.mapLine
  split <;> rfl

theorem itemGet_mapLine (c : LiveConfig) (index : Nat) {f : LineConfig → LineConfig} {other k : Nat}
    (enabled : other = 2 → ∀ l, (f l).enabled = l.enabled) (unit : other = 3 → ∀ l, (f l).unit = l.unit)
    (group : other = 4 → ∀ l, (f l).group = l.group) (assertCount : other = 5 → ∀ l, (f l).assertCount = l.assertCount)
    (releaseCount : other = 6 → ∀ l, (f l).releaseCount = l.releaseCount) :
    itemGet (c.mapLine index f) other k = itemGet c other k := by
  unfold itemGet
  split
  case h_2 => rw [c.mapLine_reads index k fun l => by rw [enabled rfl]]
  case h_3 => rw [c.mapLine_reads index k fun l => by rw [unit rfl]]
  case h_4 => rw [c.mapLine_reads index k fun l => by rw [group rfl]]
  case h_5 => rw [c.mapLine_reads index k fun l => by rw [assertCount rfl]]
  case h_6 => rw [c.mapLine_reads index k fun l => by rw [releaseCount rfl]]
  case h_23 => rfl
  all_goals rw [c.mapLine_eq]

/-- A change of one item leaves every other code. -/
theorem itemGet_itemSet_other (c : LiveConfig) {code other : Nat} (index k : Nat) (v : Int) (ne : other ≠ code) :
    itemGet (itemSet c code index v) other k = itemGet c other k := by
  unfold itemSet
  split
  case h_2 => exact itemGet_mapLine c index (fun is => absurd is ne) (fun _ _ => rfl) (fun _ _ => rfl) (fun _ _ => rfl) (fun _ _ => rfl)
  case h_3 => exact itemGet_mapLine c index (fun _ _ => rfl) (fun is => absurd is ne) (fun _ _ => rfl) (fun _ _ => rfl) (fun _ _ => rfl)
  case h_4 => exact itemGet_mapLine c index (fun _ _ => rfl) (fun _ _ => rfl) (fun is => absurd is ne) (fun _ _ => rfl) (fun _ _ => rfl)
  case h_5 => exact itemGet_mapLine c index (fun _ _ => rfl) (fun _ _ => rfl) (fun _ _ => rfl) (fun is => absurd is ne) (fun _ _ => rfl)
  case h_6 => exact itemGet_mapLine c index (fun _ _ => rfl) (fun _ _ => rfl) (fun _ _ => rfl) (fun _ _ => rfl) (fun is => absurd is ne)
  all_goals
    unfold itemGet
    split <;> trivial

/-! ### What a change of one item puts in force -/

/-- A per-index item at a value of its range. -/
theorem vectorItem {n index k : Nat} {v : Int} (w : Vector Nat n) (inside : index < n) (low : 0 ≤ v) :
    (((w.setIfInBounds index v.toNat)[k]?.getD 0 : Nat) : Int) = if index = k then v else ((w[k]?.getD 0 : Nat) : Int) := by
  rw [Vector.getElem?_setIfInBounds, if_pos inside]
  split
  · exact Int.toNat_of_nonneg low
  · rfl

/-- A per-index item read through a field. -/
theorem vectorItem_map {α : Type} {n index k : Nat} {v : Int} {x : α} {g : α → Int} (w : Vector α n) (inside : index < n) (puts : g x = v) :
    ((w.setIfInBounds index x)[k]?.map g).getD 0 = if index = k then v else (w[k]?.map g).getD 0 := by
  rw [Vector.getElem?_setIfInBounds, if_pos inside]
  split
  · exact puts
  · rfl

/-- A line item at a value of its range. -/
theorem lineItem {index k : Nat} {v : Int} {f : LineConfig → LineConfig} {g : LineConfig → Int} (c : LiveConfig) (inside : index < 32)
    (puts : ∀ l, g (f l) = v) :
    (((c.mapLine index f).lines[k]?).map g).getD 0 = if index = k then v else ((c.lines[k]?).map g).getD 0 := by
  rw [LiveConfig.mapLine_lines]
  split
  case isTrue same =>
    subst same
    rw [Vector.getElem?_eq_getElem inside]
    exact puts _
  case isFalse => rfl

/-- An item of one index. -/
theorem scalarItem {index k : Nat} {v put was : Int} (first : index < 1) (second : k < 1) (puts : put = v) :
    put = if index = k then v else was := by
  rw [if_pos (by omega), puts]

theorem ofNat_toNat {n : Nat} [NeZero n] {v : Int} (low : 0 ≤ v) (high : v < n) : ((Fin.ofNat n v.toNat).val : Int) = v := by
  rw [Fin.val_ofNat, Nat.mod_eq_of_lt (by omega), Int.toNat_of_nonneg low]

theorem boolValue_one {v : Int} (low : 0 ≤ v) (high : v ≤ 1) : boolValue (v == 1) = v := by
  obtain rfl | rfl : v = 0 ∨ v = 1 := by omega
  all_goals rfl

theorem startSource_code {v : Int} (low : 0 ≤ v) (high : v ≤ 1) : ((if v == 0 then Target.ref else .xtal).code : Int) = v := by
  obtain rfl | rfl : v = 0 ∨ v = 1 := by omega
  all_goals rfl

/-- The item changed, at every index of its code. -/
theorem itemGet_itemSet_same (c : LiveConfig) {code index k : Nat} {v : Int} (named : index < itemIndices code)
    (read : k < itemIndices code) (range : itemInRange code v = true) :
    itemGet (itemSet c code index v) code k = if index = k then v else itemGet c code k := by
  match code, named, read, range with
  | 1, named, read, range =>
    obtain ⟨low, high⟩ := (within_iff _ _ _).mp range
    exact vectorItem_map c.levels named (ofNat_toNat low (by omega))
  | 2, named, read, range =>
    obtain ⟨low, high⟩ := (within_iff _ _ _).mp range
    exact lineItem c named fun l => boolValue_one low high
  | 3, named, read, range | 4, named, read, range =>
    obtain ⟨low, high⟩ := (within_iff _ _ _).mp range
    exact lineItem c named fun l => ofNat_toNat low (by omega)
  | 5, named, read, range | 6, named, read, range =>
    obtain ⟨low, high⟩ := (within_iff _ _ _).mp range
    exact lineItem c named fun l => Int.toNat_of_nonneg (by omega)
  | 8, named, read, range | 9, named, read, range | 10, named, read, range | 11, named, read, range | 12, named, read, range =>
    exact vectorItem _ named ((within_iff _ _ _).mp range).1
  | 16, named, read, range =>
    obtain ⟨low, high⟩ := (within_iff _ _ _).mp range
    exact scalarItem named read (boolValue_one low high)
  | 17, named, read, range =>
    obtain ⟨low, high⟩ := (within_iff _ _ _).mp range
    exact scalarItem named read (startSource_code low high)
  | 20, named, read, range =>
    refine scalarItem named read (Int.toNat_of_nonneg ?_)
    simp only [itemInRange, Bool.or_eq_true, beq_iff_eq] at range
    omega
  | 21, named, read, range => exact scalarItem named read rfl
  | 7, named, read, range | 13, named, read, range | 14, named, read, range | 15, named, read, range | 18, named, read, range | 19, named, read, range | 22, named, read, range =>
    obtain ⟨low, high⟩ := (within_iff _ _ _).mp range
    exact scalarItem named read (Int.toNat_of_nonneg (by omega))
  | 0, named, read, range | n + 23, named, read, range =>
    obtain ⟨low, high⟩ := itemIndices_pos named
    omega

theorem itemSet_roster (c : LiveConfig) (code index : Nat) (v : Int) : (itemSet c code index v).roster = c.roster := by
  unfold itemSet
  split
  case h_2 => rw [c.mapLine_eq]
  case h_3 => rw [c.mapLine_eq]
  case h_4 => rw [c.mapLine_eq]
  case h_5 => rw [c.mapLine_eq]
  case h_6 => rw [c.mapLine_eq]
  all_goals rfl

theorem itemLaws : ItemLaws := by
  refine ⟨fun code outside => ?_, fun n lo hi defaults row => ?_, by decide, fun c => c.itemFields, fun c code index v named range =>
    ⟨?_, itemSet_roster c code index v, fun other k read differs => ?_⟩⟩
  · unfold itemIndices
    split_ifs <;> omega
  · obtain ⟨lt, row⟩ := List.getElem?_eq_some_iff.mp row
    obtain ⟨indices, values⟩ := itemTable_defaults ⟨n, lt⟩
    obtain ⟨rfl, rfl, rfl⟩ : lo = itemTable[n].1 ∧ hi = itemTable[n].2.1 ∧ defaults = itemTable[n].2.2 := by
      rw [row]
      exact ⟨rfl, rfl, rfl⟩
    refine ⟨indices, fun k v found => ?_, itemInRange_iff ⟨n, lt⟩⟩
    obtain ⟨inside, rfl⟩ := List.getElem?_eq_some_iff.mp found
    exact values ⟨k, inside⟩
  · rw [itemGet_itemSet_same c named named range, if_pos rfl]
  · by_cases same : other = code
    · subst same
      rw [itemGet_itemSet_same c named read range, if_neg (Ne.symm (differs.resolve_left (not_not_intro rfl)))]
    · exact itemGet_itemSet_other c index k v same

end Sys2Proof.Machine
end

section
/-! ## CONFIGURE and SET_ROSTER_SLOT (R36, R38, R134, R141, R175) -/

namespace Sys2Proof.Machine

open Sys2Proof Sys2Proof.Claim Sys2Proof.Safety

/-! ### A request whose reply waits for a store write (R165) -/

theorem reserved_of_act {c : Instr} {h : Header} {kind level : Nat} {act : Act} {s u : State} {i : Fin 2} (taken : Taken h level i s)
    (meaning : exec c s = .next (s.request h kind level act)) (acts : ∀ caller, act caller (s.pass h.dt) = (u, none)) :
    exec c s = .next { u with port := { u.port with slots := u.port.slots.set i (.reserved ⟨h.requester, h.tag, kind⟩) } } := by
  obtain ⟨up, free, reach⟩ := taken
  rw [meaning, State.request_taken h kind level act s i up free reach, acts]
  rfl

/-- The configuration write asked for: granted at once where the port is free and no final walk is in flight (R134). -/
def State.asked (s : State) : Option ConfigWrite :=
  if s.store.holder = .none ∧ s.store.walk ≠ .final then some (.writing false (.write s.config)) else some .waiting

theorem State.askConfigWrite_eq {s : State} (none : s.store.configWrite = none) :
    s.askConfigWrite = { s with store := { s.store with configWrite := s.asked } } := by
  let waits : State := { s with store := { s.store with configWrite := some .waiting } }
  have holder : waits.store.holder = s.store.holder := by
    unfold Store.holder
    rw [none]
    cases s.store.write <;> rfl
  show waits.grantConfig = _
  rw [State.grantConfig_eq]
  by_cases free : s.store.holder = .none ∧ s.store.walk ≠ .final
  · rw [State.grantConfig_free (s := waits) (holder.trans free.1) free.2, State.granted, if_pos rfl, State.asked, if_pos free]
  · rw [State.asked, if_neg free, State.grantConfig, if_neg]
    simpa [holder, Store.configWaiting, waits] using free

/-! ### An item put in force (R36, R38, R80, R106) -/

section Put

variable (index : Nat) (value : Int) (s : State)

theorem State.enableLine_frame (code : Nat) : s.enableLine code index value = { s with lines := (s.enableLine code index value).lines } := by
  unfold State.enableLine
  split
  · split <;> rfl
  · rfl

theorem State.enableLine_other {code : Nat} (other : code ≠ 2) : s.enableLine code index value = s := by
  unfold State.enableLine
  split
  · rfl
  · rfl

/-- The lines as a change of the enabled item leaves them. -/
theorem State.enableLine_lines (line : Fin 32) {value : Int} (range : itemInRange 2 value = true) (s : State) :
    let l := s.lines[line]
    let still := { l with run := 0, held := none, heldMode := none, firstRun := false }
    (s.enableLine 2 line.val value).lines = s.lines.set line (if value = 0 then still
      else if s.config.lines[line].enabled then l else { still with phase := .released, startLook := false }) := by
  intro l still
  obtain ⟨low, high⟩ := (within_iff 0 1 value).mp range
  rw [State.enableLine, dif_pos line.isLt, if_pos rfl]
  obtain rfl | rfl : value = 0 ∨ value = 1 := by omega
  all_goals rfl

/-- All items but the local offset, which presents a minute event. -/
theorem State.putItem_silent {code : Nat} (other : code ≠ 21) : s.putItem code index value = { s with
    config := itemSet s.config code index value, lines := (s.enableLine code index value).lines
    time := if code = 20 then s.time.keepReading s.config.slewStep else s.time
    port := { s.port with levels := if code = 1 then (itemSet s.config code index value).levels else s.port.levels } } := by
  unfold State.putItem
  dsimp only
  rw [if_neg other, s.enableLine_frame index value code]
  by_cases slew : code = 20
  · rw [if_pos slew, if_pos slew]
  · rw [if_neg slew, if_neg slew]

theorem State.putItem_offset : s.putItem 21 index value = ({ s with config := itemSet s.config 21 index value } : State).presentMinute := by
  unfold State.putItem
  rw [s.enableLine_other index value (by decide)]
  rfl

end Put

/-- A minute event under main power, block by block. -/
theorem State.presentMinute_spec {s : State} (up : s.up = true) :
    let shown : State := { s with time := { s.time with lastPresented := some s.localTime } }
    s.presentMinute = { s with
      time := shown.time, watch := (shown.takeMinute s.localTime).watch
      port := { s.port with latched := (shown.takeMinute s.localTime).port.latched } } := by
  intro shown
  have eq : s.presentMinute = shown.takeMinute s.localTime := by
    rw [State.presentMinute, if_pos up]
  have port := (State.takeMinute_quiet s.localTime shown).1.eq
  rw [eq]
  exact State.ext_fields (by simp [shown]) (by simp [shown]) (by simp [shown]) (by simp [shown]) (by simp [shown]) (by simp [shown])
    (by simp [shown]) (by simp [shown]) (by simp [shown]) rfl port

/-- The state in which an item has been put in force, block by block. -/
structure ItemPut (s : State) (code index : Nat) (value : Int) (t : State) : Prop where
  frame : t = { s with config := itemSet s.config code index value, time := t.time, lines := t.lines, watch := t.watch, port := t.port }
  port : t.port = { s.port with
    levels := if code = 1 then (itemSet s.config code index value).levels else s.port.levels, latched := t.port.latched }
  lines : t.lines = (s.enableLine code index value).lines
  silent : code ≠ 21 → t.watch = s.watch ∧ t.port.latched = s.port.latched
    ∧ t.time = if code = 20 then s.time.keepReading s.config.slewStep else s.time
  offset : code = 21 → t.time = { s.time with lastPresented := some t.localTime }
    ∧ (let taken := ({ s with config := t.config, time := t.time } : State).takeMinute t.localTime
      t.watch = taken.watch ∧ t.port.latched = taken.port.latched)

theorem State.putItem_put {s : State} (up : s.up = true) (code index : Nat) (value : Int) :
    ItemPut s code index value (s.putItem code index value) := by
  by_cases offset : code = 21
  · subst offset
    let u : State := { s with config := itemSet s.config 21 index value }
    have spec := State.presentMinute_spec (s := u) up
    have shows : u.presentMinute.localTime = u.localTime := by
      rw [spec]
      exact State.localTime_eq_of ⟨rfl, rfl, rfl, rfl, rfl, rfl⟩ rfl
    rw [State.putItem_offset]
    refine ⟨?_, ?_, ?_, fun not => absurd rfl not, fun _ => ⟨?_, ?_⟩⟩
    · rw [spec]
    · rw [spec]
      rfl
    · rw [State.enableLine_other _ _ _ (by decide), spec]
    · rw [shows, spec]
    · rw [shows, spec]
      exact ⟨rfl, rfl⟩
  · rw [s.putItem_silent index value offset]
    exact ⟨rfl, rfl, rfl, fun _ => ⟨rfl, rfl, rfl⟩, fun is => absurd is offset⟩

/-! ### CONFIGURE (R175) -/

/-- The refusals as BAD_FIELD. -/
def badItem (c : LiveConfig) (code index : Nat) (value : Int) : Prop :=
  index ≥ itemIndices code ∨ itemInRange code value = false ∨ (code = 1 ∧ ∀ q : Fin 4, (itemSet c 1 index value).levels[q] ≠ 0)

theorem leavesNoEngineer_iff (c : LiveConfig) (code index : Nat) (value : Int) : leavesNoEngineer c code index value = true ↔
    code = 1 ∧ ∀ q : Fin 4, (itemSet c 1 index value).levels[q] ≠ 0 := by
  unfold leavesNoEngineer
  rw [Bool.and_eq_true, beq_iff_eq]
  refine and_congr_right fun is => ?_
  subst is
  rw [Bool.not_eq_true', List.contains_eq_mem, decide_eq_false_iff_not, toList_eq_map_finRange]
  simp

section Act

variable (c : Caller) {s : State} {code index : Nat} {value : Int}

theorem configureAct_bad (bad : badItem s.config code index value) : configureAct code index value c s = answer .badField [] s := by
  unfold configureAct itemNamed
  obtain past | outside | locked := bad
  · rw [if_pos (by simp; omega)]
    rfl
  · rw [outside]
    simp only [Bool.not_false, if_true, ite_self]
    rfl
  · rw [(leavesNoEngineer_iff _ _ _ _).mpr locked]
    simp only [if_true, ite_self]
    rfl

theorem configureAct_good (good : ¬ badItem s.config code index value) : configureAct code index value c s =
    if s.scannerRefuses code index value = true ∨ s.store.configWrite.isSome = true then answer .busy [] s
    else ((s.putItem code index value).askConfigWrite, none) := by
  simp only [badItem, not_or, ← leavesNoEngineer_iff] at good
  obtain ⟨named, range, engineer⟩ := good
  unfold configureAct itemNamed
  rw [if_neg (by simpa using named), if_neg (by simpa using range), if_neg engineer]
  by_cases refuses : s.scannerRefuses code index value = true
  · rw [if_pos refuses, if_pos (.inl refuses)]
    rfl
  · rw [if_neg refuses]
    by_cases asked : s.store.configWrite.isSome = true
    · rw [if_pos asked, if_pos (.inr asked)]
      rfl
    · rw [if_neg asked, if_neg (not_or.mpr ⟨refuses, asked⟩)]

/-! ### SET_ROSTER_SLOT (R141) -/

/-- The fields of a roster slot lie in their ranges. -/
def rosterGood (slot start crew window warning : Nat) : Prop :=
  slot ≤ 5 ∧ start ≤ 1439 ∧ crew ≤ 15 ∧ 5 ≤ window ∧ window ≤ 240 ∧ warning ≤ window

variable {slot start crew window warning : Nat}

theorem setRosterSlotAct_bad (bad : ¬ rosterGood slot start crew window warning) :
    setRosterSlotAct slot start crew window warning c s = answer .badField [] s := by
  unfold setRosterSlotAct
  split
  case isTrue inside =>
    rw [if_pos]
    · rfl
    · rw [Bool.not_eq_true', Bool.eq_false_iff]
      intro valid
      simp only [rosterValid, Bool.and_eq_true, decide_eq_true_eq] at valid
      exact bad ⟨by omega, by omega, by omega, by omega, by omega, by omega⟩
  case isFalse => rfl

theorem setRosterSlotAct_good {k : Fin 6} (good : rosterGood k.val start crew window warning) :
    setRosterSlotAct k.val start crew window warning c s =
      if s.store.configWrite.isSome = true then answer .busy [] s
      else (({ s with config := { s.config with roster := s.config.roster.set k ⟨start, Fin.ofNat 16 crew, window, warning⟩ } } :
        State).askConfigWrite, none) := by
  obtain ⟨-, start', crew', window', window'', warning'⟩ := good
  unfold setRosterSlotAct
  rw [dif_pos k.isLt, if_neg (by simp [rosterValid, *])]
  rfl

end Act

/-! ### The Scanner's refusal (R38) -/

theorem State.scannerRefuses_iff (s : State) (code index : Nat) (value : Int) : s.scannerRefuses code index value = true ↔
    ∃ line : Fin 32, line.val = index ∧ ((code = 2 ∧ value = 0) ∨ code = 3 ∨ code = 4)
      ∧ (s.lines[line].phase ≠ .released ∨ (s.trips.liveKind line).isSome = true) := by
  unfold State.scannerRefuses
  split
  case isTrue inside =>
    simp only [Bool.and_eq_true, Bool.or_eq_true, beq_iff_eq, bne_iff_ne]
    constructor
    · exact fun ⟨item, engaged⟩ => ⟨⟨index, inside⟩, rfl, by tauto, engaged⟩
    · rintro ⟨line, rfl, item, engaged⟩
      exact ⟨by tauto, engaged⟩
  case isFalse outside =>
    refine ⟨nofun, ?_⟩
    rintro ⟨line, rfl, -⟩
    exact absurd line.isLt outside

end Sys2Proof.Machine

namespace Sys2Proof.Proofs

open Sys2Proof Sys2Proof.Machine Sys2Proof.Claim Sys2Proof.Safety

/-- Settles O43: the refusals in their order, the item put in force, and the laws of the items. -/
theorem configurationIsTaken : Obligations.ConfigurationIsTaken := by
  intro h i s z asked
  refine ⟨fun taken code index value => ?configure, fun taken slot start crew window warning => ?roster,
    s.scannerRefuses_iff, itemLaws⟩
  case configure =>
    refine ⟨fun bad => answers_of_act taken rfl fun c => configureAct_bad c (s := z) bad, fun good busy => ?_, fun good calm none => ?_⟩
    · exact answers_of_act taken rfl fun c => (configureAct_good c (s := z) good).trans (if_pos busy)
    · have there : z.up = true := taken.1
      obtain ⟨p, puts⟩ : ∃ p, z.putItem code index value = p := ⟨_, rfl⟩
      have put := State.putItem_put there code index value
      rw [puts] at put
      have stored : p.store = s.store := by rw [put.frame]; rfl
      have runs := reserved_of_act (c := .configure h code index value) taken rfl fun c =>
        (configureAct_good c (s := z) good).trans (if_neg (by
          rw [not_or]
          exact ⟨by rw [show z.scannerRefuses code index value = false from calm]; nofun,
            by rw [show z.store.configWrite = .none from none]; nofun⟩))
      rw [puts, State.askConfigWrite_eq (s := p) (by rw [stored]; exact none)] at runs
      have config : p.config = itemSet s.config code index value := by rw [put.frame]; rfl
      have range : itemInRange code value = true := by
        by_contra outside
        exact good (.inr (.inl (Bool.eq_false_iff.mpr outside)))
      have named : index < itemIndices code := Nat.lt_of_not_le fun past => good (.inl past)
      refine ⟨_, runs, ?frame, ?mask, ?lastStart, ?dataOut, config, ?reads, ?reserved, ?store, ?levels, ?newLevels, ?lines, ?silent, ?time,
        fun is => (put.offset is).1, ?line, fun is => ?step, fun is => (put.offset is).2, ?slots, ?order⟩
      case frame =>
        rw [put.frame]
      case mask => rw [put.port]; rfl
      case lastStart => rw [put.port]; rfl
      case dataOut => rw [put.port]; rfl
      case reads =>
        rw [config]
        exact (itemGet_itemSet_same _ named named range).trans (if_pos rfl)
      case reserved => exact (getElem_set_fin _ _ _ _).trans (if_pos rfl)
      case store =>
        dsimp only
        rw [State.asked, stored]
        rfl
      case levels =>
        intro other
        rw [put.port]
        exact if_neg other
      case newLevels =>
        intro is
        rw [put.port, config]
        exact if_pos is
      case lines =>
        intro other
        rw [put.lines, State.enableLine_other _ _ _ other]
        rfl
      case silent =>
        intro other
        exact ⟨(put.silent other).1, (put.silent other).2.1⟩
      case time =>
        intro other other'
        exact (put.silent other').2.2.trans (if_neg other)
      case line =>
        intro line is at'
        subst is at'
        rw [put.lines]
        exact State.enableLine_lines line range z
      case step => exact (put.silent (by rw [is]; decide)).2.2.trans (if_pos is)
      case slots =>
        intro j ne
        refine (getElem_set_fin _ _ _ _).trans ((if_neg (Ne.symm ne)).trans ?_)
        rw [put.port]
        rfl
      case order => rw [put.port]; rfl
  case roster =>
    refine ⟨fun bad => answers_of_act taken rfl fun c => setRosterSlotAct_bad c (s := z) bad, fun good busy => ?_, fun k is good none => ?_⟩
    · have named : slot < 6 := Nat.lt_succ_of_le good.1
      exact answers_of_act taken rfl fun c => (setRosterSlotAct_good c (s := z) (k := ⟨slot, named⟩) good).trans (if_pos busy)
    · subst is
      have runs := reserved_of_act (c := .setRosterSlot h k.val start crew window warning) taken rfl
        fun c => (setRosterSlotAct_good c (s := z) good).trans (if_neg (by rw [show z.store.configWrite = .none from none]; nofun))
      rw [State.askConfigWrite_eq (by exact none)] at runs
      exact ⟨_, runs, rfl, rfl, rfl, rfl⟩

end Sys2Proof.Proofs
end

section
/-! ## Reports of the Tracker: what one unit's sample counts in its tally, its side entry and the accounts bound to it (R82, R83, R89, R90, R108, R109) -/

namespace Sys2Proof.Machine

open Sys2Proof Sys2Proof.Claim Sys2Proof.Safety

/-! ### Reports, one after another -/

/-- A unit tally and its mark after reports. -/
def countsTake (frozen : Bool) : List Report → UnitCounts × Bool → UnitCounts × Bool
  | [], p => p
  | r :: rs, (c, d) =>
    if frozen then (c, d) else countsTake frozen rs (reportCounts r c, d || decide (reportCounts r c ≠ c))

/-- A side entry after reports. -/
def sideTake (frozen : Bool) (rs : List Report) (e : SideEntry) : SideEntry :=
  if frozen then rs.foldl (fun e r => reportSide r e) e else e

/-- An account slot after reports, and the service conditions they raise. -/
def slotTake (cfg : LiveConfig) (frozen : Bool) (u : Fin 8) : List Report → AccountSlot → AccountSlot × Word32
  | [], x => (x, 0#32)
  | r :: rs, x =>
    if frozen then (x, 0#32)
    else
      let q := x.onBound (forUnit u (reportAccount cfg r))
      let p := slotTake cfg frozen u rs q.1
      (p.1, q.2 ||| p.2)

theorem countsTake_frozen (rs : List Report) (p : UnitCounts × Bool) : countsTake true rs p = p := by
  cases rs <;> rfl

theorem slotTake_frozen (cfg : LiveConfig) (u : Fin 8) (rs : List Report) (x : AccountSlot) : slotTake cfg true u rs x = (x, 0#32) := by
  cases rs <;> rfl

/-- The Tally Engine has taken the reports of one unit. -/
structure ReportsTaken (u : Fin 8) (rs : List Report) (s t : State) : Prop where
  frame : t = { s with tally := t.tally, port := t.port }
  freeze : t.tally.freeze = s.tally.freeze
  others : ∀ v : Fin 8, v ≠ u →
    t.tally.units[v] = s.tally.units[v] ∧ t.tally.dirty[v] = s.tally.dirty[v] ∧ t.tally.side[v] = s.tally.side[v]
  counts : (t.tally.units[u], t.tally.dirty[u]) = countsTake s.tally.freeze rs (s.tally.units[u], s.tally.dirty[u])
  side : t.tally.side[u] = sideTake s.tally.freeze rs s.tally.side[u]
  slots : ∀ k : Fin 24, t.tally.accounts[k] = (slotTake s.config s.tally.freeze u rs s.tally.accounts[k]).1
  raised : s.port.Raised t.port
  latched : s.up = true → ∀ k : Fin 24, let w := (slotTake s.config s.tally.freeze u rs s.tally.accounts[k]).2
    t.port.latched &&& w = w

theorem ReportsTaken.nil (u : Fin 8) (s : State) : ReportsTaken u [] s s :=
  ⟨rfl, rfl, fun _ _ => ⟨rfl, rfl, rfl⟩, rfl, by rw [sideTake]; exact (ite_self _).symm, fun _ => rfl, .refl _,
    fun _ _ => BitVec.and_zero⟩

/-- One report in a freeze: the side table takes it. -/
theorem State.takeReport_frozen {s : State} (u : Fin 8) (r : Report) (frozen : s.tally.freeze = true) :
    s.takeReport u r = { s with tally := { s.tally with side := s.tally.side.set u (reportSide r s.tally.side[u]) } } := by
  rw [State.takeReport, if_pos frozen]

/-- One report outside a freeze. -/
theorem State.takeReport_thawed {s : State} (u : Fin 8) (r : Report) (thawed : s.tally.freeze = false) :
    s.takeReport u r = ({ s with tally := s.tally.changeUnit u (reportCounts r) } : State).onBound (forUnit u (reportAccount s.config r)) := by
  rw [State.takeReport, if_neg (by simp [thawed])]

theorem State.takeReport_taken (u : Fin 8) (r : Report) (s : State) : ReportsTaken u [r] s (s.takeReport u r) := by
  have raised := (s.takeReport_quiet u r).1
  cases frozen : s.tally.freeze with
  | true =>
    rw [State.takeReport_frozen u r frozen] at raised ⊢
    refine ⟨rfl, rfl, fun v ne => ⟨rfl, rfl, ?_⟩, ?_, ?_, fun k => ?_, raised, fun _ k => ?_⟩
    · rw [getElem_set_fin, if_neg (Ne.symm ne)]
    · rw [frozen, countsTake_frozen]
    · rw [frozen, getElem_set_fin, if_pos rfl]
      rfl
    · rw [frozen, slotTake_frozen]
    · rw [frozen, slotTake_frozen]
      exact BitVec.and_zero
  | false =>
    have latched := fun up k => State.onBound_raised (f := forUnit u (reportAccount s.config r))
      (s := { s with tally := s.tally.changeUnit u (reportCounts r) }) up k
    rw [← State.takeReport_thawed u r frozen] at latched
    have tally : (s.takeReport u r).tally = { s.tally.changeUnit u (reportCounts r) with
        accounts := Vector.ofFn fun k : Fin 24 => (s.tally.accounts[k].onBound (forUnit u (reportAccount s.config r))).1 } := by
      rw [State.takeReport_thawed u r frozen, State.onBound_tally]
      rfl
    refine ⟨?_, s.takeReport_freeze u r, fun v ne => ?_, ?_, ?_, fun k => ?_, raised, fun up k => ?_⟩
    · exact State.ext_fields (by simp) (by simp) (by simp) (by simp) (by simp) (by simp) (by simp) rfl (by simp) (by simp) rfl
    · rw [tally, Tally.changeUnit]
      dsimp only
      rw [getElem_set_fin, if_neg (Ne.symm ne), getElem_set_fin, if_neg (Ne.symm ne)]
      exact ⟨rfl, rfl, rfl⟩
    · rw [tally, Tally.changeUnit, frozen]
      dsimp only
      rw [getElem_set_fin, if_pos rfl, getElem_set_fin, if_pos rfl]
      rfl
    · rw [tally, frozen]
      rfl
    · rw [tally, frozen]
      exact getElem_ofFn_fin _ k
    · rw [frozen]
      have word : (slotTake s.config false u [r] s.tally.accounts[k]).2 =
          (s.tally.accounts[k].onBound (forUnit u (reportAccount s.config r))).2 := BitVec.or_zero
      dsimp only
      rw [word]
      exact latched up k

theorem countsTake_cons (f : Bool) (r : Report) (rs : List Report) (p : UnitCounts × Bool) :
    countsTake f (r :: rs) p = countsTake f rs (countsTake f [r] p) := by
  cases f with
  | true => rw [countsTake_frozen, countsTake_frozen, countsTake_frozen]
  | false => rfl

theorem sideTake_cons (f : Bool) (r : Report) (rs : List Report) (e : SideEntry) :
    sideTake f (r :: rs) e = sideTake f rs (sideTake f [r] e) := by
  cases f <;> rfl

theorem slotTake_cons (cfg : LiveConfig) (f : Bool) (u : Fin 8) (r : Report) (rs : List Report) (x : AccountSlot) :
    let q := slotTake cfg f u [r] x
    slotTake cfg f u (r :: rs) x = ((slotTake cfg f u rs q.1).1, q.2 ||| (slotTake cfg f u rs q.1).2) := by
  cases f with
  | true => simp [slotTake_frozen]
  | false => simp [slotTake]

theorem and_or_contains {w a b : Word32} (first : w &&& a = a) (second : w &&& b = b) : w &&& (a ||| b) = a ||| b := by
  rw [BitVec.and_or_distrib_left, first, second]

theorem ReportsTaken.config {u : Fin 8} {rs : List Report} {s t : State} (taken : ReportsTaken u rs s t) : t.config = s.config := by
  rw [taken.frame]

theorem ReportsTaken.up {u : Fin 8} {rs : List Report} {s t : State} (taken : ReportsTaken u rs s t) : t.up = s.up := by
  rw [taken.frame]
  rfl

theorem ReportsTaken.cons {u : Fin 8} {r : Report} {rs : List Report} {s m t : State} (one : ReportsTaken u [r] s m)
    (rest : ReportsTaken u rs m t) : ReportsTaken u (r :: rs) s t := by
  have freeze := rest.freeze.trans one.freeze
  refine ⟨?_, freeze, fun v ne => ?_, ?_, ?_, fun k => ?_, one.raised.trans rest.raised, fun up k => ?_⟩
  · rw [rest.frame, one.frame]
  · obtain ⟨units, dirty, side⟩ := one.others v ne
    obtain ⟨units', dirty', side'⟩ := rest.others v ne
    exact ⟨units'.trans units, dirty'.trans dirty, side'.trans side⟩
  · rw [rest.counts, one.counts, one.freeze, countsTake_cons _ r rs]
  · rw [rest.side, one.side, one.freeze, sideTake_cons _ r rs]
  · rw [rest.slots, one.slots, one.freeze, one.config, slotTake_cons _ _ _ r rs]
  · have first := rest.raised.keeps (one.latched up k)
    have second := rest.latched (one.up.trans up) k
    rw [one.slots, one.freeze, one.config] at second
    rw [slotTake_cons _ _ _ r rs]
    exact and_or_contains first second

theorem State.takeReports_taken (u : Fin 8) (rs : List Report) (s : State) :
    ReportsTaken u rs s (rs.foldl (fun t r => t.takeReport u r) s) := by
  induction rs generalizing s with
  | nil => exact .nil u s
  | cons r rs ih => exact (s.takeReport_taken u r).cons (ih _)

/-! ### One unit's sample, and the other units' -/

/-- The unit a slot's account is bound to. -/
def AccountSlot.boundTo (x : AccountSlot) : Option (Fin 8) := (x.account.bind (·.live)).bind (·.bound)

theorem AccountSlot.onBound_other {x : AccountSlot} {u : Fin 8} {g : AccountClass → Account → Account × Word32} (other : x.boundTo ≠ some u) :
    x.onBound (forUnit u g) = (x, 0#32) := by
  cases x with
  | free r => rfl
  | held a d =>
    refine AccountSlot.onBound_kept d fun l live => ?_
    have bound : l.bound ≠ some u := by
      simpa [AccountSlot.boundTo, AccountSlot.account, live] using other
    cases is : l.bound with
    | none => rfl
    | some v =>
      rw [is] at bound
      rw [Option.bind_some, forUnit, if_neg fun same => bound (by rw [same])]

theorem slotTake_other (cfg : LiveConfig) (f : Bool) {u : Fin 8} (rs : List Report) {x : AccountSlot} (other : x.boundTo ≠ some u) :
    slotTake cfg f u rs x = (x, 0#32) := by
  induction rs with
  | nil => rfl
  | cons r rs ih =>
    cases f with
    | true => rfl
    | false =>
      simp only [slotTake, Bool.false_eq_true, if_false, AccountSlot.onBound_other other, ih]
      simp

/-- Reports leave the binding. -/
theorem slotTake_boundTo (cfg : LiveConfig) (f : Bool) (u : Fin 8) (rs : List Report) (x : AccountSlot) :
    (slotTake cfg f u rs x).1.boundTo = x.boundTo := by
  have bound : ∀ y : AccountSlot, y.boundTo = y.name.bind fun n => n.2.1 := fun y => by
    rw [AccountSlot.name_eq, AccountSlot.boundTo]
    unfold AccountSlot.liveFields
    cases y.account.bind (·.live) <;> rfl
  induction rs generalizing x with
  | nil => rfl
  | cons r rs ih =>
    cases f with
    | true => rfl
    | false =>
      have named : (x.onBound (forUnit u (reportAccount cfg r))).1.name = x.name :=
        AccountSlot.onBound_name (fun v c g a found => by rw [forUnit_some found]; exact reportAccount_name _ _ _ _) x
      simp only [slotTake, Bool.false_eq_true, if_false]
      rw [ih, bound, bound, named]

/-- What the samples of other units leave to a unit, its tally and the accounts bound to no other. -/
structure Beyond (u : Fin 8) (s t : State) : Prop where
  config : t.config = s.config
  pins : t.pins = s.pins
  freeze : t.tally.freeze = s.tally.freeze
  track : t.units[u] = s.units[u]
  counts : t.tally.units[u] = s.tally.units[u] ∧ t.tally.dirty[u] = s.tally.dirty[u]
  side : t.tally.side[u] = s.tally.side[u]
  slots : ∀ k : Fin 24, (∀ v, s.tally.accounts[k].boundTo = some v → v = u) → t.tally.accounts[k] = s.tally.accounts[k]
  raised : s.port.Raised t.port

theorem Beyond.refl (u : Fin 8) (s : State) : Beyond u s s := ⟨rfl, rfl, rfl, rfl, ⟨rfl, rfl⟩, rfl, fun _ _ => rfl, .refl _⟩

theorem Beyond.trans {u : Fin 8} {s m t : State} (a : Beyond u s m) (b : Beyond u m t) : Beyond u s t := by
  refine ⟨b.config.trans a.config, b.pins.trans a.pins, b.freeze.trans a.freeze, b.track.trans a.track,
    ⟨b.counts.1.trans a.counts.1, b.counts.2.trans a.counts.2⟩, b.side.trans a.side, fun k bound => ?_, a.raised.trans b.raised⟩
  have same := a.slots k bound
  rw [b.slots k (by rw [same]; exact bound), same]

/-- A unit's own sample: its inputs, mode and reports. -/
theorem State.sampleUnit_taken (lines : Vector UnitLines 8) (u : Fin 8) (s : State) :
    let r := s.units[u].sample s.config.modeCount lines[u]
    ReportsTaken u r.2 { s with units := s.units.set u r.1 } (s.sampleUnit lines u) :=
  State.takeReports_taken u _ _

theorem State.sampleUnit_beyond (lines : Vector UnitLines 8) {u v : Fin 8} (ne : v ≠ u) (s : State) : Beyond u s (s.sampleUnit lines v) := by
  have taken := s.sampleUnit_taken lines v
  obtain ⟨units, dirty, side⟩ := taken.others u (Ne.symm ne)
  refine ⟨taken.config, by rw [taken.frame], taken.freeze, ?_, ⟨units, dirty⟩, side, fun k bound => ?_, taken.raised⟩
  · rw [taken.frame]
    exact (getElem_set_fin _ _ _ _).trans (if_neg ne)
  · rw [taken.slots, slotTake_other _ _ _ fun is => ne (bound v is)]

theorem State.foldl_sampleUnit_beyond (lines : Vector UnitLines 8) {u : Fin 8} (l : List (Fin 8)) (apart : u ∉ l) (s : State) :
    Beyond u s (l.foldl (fun t v => t.sampleUnit lines v) s) := by
  induction l generalizing s with
  | nil => exact .refl u s
  | cons v l ih =>
    obtain ⟨ne, apart⟩ := not_or.mp (fun is => apart (List.mem_cons.mpr is))
    exact (s.sampleUnit_beyond lines (Ne.symm ne)).trans (ih apart _)

/-- A unit, its tally and the accounts bound to no other, after a sample of all units. -/
structure SampledAt (lines : Vector UnitLines 8) (u : Fin 8) (s t : State) : Prop where
  track : t.units[u] = (s.units[u].sample s.config.modeCount lines[u]).1
  counts : (t.tally.units[u], t.tally.dirty[u]) =
    countsTake s.tally.freeze (s.units[u].sample s.config.modeCount lines[u]).2 (s.tally.units[u], s.tally.dirty[u])
  side : t.tally.side[u] = sideTake s.tally.freeze (s.units[u].sample s.config.modeCount lines[u]).2 s.tally.side[u]
  slots : ∀ k : Fin 24, (∀ v, s.tally.accounts[k].boundTo = some v → v = u) →
    let q := slotTake s.config s.tally.freeze u (s.units[u].sample s.config.modeCount lines[u]).2 s.tally.accounts[k]
    t.tally.accounts[k] = q.1 ∧ (s.up = true → t.port.latched &&& q.2 = q.2)

theorem State.sampleUnits_at (lines : Vector UnitLines 8) (u : Fin 8) (s : State) : SampledAt lines u s (s.sampleUnits lines) := by
  obtain ⟨before, after, split⟩ := List.append_of_mem (List.mem_finRange u)
  have nodup := List.nodup_finRange 8
  rw [split, List.nodup_append, List.nodup_cons] at nodup
  obtain ⟨-, ⟨later, -⟩, apart⟩ := nodup
  have earlier : u ∉ before := fun mem => apart u mem u List.mem_cons_self rfl
  obtain ⟨a, isA⟩ : ∃ a, before.foldl (fun t v => t.sampleUnit lines v) s = a := ⟨_, rfl⟩
  have first := s.foldl_sampleUnit_beyond lines before earlier
  have last := (a.sampleUnit lines u).foldl_sampleUnit_beyond lines after later
  have whole : s.sampleUnits lines = after.foldl (fun t v => t.sampleUnit lines v) (a.sampleUnit lines u) := by
    rw [State.sampleUnits, split, List.foldl_append, List.foldl_cons, isA]
  rw [isA] at first
  rw [← whole] at last
  have own := a.sampleUnit_taken lines u
  rw [first.track, first.config] at own
  obtain ⟨b, isB⟩ : ∃ b, a.sampleUnit lines u = b := ⟨_, rfl⟩
  rw [isB] at own last
  obtain ⟨frame, -, -, counts, side, slots, -, latched⟩ := own
  dsimp only at counts side slots latched
  rw [first.freeze] at counts side slots latched
  have up : a.up = s.up := by rw [State.up, first.pins]; rfl
  refine ⟨?_, ?_, ?_, fun k bound => ?_⟩
  · rw [last.track, frame]
    exact (getElem_set_fin _ _ _ _).trans (if_pos rfl)
  · rw [last.counts.1, last.counts.2, counts, first.counts.1, first.counts.2]
  · rw [last.side, side, first.side]
  · have slot := slots k
    rw [first.slots k bound] at slot
    have raises := fun there : s.up = true => last.raised.keeps (latched (up.trans there) k)
    rw [first.slots k bound] at raises
    refine ⟨?_, raises⟩
    rw [last.slots k (by rw [slot, slotTake_boundTo]; exact bound), slot]

end Sys2Proof.Machine
end

section
/-! ## MODE_LINE_SAMPLE (R78 to R85): what a sample's reports come to -/

namespace Sys2Proof.Machine

open Sys2Proof Sys2Proof.Claim Sys2Proof.Safety

/-! ### One unit's inputs and mode (R79, R81, R85) -/

theorem Input.sample_eq (count : Nat) (on : Bool) (i : Input) : i.sample count on = inputAfter count on i := by
  have reads : i.level.isReading on = true ↔ i.level = if on then Level.on else Level.off := by
    cases i.level <;> cases on <;> decide
  unfold Input.sample inputAfter
  by_cases same : i.level = if on then Level.on else Level.off
  · rw [if_pos (reads.mpr same), if_pos same]
  · rw [if_neg (fun is => same (reads.mp is)), if_neg same]
    cases on <;> rfl

/-- The mode of a unit after its inputs. -/
theorem UnitTrack.decided_eq (n : Nat) (r : UnitLines) (b : UnitTrack) : (b.applyLines n r).decided = modeAfter n r b := by
  unfold UnitTrack.decided UnitTrack.applyLines modeAfter decideMode modeOf
  simp only [Input.sample_eq]
  cases (inputAfter n r.generate b.generate).level == .on <;> cases (inputAfter n r.pump b.pump).level == .on <;>
    cases (inputAfter n r.condense b.condense).level == .on <;> cases (inputAfter n r.spin b.spin).level == .on <;> rfl

/-! ### The reports of a sample (R82, R83) -/

/-- The report of a unit's mode: a start, a change, or none. -/
inductive ModeReports (before after : UnitMode) : List Report → Prop where
  | start (m : RunMode) (starts : startOf before after = some m) (same : changesMode before after = false) : ModeReports before after [.start m]
  | change (m : RunMode) (still : startOf before after = none) (changes : changesMode before after = true) : ModeReports before after [.change m]
  | none (still : startOf before after = none) (same : changesMode before after = false) : ModeReports before after []

theorem modeReport_reports (before after : UnitMode) : ModeReports before after (modeReport before after) := by
  cases running : after.running with
  | none =>
    have reports : modeReport before after = [] := by simp only [modeReport, running]
    rw [reports]
    exact .none (by simp [startOf, running]) (by simp [changesMode, running])
  | some m =>
    by_cases stopped : before = .stopped
    · have reports : modeReport before after = [.start m] := by simp only [modeReport, running, stopped, if_true]
      rw [reports]
      exact .start m (by simp [startOf, running, stopped]) (by simp [changesMode, stopped, UnitMode.running])
    · by_cases changes : changesMode before after = true
      · have reports : modeReport before after = [.change m] := by
          simp only [changesMode, running, Option.isSome_some, Bool.and_true] at changes
          simp only [modeReport, running, stopped, changes, if_true, if_false]
        rw [reports]
        exact .change m (by simp [startOf, stopped]) changes
      · have reports : modeReport before after = [] := by
          simp only [changesMode, running, Option.isSome_some, Bool.and_true] at changes
          simp only [modeReport, running, stopped, changes, if_false]
          rfl
        rw [reports]
        exact .none (by simp [startOf, stopped]) (Bool.eq_false_iff.mpr changes)

/-- The reports of one sample: that of the mode, and that of a closing. -/
def sampleReports (mode : List Report) (closed : Bool) : List Report := mode ++ if closed then [.closing] else []

/-- A unit's sample, settled, settling or unsettled. -/
theorem UnitTrack.sample_eq (n : Nat) (r : UnitLines) (b : UnitTrack) :
    let k := inputAfter n r.breaker b.breaker
    let v : UnitTrack := ⟨inputAfter n r.generate b.generate, inputAfter n r.pump b.pump, inputAfter n r.condense b.condense,
      inputAfter n r.spin b.spin, k, modeAfter n r b, k.level == .on, true⟩
    b.sample n r = if b.settled then (v, sampleReports (modeReport b.mode (modeAfter n r b)) (k.level == .on && !b.breakerClosed))
      else if v.allKnown then (v, []) else ({ v with mode := b.mode, breakerClosed := b.breakerClosed, settled := false }, []) := by
  intro k v
  have applied : b.applyLines n r = { v with mode := b.mode, breakerClosed := b.breakerClosed, settled := b.settled } := by
    simp only [UnitTrack.applyLines, Input.sample_eq, v, k]
  unfold UnitTrack.sample
  dsimp only
  rw [UnitTrack.decided_eq, applied]
  cases settled : b.settled with
  | true => rfl
  | false => rfl

theorem UnitTrack.allKnown_iff (v : UnitTrack) : v.allKnown = true ↔ v.generate.level ≠ .unknown ∧ v.pump.level ≠ .unknown
    ∧ v.condense.level ≠ .unknown ∧ v.spin.level ≠ .unknown ∧ v.breaker.level ≠ .unknown := by
  simp only [UnitTrack.allKnown, Bool.and_eq_true, bne_iff_ne, and_assoc]

/-! ### The unit tally and the side entry (R89, R90) -/

/-- The marks of two changes are those of one, where the second does not take the first back. -/
theorem mark_trans {α : Type} [DecidableEq α] {x y z : α} (d : Bool) (stays : z = x → y = x) :
    ((d || decide (y ≠ x)) || decide (z ≠ y)) = (d || decide (z ≠ x)) := by
  by_cases same : y = x
  · subst same
    simp
  · have moved : z ≠ x := fun is => same (stays is)
    simp [same, moved]

section Counts

variable {before after : UnitMode} {rs : List Report} (closed : Bool)

theorem countsTake_sampled (mode : ModeReports before after rs) (c : UnitCounts) (d : Bool) :
    let y := { c with
      starts := addOne (startOf before after) c.starts, changes := countIf (changesMode before after) c.changes
      closings := countIf closed c.closings }
    countsTake false (sampleReports rs closed) (c, d) = (y, d || decide (y ≠ c)) := by
  cases mode with
  | start m starts same =>
    rw [starts, same]
    cases closed with
    | false => rfl
    | true =>
      refine Prod.ext rfl (mark_trans d fun is => ?_)
      have fields := congrArg UnitCounts.starts is
      simp only [reportCounts] at fields ⊢
      rw [fields]
  | change m still changes =>
    rw [still, changes]
    cases closed with
    | false => rfl
    | true =>
      refine Prod.ext rfl (mark_trans d fun is => ?_)
      have fields := congrArg UnitCounts.changes is
      simp only [reportCounts] at fields ⊢
      rw [fields]
  | none still same =>
    rw [still, same]
    cases closed with
    | false => exact Prod.ext rfl (by simp [countIf, addOne, sampleReports, countsTake])
    | true => rfl

theorem sideTake_sampled (mode : ModeReports before after rs) (e : SideEntry) : sideTake true (sampleReports rs closed) e = { e with
    starts := addOne (startOf before after) e.starts, changes := countIf (changesMode before after) e.changes
    closings := countIf closed e.closings } := by
  cases mode with
  | start m starts same =>
    rw [starts, same]
    cases closed <;> rfl
  | change m still changes =>
    rw [still, changes]
    cases closed <;> rfl
  | none still same =>
    rw [still, same]
    cases closed <;> rfl

end Counts

/-! ### The accounts (R108, R109, R112) -/

/-- An account after the reports of one sample, as its live fields and class take them. -/
def sampledAccount (cfg : LiveConfig) (starts : Option RunMode) (changes breaks : Bool) (l : LiveFields) (a : Account) : Account :=
  let gain := (starts.map (perClassMode cfg.startEquivalent l.cls)).getD 0
    + (if changes then perClass cfg.changeEquivalent l.cls else 0) + (if breaks then perClass cfg.closeEquivalent l.cls else 0)
  let equivalent := satAdd Config.elapsedTop a.figures.equivalent gain
  { a with
    figures := { a.figures with
      starts := addOne starts a.figures.starts, changes := countIf changes a.figures.changes
      closings := countIf breaks a.figures.closings, equivalent := equivalent }
    live := some { l with
      service := if equivalent ≠ a.figures.equivalent ∨ breaks = true then serviceOf equivalent l else l.service } }

section Account

variable (cfg : LiveConfig) {a : Account} {l : LiveFields} (live : a.live = some l)

include live

theorem sampledAccount_none : sampledAccount cfg none false false l a = a := by
  unfold sampledAccount
  dsimp only
  rw [Option.map_none, Option.getD_none, if_neg nofun, if_neg nofun, satAdd_zero, if_neg (by simp), ← live]
  rfl

theorem evaluateIfMoved_eq (b : Account) (same : b.live = some l) :
    b.evaluateIfMoved a = ({ b with live := some { l with
        service := if b.figures.equivalent ≠ a.figures.equivalent then serviceOf b.figures.equivalent l else l.service } },
      if b.figures.equivalent ≠ a.figures.equivalent then serviceEvents l.service (serviceOf b.figures.equivalent l) else 0#32) := by
  unfold Account.evaluateIfMoved
  by_cases still : b.figures.equivalent = a.figures.equivalent
  · rw [if_pos still, if_neg (not_not_intro still), if_neg (not_not_intro still), ← same]
  · rw [if_neg still, if_pos still, if_pos still, Account.evaluate_eq same]

/-- A start or a change alone. -/
theorem reportAccount_mode {before after : UnitMode} {r : Report} (mode : ModeReports before after [r]) :
    let b := sampledAccount cfg (startOf before after) (changesMode before after) false l a
    reportAccount cfg r l.cls a = (b, if b.figures.equivalent ≠ a.figures.equivalent
      then serviceEvents l.service (serviceOf b.figures.equivalent l) else 0#32) := by
  cases mode with
  | start m starts same =>
    rw [starts, same]
    simp only [reportAccount, accrueStart, sampledAccount]
    rw [evaluateIfMoved_eq live _ (by exact live)]
    simp only [Account.earn, addOne, countIf, Option.map_some, Option.getD_some, Bool.false_eq_true, or_false, if_false, Nat.add_zero]
    rfl
  | change m still changes =>
    rw [still, changes]
    simp only [reportAccount, accrueChange, sampledAccount]
    rw [evaluateIfMoved_eq live _ (by exact live)]
    simp only [Account.earn, addOne, countIf, count1, Option.map_none, Option.getD_none, Bool.false_eq_true, or_false, if_false, if_true,
      Nat.add_zero, Nat.zero_add]
    rfl

/-- A closing, for a BREAKER account and for one of another class. -/
theorem reportAccount_closing : reportAccount cfg .closing l.cls a =
    if l.cls = .breaker then
      (sampledAccount cfg none false true l a,
        serviceEvents l.service (serviceOf (satAdd Config.elapsedTop a.figures.equivalent (perClass cfg.closeEquivalent l.cls)) l))
    else (a, 0#32) := by
  simp only [reportAccount, accrueClosing]
  by_cases breaker : l.cls = .breaker
  · rw [if_pos breaker, if_pos breaker, Account.evaluate_eq (l := l) (by exact live)]
    simp only [Account.earn, sampledAccount, addOne, countIf, count1, Option.map_none, Option.getD_none, Bool.false_eq_true, or_true,
      if_false, if_true, Nat.zero_add]
  · rw [if_neg breaker, if_neg breaker]

end Account

/-- A closing after the report of the mode comes to the one change. -/
theorem sampledAccount_closing (cfg : LiveConfig) (starts : Option RunMode) (changes : Bool) (l : LiveFields) (a : Account) (v : Service) :
    sampledAccount cfg none false true { l with service := v } (sampledAccount cfg starts changes false l a) =
      sampledAccount cfg starts changes true l a := by
  simp only [sampledAccount, satAdd_satAdd, addOne, countIf, Option.map_none, Option.getD_none, Bool.false_eq_true, or_true, if_false,
    if_true, Nat.zero_add, Nat.add_zero, Nat.add_assoc]
  rfl

/-- A closing that leaves the account as it was before the sample finds it so. -/
theorem sampledAccount_stays {cfg : LiveConfig} {starts : Option RunMode} {changes : Bool} {l : LiveFields} {a : Account}
    (live : a.live = some l) (same : sampledAccount cfg starts changes true l a = a) : sampledAccount cfg starts changes false l a = a := by
  have figures := congrArg Account.figures same
  have starts' : addOne starts a.figures.starts = a.figures.starts := congrArg Figures.starts figures
  have changes' : countIf changes a.figures.changes = a.figures.changes := congrArg Figures.changes figures
  have equivalent := congrArg Figures.equivalent figures
  simp only [sampledAccount, if_true, ← satAdd_satAdd _ _ _ (perClass cfg.closeEquivalent l.cls)] at equivalent
  have still := Nat.le_antisymm ((le_satAdd _ _ (perClass cfg.closeEquivalent l.cls)).trans equivalent.le) (le_satAdd _ _ _)
  have closings : countIf false a.figures.closings = a.figures.closings := rfl
  simp only [sampledAccount, Bool.false_eq_true, if_false, or_false, Nat.add_zero, starts', changes', closings, still, ne_eq,
    not_true_eq_false]
  rw [← live]

theorem and_contains_trans {a b c : Word32} (first : a &&& b = b) (second : b &&& c = c) : a &&& c = c := by
  rw [← second, ← BitVec.and_assoc, first]

/-- The conditions of two evaluations hold those of one, where the second state is not lower. -/
theorem serviceEvents_chain : ∀ x y z : Service, y.code ≤ z.code →
    (serviceEvents x y ||| serviceEvents y z) &&& serviceEvents x z = serviceEvents x z := by
  intro x y z rises
  cases x <;> cases y <;> cases z <;> simp_all [serviceEvents, Service.code] <;> decide

theorem serviceOf_mono {e f : Nat} (le : e ≤ f) (l : LiveFields) : (serviceOf e l).code ≤ (serviceOf f l).code := by
  unfold serviceOf
  split_ifs <;> first | decide | omega

/-! ### The slot of an account (R108 to R111) -/

theorem slotTake_append (cfg : LiveConfig) (u : Fin 8) (rs qs : List Report) (x : AccountSlot) :
    let p := slotTake cfg false u rs x
    slotTake cfg false u (rs ++ qs) x = ((slotTake cfg false u qs p.1).1, p.2 ||| (slotTake cfg false u qs p.1).2) := by
  induction rs generalizing x with
  | nil => simp [slotTake]
  | cons r rs ih =>
    dsimp only
    rw [List.cons_append, slotTake_cons _ _ _ r (rs ++ qs), slotTake_cons _ _ _ r rs, ih]
    simp only [BitVec.or_assoc]

theorem slotTake_one {cfg : LiveConfig} {u : Fin 8} {r : Report} {a : Account} {l : LiveFields} (d : Bool) (live : a.live = some l)
    (bound : l.bound = some u) : slotTake cfg false u [r] (.held a d) =
      (.held (reportAccount cfg r l.cls a).1 (d || decide ((reportAccount cfg r l.cls a).1 ≠ a)), (reportAccount cfg r l.cls a).2) := by
  have found : (l.bound.bind fun v => forUnit u (reportAccount cfg r) v l.cls) = some (reportAccount cfg r l.cls) := by
    rw [bound, Option.bind_some, forUnit, if_pos rfl]
  simp only [slotTake, Bool.false_eq_true, if_false, AccountSlot.onBound_changed d live found, BitVec.or_zero]

section Slot

variable {cfg : LiveConfig} {u : Fin 8} {a : Account} {l : LiveFields} {before after : UnitMode} {rs : List Report}

/-- The slot after the report of the mode. -/
theorem slotTake_mode (mode : ModeReports before after rs) (d : Bool) (live : a.live = some l) (bound : l.bound = some u) :
    let b := sampledAccount cfg (startOf before after) (changesMode before after) false l a
    slotTake cfg false u rs (.held a d) = (.held b (d || decide (b ≠ a)), if b.figures.equivalent ≠ a.figures.equivalent
      then serviceEvents l.service (serviceOf b.figures.equivalent l) else 0#32) := by
  cases mode with
  | start m starts same =>
    rw [slotTake_one d live bound, reportAccount_mode cfg live (.start m starts same)]
  | change m still changes =>
    rw [slotTake_one d live bound, reportAccount_mode cfg live (.change m still changes)]
  | none still same =>
    rw [still, same, sampledAccount_none cfg live]
    simp [slotTake]

/-- A service state that stands, or is evaluated, raises its conditions. -/
theorem serviceEvents_self (v : Service) : serviceEvents v v = 0#32 := by
  cases v <;> rfl

theorem sampledAccount_live (cfg : LiveConfig) (starts : Option RunMode) (changes breaks : Bool) (l : LiveFields) (a : Account) :
    ∃ v, (sampledAccount cfg starts changes breaks l a).live = some { l with service := v } := ⟨_, rfl⟩

/-- The slot after a sample's reports. -/
theorem slotTake_sampled (mode : ModeReports before after rs) (closed d : Bool) (live : a.live = some l) (bound : l.bound = some u) :
    let b := sampledAccount cfg (startOf before after) (changesMode before after) (closed && decide (l.cls = .breaker)) l a
    (slotTake cfg false u (sampleReports rs closed) (.held a d)).1 = .held b (d || decide (b ≠ a)) := by
  have first := slotTake_mode (cfg := cfg) mode d live bound
  cases closed with
  | false =>
    rw [sampleReports, if_neg nofun, List.append_nil, first, Bool.false_and]
  | true =>
    obtain ⟨v, live'⟩ := sampledAccount_live cfg (startOf before after) (changesMode before after) false l a
    rw [sampleReports, if_pos rfl, slotTake_append, first]
    dsimp only
    rw [slotTake_one _ live' bound, reportAccount_closing cfg live', Bool.true_and]
    by_cases breaker : l.cls = .breaker
    · rw [if_pos (by exact breaker), sampledAccount_closing]
      simp only [breaker, decide_true]
      rw [mark_trans d fun is => sampledAccount_stays live is]
    · rw [if_neg (by exact breaker)]
      simp only [breaker, decide_false, ne_eq, not_true_eq_false, Bool.or_false]

/-- The conditions a sample's reports raise. -/
theorem slotTake_conditions (mode : ModeReports before after rs) (closed d : Bool) (live : a.live = some l) (bound : l.bound = some u) :
    let b := sampledAccount cfg (startOf before after) (changesMode before after) (closed && decide (l.cls = .breaker)) l a
    let w := (slotTake cfg false u (sampleReports rs closed) (.held a d)).2
    ∀ l' : LiveFields, b.live = some l' → w &&& serviceEvents l.service l'.service = serviceEvents l.service l'.service := by
  intro b w l' live'
  have first := slotTake_mode (cfg := cfg) mode d live bound
  obtain ⟨b₁, is₁⟩ : ∃ b₁, sampledAccount cfg (startOf before after) (changesMode before after) false l a = b₁ := ⟨_, rfl⟩
  obtain ⟨v, isV⟩ : ∃ v, (if b₁.figures.equivalent ≠ a.figures.equivalent then serviceOf b₁.figures.equivalent l else l.service) = v :=
    ⟨_, rfl⟩
  have live₁ : b₁.live = some { l with service := v } := by
    rw [← isV, ← is₁]
    simp only [sampledAccount, Bool.false_eq_true, or_false]
  have low : a.figures.equivalent ≤ b₁.figures.equivalent := by
    rw [← is₁]
    exact le_satAdd _ _ _
  rw [is₁] at first
  by_cases closes : closed = true ∧ l.cls = .breaker
  · obtain ⟨rfl, breaker⟩ := closes
    have whole : b = sampledAccount cfg none false true { l with service := v } b₁ := by
      rw [← is₁, sampledAccount_closing]
      simp only [b, breaker, decide_true, Bool.and_self]
    have state : l'.service = serviceOf (satAdd Config.elapsedTop b₁.figures.equivalent (perClass cfg.closeEquivalent l.cls)) l := by
      rw [whole] at live'
      simp only [sampledAccount, Option.map_none, Option.getD_none, Bool.false_eq_true, if_false, if_true, or_true, Nat.zero_add] at live'
      cases live'
      rfl
    have word : w = (if b₁.figures.equivalent ≠ a.figures.equivalent
          then serviceEvents l.service (serviceOf b₁.figures.equivalent l) else 0#32)
        ||| serviceEvents v (serviceOf (satAdd Config.elapsedTop b₁.figures.equivalent (perClass cfg.closeEquivalent l.cls)) l) := by
      simp only [w, sampleReports, if_true]
      rw [slotTake_append, first]
      dsimp only
      rw [slotTake_one _ live₁ bound, reportAccount_closing cfg live₁, if_pos (show ({ l with service := v } : LiveFields).cls = .breaker from breaker)]
      rfl
    rw [word, state, ← isV]
    by_cases moved : b₁.figures.equivalent ≠ a.figures.equivalent
    · rw [if_pos moved, if_pos moved]
      exact serviceEvents_chain _ _ _ (serviceOf_mono (le_satAdd _ _ _) l)
    · rw [if_neg moved, if_neg moved]
      exact or_contains _ _
  · have still : (closed && decide (l.cls = .breaker)) = false := by
      simpa using closes
    have whole : b = b₁ := by
      simp only [b, still, is₁]
    have word : w = if b₁.figures.equivalent ≠ a.figures.equivalent
        then serviceEvents l.service (serviceOf b₁.figures.equivalent l) else 0#32 := by
      cases closed with
      | false => simp only [w, sampleReports, Bool.false_eq_true, if_false, List.append_nil, first]
      | true =>
        simp only [w, sampleReports, if_true]
        rw [slotTake_append, first]
        dsimp only
        rw [slotTake_one _ live₁ bound, reportAccount_closing cfg live₁,
          if_neg (show ¬ ({ l with service := v } : LiveFields).cls = .breaker by simpa using still)]
        exact BitVec.or_zero
    rw [whole, live₁] at live'
    cases live'
    rw [word, ← isV]
    by_cases moved : b₁.figures.equivalent ≠ a.figures.equivalent
    · rw [if_pos moved, if_pos moved]
      exact BitVec.and_self
    · rw [if_neg moved, if_neg moved, serviceEvents_self]
      exact BitVec.and_self

end Slot

/-! ### The sample as a whole -/

/-- The sample's reports of one unit: none unless it was settled. -/
theorem UnitTrack.sample_reports (n : Nat) (r : UnitLines) (b : UnitTrack) : (b.sample n r).2 = if b.settled then
    sampleReports (modeReport b.mode (modeAfter n r b)) ((inputAfter n r.breaker b.breaker).level == .on && !b.breakerClosed) else [] := by
  rw [UnitTrack.sample_eq]
  cases b.settled with
  | true => rfl
  | false =>
    rw [if_neg Bool.false_ne_true, if_neg Bool.false_ne_true]
    split <;> rfl

theorem State.sampleUnits_frame (lines : Vector UnitLines 8) (s : State) : s.sampleUnits lines =
    { s with units := (s.sampleUnits lines).units, tally := (s.sampleUnits lines).tally, port := (s.sampleUnits lines).port } :=
  State.ext_fields (by simp) (by simp) (by simp) (by simp) (by simp) (by simp) (by dsimp only) (by dsimp only) (by simp) (by simp)
    (by dsimp only)

/-- The unit whose samples can touch a slot. -/
def AccountSlot.unit (x : AccountSlot) : Fin 8 := x.boundTo.getD 0

theorem AccountSlot.boundTo_unit (x : AccountSlot) : ∀ v, x.boundTo = some v → v = x.unit := by
  intro v bound
  rw [AccountSlot.unit, bound, Option.getD_some]

theorem AccountSlot.boundTo_held {a : Account} {l : LiveFields} {u : Fin 8} (d : Bool) (live : a.live = some l) (bound : l.bound = some u) :
    (AccountSlot.held a d).boundTo = some u := by
  simp only [AccountSlot.boundTo, AccountSlot.account, live, Option.bind_some, bound]

/-- Slots with no report of their unit stand. -/
theorem slotTake_marks (cfg : LiveConfig) (f : Bool) (n : Nat) (r : UnitLines) (b : UnitTrack) (u : Fin 8) (x : AccountSlot) :
    x.MarksChange (slotTake cfg f u (b.sample n r).2 x).1 := by
  rw [UnitTrack.sample_reports]
  by_cases still : f = true ∨ b.settled = false ∨ x.boundTo ≠ some u
  · have same : slotTake cfg f u (if b.settled then sampleReports (modeReport b.mode (modeAfter n r b))
        ((inputAfter n r.breaker b.breaker).level == .on && !b.breakerClosed) else []) x = (x, 0#32) := by
      obtain rfl | unsettled | other := still
      · exact slotTake_frozen _ _ _ _
      · rw [unsettled]
        rfl
      · exact slotTake_other _ _ _ other
    rw [same]
    exact .refl x
  · simp only [not_or, Bool.not_eq_true, Bool.not_eq_false, not_not] at still
    obtain ⟨rfl, settled, bound⟩ := still
    cases x with
    | free r => cases bound
    | held a d =>
      obtain ⟨l, live, bound⟩ := Option.bind_eq_some_iff.mp bound
      rw [if_pos settled, slotTake_sampled (modeReport_reports _ _) _ d live bound]
      rfl

theorem countsTake_marks (f : Bool) (n : Nat) (r : UnitLines) (b : UnitTrack) (c : UnitCounts) (d : Bool) :
    let p := countsTake f (b.sample n r).2 (c, d)
    p.2 = (d || decide (p.1 ≠ c)) := by
  rw [UnitTrack.sample_reports]
  by_cases still : f = true ∨ b.settled = false
  · have same : countsTake f (if b.settled then sampleReports (modeReport b.mode (modeAfter n r b))
        ((inputAfter n r.breaker b.breaker).level == .on && !b.breakerClosed) else []) (c, d) = (c, d) := by
      obtain rfl | unsettled := still
      · exact countsTake_frozen _ _
      · rw [unsettled]
        rfl
    rw [same]
    simp
  · simp only [not_or, Bool.not_eq_true, Bool.not_eq_false] at still
    obtain ⟨rfl, settled⟩ := still
    rw [if_pos settled, countsTake_sampled _ (modeReport_reports _ _)]

/-- A slot with no settled unit stands. -/
theorem SampledAt.rests {lines : Vector UnitLines 8} {s t : State} {k : Fin 24} {x : AccountSlot}
    (sampled : ∀ u, SampledAt lines u s t) (slot : s.tally.accounts[k] = x)
    (rests : ∀ u : Fin 8, x.boundTo = some u → s.units[u].settled = false) : t.tally.accounts[k] = x := by
  have taken := ((sampled x.unit).slots k (by rw [slot]; exact x.boundTo_unit)).1
  rw [slot] at taken
  rw [taken]
  cases bound : x.boundTo with
  | none => rw [slotTake_other _ _ _ (by rw [bound]; nofun)]
  | some u =>
    have unit : x.unit = u := (x.boundTo_unit u bound).symm
    rw [unit, UnitTrack.sample_reports, rests u bound]
    rfl

theorem exec_modeLineSample (dt : Nat) (lines : Vector UnitLines 8) {s : State} (up : s.up = true) :
    ∃ t, exec (.modeLineSample dt lines) s = .next t
      ∧ t = { s.pass dt with units := t.units, tally := t.tally, port := t.port } ∧ t.tally.freeze = s.tally.freeze
      ∧ ∀ u, SampledAt lines u s t := by
  refine ⟨(s.pass dt).sampleUnits lines, ?_, State.sampleUnits_frame lines _, State.sampleUnits_freeze lines _, fun u => ?_⟩
  · rw [exec, execModeLineSample, if_pos (by exact up)]
  · obtain ⟨track, counts, side, slots⟩ := (s.pass dt).sampleUnits_at lines u
    exact ⟨track, counts, side, slots⟩

end Sys2Proof.Machine

namespace Sys2Proof.Proofs

open Sys2Proof Sys2Proof.Machine Sys2Proof.Claim Sys2Proof.Safety

/-- Settles O33: each unit, its tally, its side entry and the accounts bound to it, by what its reports come to. -/
theorem modeLineSample : Obligations.ModeLineSample := by
  intro dt lines s up n mode closed started changed
  obtain ⟨t, runs, frame, freeze, at'⟩ := exec_modeLineSample dt lines up
  refine ⟨t, runs, frame, freeze, marksChanges_iff.mpr ⟨fun u => ?dirty, fun k => ?marks⟩,
    fun u => ⟨fun how => ?settled, fun unsettled unknown => ?unsettled, fun unsettled => ?silent, fun settled thawed => ?counts,
      fun settled frozen => ?side⟩, fun frozen => ?frozen, fun k none => ?free, fun k a found => ⟨fun rests => ?rests,
      fun l u live bound settled thawed range => ?accrues⟩⟩
  case dirty =>
    have marks := countsTake_marks s.tally.freeze n lines[u] s.units[u] s.tally.units[u] s.tally.dirty[u]
    dsimp only at marks
    rw [show n = s.config.modeCount from rfl, ← (at' u).counts] at marks
    exact marks
  case marks =>
    have slot := ((at' s.tally.accounts[k].unit).slots k (AccountSlot.boundTo_unit _)).1
    rw [slot]
    exact slotTake_marks _ _ _ _ _ _ _
  case settled =>
    rw [(at' u).track, UnitTrack.sample_eq]
    cases settled : s.units[u].settled with
    | true => rfl
    | false =>
      have known := how.resolve_left (by rw [settled]; exact Bool.false_ne_true)
      rw [if_neg Bool.false_ne_true, if_pos ((UnitTrack.allKnown_iff _).mpr known)]
  case unsettled =>
    rw [(at' u).track, UnitTrack.sample_eq, unsettled, if_neg Bool.false_ne_true,
      if_neg fun known => unknown ((UnitTrack.allKnown_iff _).mp known)]
  case silent =>
    have none : (s.units[u].sample n lines[u]).2 = [] := by
      rw [UnitTrack.sample_reports, unsettled]
      rfl
    have counts := (at' u).counts
    have side := (at' u).side
    rw [show s.config.modeCount = n from rfl, none] at counts side
    exact ⟨congrArg Prod.fst counts, side.trans (ite_self _)⟩
  case counts =>
    have reports : (s.units[u].sample n lines[u]).2 = sampleReports (modeReport s.units[u].mode (mode u)) (closed u) := by
      rw [UnitTrack.sample_reports, if_pos (by exact settled)]
    have counts := (at' u).counts
    have side := (at' u).side
    rw [show s.config.modeCount = n from rfl, reports, thawed] at counts side
    rw [countsTake_sampled _ (modeReport_reports _ _)] at counts
    exact ⟨side, congrArg Prod.fst counts⟩
  case side =>
    have reports : (s.units[u].sample n lines[u]).2 = sampleReports (modeReport s.units[u].mode (mode u)) (closed u) := by
      rw [UnitTrack.sample_reports, if_pos (by exact settled)]
    have counts := (at' u).counts
    have side := (at' u).side
    rw [show s.config.modeCount = n from rfl, reports, frozen] at counts side
    rw [countsTake_frozen] at counts
    rw [sideTake_sampled _ (modeReport_reports _ _)] at side
    exact ⟨congrArg Prod.fst counts, side⟩
  case frozen =>
    refine vector_ext fun k => ?_
    rw [((at' s.tally.accounts[k].unit).slots k (AccountSlot.boundTo_unit _)).1, frozen, slotTake_frozen]
  case free =>
    rw [accountAt_eq] at none ⊢
    rw [SampledAt.rests at' rfl fun u bound => ?_]
    · exact none
    · rw [AccountSlot.boundTo, none] at bound
      cases bound
  case rests =>
    obtain ⟨d, slot⟩ := accountAt_some found
    rw [accountAt_eq, SampledAt.rests at' slot fun u bound => ?_]
    · rfl
    · obtain ⟨l, live, bound⟩ := Option.bind_eq_some_iff.mp bound
      exact rests l u live bound
  case accrues =>
    obtain ⟨d, slot⟩ := accountAt_some found
    have reports : (s.units[u].sample n lines[u]).2 = sampleReports (modeReport s.units[u].mode (mode u)) (closed u) := by
      rw [UnitTrack.sample_reports, if_pos (by exact settled)]
    intro breaks gain equivalent service
    have whole : sampledAccount s.config (started u) (changed u) breaks l a = { a with
        figures := { a.figures with
          starts := addOne (started u) a.figures.starts, changes := countIf (changed u) a.figures.changes
          closings := countIf breaks a.figures.closings, equivalent := equivalent }
        live := some { l with service := service } } := by
      simp only [sampledAccount, satAdd_of_le range]
      rfl
    obtain ⟨taken, raised⟩ := (at' u).slots k fun v is => by
      rw [slot, AccountSlot.boundTo_held d live bound] at is
      exact (Option.some.inj is).symm
    rw [show s.config.modeCount = n from rfl, reports, thawed, slot] at taken raised
    rw [slotTake_sampled (modeReport_reports _ _) _ d live bound] at taken
    have conditions := slotTake_conditions (cfg := s.config) (modeReport_reports s.units[u].mode (mode u)) (closed u) d live bound
    refine ⟨?_, ?_⟩
    · rw [accountAt_eq, taken]
      exact congrArg some whole
    · have live' : (sampledAccount s.config (started u) (changed u) breaks l a).live = some { l with service := service } := by
        rw [whole]
      have contains := conditions { l with service := service } live'
      exact and_contains_trans (raised up) contains

end Sys2Proof.Proofs
end

section
/-! ## TRIP_LINE_SAMPLE (R39 to R43, R49): lines, Trip Table and TRIP_NEW -/

namespace Sys2Proof.Machine

open Sys2Proof Sys2Proof.Claim Sys2Proof.Safety

/-! ### One line (R40 to R42) -/

/-- A line after one sample, with the test injection ended where it qualifies an assertion (R49). -/
def sampledLine (cfg : LineConfig) (on : Bool) (stamp : Stamp) (mode : TripMode) (l : LineState) : LineState :=
  if cfg.enabled = false then l
  else
    let m := (sampleLine cfg stamp mode on l).1
    if (carriedMode (qualifiedBy cfg on stamp mode l)).isSome then { m with test := none } else m

theorem sampleLine_on (cfg : LineConfig) (stamp : Stamp) (mode : TripMode) (l : LineState) : sampleLine cfg stamp mode true l =
    assertedSample cfg stamp mode l.startLook { l with startLook := false } := rfl

theorem sampleLine_off (cfg : LineConfig) (stamp : Stamp) (mode : TripMode) (l : LineState) : sampleLine cfg stamp mode false l =
    releasedSample cfg stamp l.startLook { l with startLook := false } := rfl

/-- What an enabled line qualifies. -/
theorem sampleLine_event {cfg : LineConfig} (enabled : cfg.enabled = true) (stamp : Stamp) (mode : TripMode) (on : Bool) (l : LineState) :
    (sampleLine cfg stamp mode on l).2 = qualifiedBy cfg on stamp mode l := by
  unfold qualifiedBy
  rw [enabled]
  cases on with
  | true =>
    rw [sampleLine_on]
    cases phase : l.phase with
    | released => simp only [assertedSample]; split <;> rfl
    | asserting => simp only [assertedSample]; split <;> rfl
    | asserted => simp only [assertedSample]; rfl
    | releasing => simp only [assertedSample]; rfl
  | false =>
    rw [sampleLine_off]
    cases phase : l.phase with
    | released => simp only [releasedSample]; rfl
    | asserting => simp only [releasedSample]; rfl
    | asserted => simp only [releasedSample]; split <;> rfl
    | releasing => simp only [releasedSample]; split <;> rfl

/-- A sample leaves the test injection. -/
theorem sampleLine_test (cfg : LineConfig) (stamp : Stamp) (mode : TripMode) (on : Bool) (l : LineState) :
    (sampleLine cfg stamp mode on l).1.test = l.test := by
  cases on with
  | true =>
    rw [sampleLine_on]
    cases phase : l.phase with
    | released => simp only [assertedSample]; split <;> rfl
    | asserting => simp only [assertedSample]; split <;> rfl
    | asserted => simp only [assertedSample]
    | releasing => simp only [assertedSample]; rfl
  | false =>
    rw [sampleLine_off]
    cases phase : l.phase with
    | released => simp only [releasedSample]
    | asserting => simp only [releasedSample]; rfl
    | asserted => simp only [releasedSample]; split <;> rfl
    | releasing => simp only [releasedSample]; split <;> rfl

/-- A disabled line stands. -/
theorem sampledLine_disabled {cfg : LineConfig} (disabled : cfg.enabled = false) (on : Bool) (stamp : Stamp) (mode : TripMode)
    (l : LineState) : sampledLine cfg on stamp mode l = l := if_pos disabled

section Sampled

variable {cfg : LineConfig} (enabled : cfg.enabled = true) (stamp : Stamp) (mode : TripMode) (l : LineState)

include enabled

/-- An enabled line with an asserted sample (R40, R42). -/
theorem sampledLine_on : sampledLine cfg true stamp mode l =
    match l.phase with
    | .released => if cfg.assertCount ≤ 1 then { l.settledAt .asserted with startLook := false, test := none }
      else { l with phase := .asserting, run := 1, held := some stamp, heldMode := some mode, firstRun := l.startLook, startLook := false }
    | .asserting => if cfg.assertCount ≤ l.run + 1 then { l.settledAt .asserted with startLook := false, test := none }
      else { l with run := l.run + 1, startLook := false }
    | .asserted => { l with startLook := false }
    | .releasing => { l.settledAt .asserted with startLook := false } := by
  rw [sampledLine, if_neg (show ¬ cfg.enabled = false by rw [enabled]; exact Bool.noConfusion), sampleLine_on]
  unfold qualifiedBy
  rw [enabled]
  cases phase : l.phase with
  | released =>
    by_cases enough : cfg.assertCount ≤ 1
    · simp only [assertedSample, if_pos enough]
      rfl
    · simp only [assertedSample, if_neg enough]
      rfl
  | asserting =>
    by_cases enough : cfg.assertCount ≤ l.run + 1
    · simp only [assertedSample, if_pos enough]
      rfl
    · simp only [assertedSample, if_neg enough]
      rfl
  | asserted => exact if_neg Bool.false_ne_true
  | releasing => exact if_neg Bool.false_ne_true

/-- An enabled line with a released sample (R41, R42). -/
theorem sampledLine_off : sampledLine cfg false stamp mode l =
    match l.phase with
    | .released => { l with startLook := false }
    | .asserting => { l.settledAt .released with startLook := false }
    | .asserted => if cfg.releaseCount ≤ 1 then { l.settledAt .released with startLook := false }
      else { l with phase := .releasing, run := 1, held := some stamp, heldMode := none, firstRun := l.startLook, startLook := false }
    | .releasing => if cfg.releaseCount ≤ l.run + 1 then { l.settledAt .released with startLook := false }
      else { l with run := l.run + 1, startLook := false } := by
  rw [sampledLine, if_neg (show ¬ cfg.enabled = false by rw [enabled]; exact Bool.noConfusion), sampleLine_off]
  unfold qualifiedBy
  rw [enabled]
  cases phase : l.phase with
  | released => exact if_neg Bool.false_ne_true
  | asserting => exact if_neg Bool.false_ne_true
  | asserted =>
    by_cases enough : cfg.releaseCount ≤ 1
    · simp only [releasedSample, if_pos enough]
      rfl
    · simp only [releasedSample, if_neg enough]
      rfl
  | releasing =>
    by_cases enough : cfg.releaseCount ≤ l.run + 1
    · simp only [releasedSample, if_pos enough]
      rfl
    · simp only [releasedSample, if_neg enough]
      rfl

/-- An enabled line has had its look after a start. -/
theorem sampledLine_startLook (on : Bool) : (sampledLine cfg on stamp mode l).startLook = false := by
  cases on with
  | true =>
    rw [sampledLine_on enabled]
    cases l.phase with
    | released => dsimp only; split <;> rfl
    | asserting => dsimp only; split <;> rfl
    | asserted => rfl
    | releasing => rfl
  | false =>
    rw [sampledLine_off enabled]
    cases l.phase with
    | released => rfl
    | asserting => rfl
    | asserted => dsimp only; split <;> rfl
    | releasing => dsimp only; split <;> rfl

end Sampled

/-! ### One line in its turn (R39, R43, R44) -/

/-- The trip report that a qualified event hands on. -/
def State.tripReported (i : Fin 32) (e : Option LineEvent) (s : State) : State :=
  match carriedMode e with
  | some m => s.reportTrip i m
  | none => s

/-- What a sample with this stamp qualifies on a line. -/
def State.lineEvent (levels : Vector Bool 32) (stamp : Stamp) (i : Fin 32) (s : State) : Option LineEvent :=
  qualifiedBy s.config.lines[i] levels[i] stamp (s.lineMode i) s.lines[i]

/-- One line has been sampled, and what it qualified handed on. -/
structure LineTaken (levels : Vector Bool 32) (stamp : Stamp) (i : Fin 32) (s t : State) : Prop where
  frame : t = { s with lines := t.lines, trips := t.trips, tally := t.tally, port := t.port }
  lines : t.lines = s.lines.set i (sampledLine s.config.lines[i] levels[i] stamp (s.lineMode i) s.lines[i])
  trips : t.trips = tableTakes s i (s.lineEvent levels stamp i) s.trips
  raised : s.port.Raised t.port
  tripNew : s.up = true → (carriedMode (s.lineEvent levels stamp i)).isSome = true →
    t.port.latched &&& Event.tripNew.bit = Event.tripNew.bit
  quiet : carriedMode (s.lineEvent levels stamp i) = none → t.tally = s.tally ∧ t.port = s.port
  reported : ∃ u : State, u.config = s.config ∧ u.tally = s.tally ∧ u.pins = s.pins ∧ s.port.Raised u.port
    ∧ t.tally = (u.tripReported i (s.lineEvent levels stamp i)).tally
    ∧ t.port = (u.tripReported i (s.lineEvent levels stamp i)).port

theorem State.sampleOne_disabled {s : State} {i : Fin 32} (disabled : s.config.lines[i].enabled = false) (stamp : Stamp)
    (levels : Vector Bool 32) : s.sampleOne stamp levels i = s := by
  rw [State.sampleOne, if_neg (by rw [disabled]; exact Bool.false_ne_true)]

theorem State.sampleOne_enabled {s : State} {i : Fin 32} (enabled : s.config.lines[i].enabled = true) (stamp : Stamp)
    (levels : Vector Bool 32) :
    let m := (sampleLine s.config.lines[i] stamp (s.lineMode i) levels[i] s.lines[i]).1
    let s1 : State := { s with lines := s.lines.set i m }
    s.sampleOne stamp levels i =
      (s.lineEvent levels stamp i).elim s1 (fun e => s1.handOn i e) := by
  intro m s1
  rw [State.sampleOne, if_pos enabled, State.lineEvent, ← sampleLine_event enabled]
  dsimp only
  cases (sampleLine s.config.lines[i] stamp (s.lineMode i) levels[i] s.lines[i]).2 <;> rfl

/-- An assertion handed on (R43, R44, R49). -/
theorem State.handOn_assertion (i : Fin 32) (stamp : Stamp) (mode : TripMode) (found : Bool) (s : State) :
    let u : State := { s with
      lines := s.lines.set i { s.lines[i] with test := none }
      trips := s.trips.assertion s.config.lines s.time.generation ⟨i, .real, stamp, mode, found && s.lines[i].test.isNone⟩ }
    s.handOn i (.assertion stamp mode found) = (u.raise .tripNew).reportTrip i mode := rfl

theorem State.handOn_release (i : Fin 32) (stamp : Stamp) (s : State) :
    s.handOn i (.release stamp) = { s with trips := s.trips.releaseLine i stamp } := rfl

theorem State.sampleOne_taken (levels : Vector Bool 32) (stamp : Stamp) (i : Fin 32) (s : State) :
    LineTaken levels stamp i s (s.sampleOne stamp levels i) := by
  cases enabled : s.config.lines[i].enabled with
  | false =>
    rw [State.sampleOne_disabled enabled]
    have none : s.lineEvent levels stamp i = none := by
      unfold State.lineEvent qualifiedBy
      rw [if_pos enabled]
    refine ⟨rfl, ?_, by rw [none]; rfl, .refl _, fun _ some => ?_, fun _ => ⟨rfl, rfl⟩,
      ⟨s, rfl, rfl, rfl, .refl _, by rw [none]; exact ⟨rfl, rfl⟩⟩⟩
    · rw [sampledLine, if_pos enabled]
      exact (Vector.set_getElem_self i.isLt).symm
    · rw [none] at some
      cases some
  | true =>
    obtain ⟨m, isM⟩ : ∃ m, (sampleLine s.config.lines[i] stamp (s.lineMode i) levels[i] s.lines[i]).1 = m := ⟨_, rfl⟩
    have test : m.test = s.lines[i].test := by rw [← isM, sampleLine_test]
    have runs := State.sampleOne_enabled enabled stamp levels
    have line : sampledLine s.config.lines[i] levels[i] stamp (s.lineMode i) s.lines[i] =
        if (carriedMode (s.lineEvent levels stamp i)).isSome then { m with test := none } else m := by
      rw [sampledLine, if_neg (by rw [enabled]; exact Bool.noConfusion), isM]
      rfl
    rw [isM] at runs
    rw [runs]
    cases event : s.lineEvent levels stamp i with
    | none =>
      rw [event] at line
      refine ⟨rfl, by rw [line]; rfl, by rw [event]; rfl, .refl _, fun _ some => ?_, fun _ => ⟨rfl, rfl⟩,
        ⟨s, rfl, rfl, rfl, .refl _, by rw [event]; exact ⟨rfl, rfl⟩⟩⟩
      rw [event] at some
      cases some
    | some e =>
      rw [event] at line
      rw [Option.elim_some]
      cases e with
      | release on =>
        rw [State.handOn_release]
        refine ⟨rfl, by rw [line]; rfl, by rw [event]; rfl, .refl _, fun _ some => ?_, fun _ => ⟨rfl, rfl⟩,
        ⟨s, rfl, rfl, rfl, .refl _, by rw [event]; exact ⟨rfl, rfl⟩⟩⟩
        rw [event] at some
        cases some
      | assertion on mode found =>
        rw [State.handOn_assertion]
        dsimp only
        rw [getElem_set_fin, if_pos rfl, test, Vector.set_set]
        obtain ⟨u, isU⟩ : ∃ u : State, { s with
            lines := s.lines.set i { m with test := none }
            trips := s.trips.assertion s.config.lines s.time.generation ⟨i, .real, on, mode, found && s.lines[i].test.isNone⟩ } = u := ⟨_, rfl⟩
        have raised : s.port.Raised (u.raise .tripNew).port := by
          have quiet := (u.raise_quiet .tripNew).1
          rw [show u.port = s.port by rw [← isU]] at quiet
          exact quiet
        have reported := ((u.raise .tripNew).reportTrip_quiet i mode).1
        rw [isU]
        refine ⟨?_, ?_, ?_, raised.trans reported, fun up _ => ?_, fun none => ?_, ⟨u.raise .tripNew, ?_⟩⟩
        · refine State.ext_fields ?_ ?_ ?_ ?_ (by dsimp only) (by dsimp only) ?_ (by dsimp only) ?_ ?_ (by dsimp only) <;> simp [← isU]
        · rw [line, State.reportTrip_lines, State.raise_lines, ← isU]
          rfl
        · rw [event, State.reportTrip_trips, State.raise_trips, ← isU]
          rfl
        · refine reported.keeps ?_
          rw [State.raise_withEvent .tripNew (by rw [← isU]; exact up)]
          exact withEvent_latched _ _
        · rw [event] at none
          cases none
        · rw [event]
          exact ⟨by rw [State.raise_config, ← isU], by rw [State.raise_tally, ← isU], by rw [State.raise_pins, ← isU], raised, rfl, rfl⟩

/-! ### The lines of a sample, one after another (R39, R43) -/

/-- A line whose records stand qualifies as it did. -/
theorem State.lineEvent_of_same (levels : Vector Bool 32) (stamp : Stamp) {s t : State} {i : Fin 32} (config : t.config = s.config)
    (units : t.units = s.units) (line : t.lines[i] = s.lines[i]) : t.lineEvent levels stamp i = s.lineEvent levels stamp i := by
  rw [State.lineEvent, State.lineEvent, State.lineMode, State.lineMode, config, units, line]

theorem tableTakes_of_same {s t : State} {i : Fin 32} (config : t.config = s.config) (time : t.time = s.time)
    (line : t.lines[i] = s.lines[i]) : tableTakes t i = tableTakes s i := by
  unfold tableTakes
  rw [config, time, line]

theorem LineTaken.config {levels : Vector Bool 32} {stamp : Stamp} {i : Fin 32} {s t : State} (taken : LineTaken levels stamp i s t) :
    t.config = s.config := by
  rw [taken.frame]

/-- The lines of a list have been sampled. -/
structure LinesTaken (levels : Vector Bool 32) (stamp : Stamp) (l : List (Fin 32)) (s t : State) : Prop where
  frame : t = { s with lines := t.lines, trips := t.trips, tally := t.tally, port := t.port }
  lines : ∀ i ∈ l, t.lines[i] = sampledLine s.config.lines[i] levels[i] stamp (s.lineMode i) s.lines[i]
  trips : t.trips = l.foldl (fun a i => tableTakes s i (s.lineEvent levels stamp i) a) s.trips
  others : ∀ i, i ∉ l → t.lines[i] = s.lines[i]
  raised : s.port.Raised t.port
  tripNew : s.up = true → (∃ i ∈ l, (carriedMode (s.lineEvent levels stamp i)).isSome = true) →
    t.port.latched &&& Event.tripNew.bit = Event.tripNew.bit
  quiet : (∀ i ∈ l, carriedMode (s.lineEvent levels stamp i) = none) → t.tally = s.tally ∧ t.port = s.port

theorem LinesTaken.cons {levels : Vector Bool 32} {stamp : Stamp} {i : Fin 32} {l : List (Fin 32)} {s m t : State} (apart : i ∉ l)
    (one : LineTaken levels stamp i s m) (rest : LinesTaken levels stamp l m t) : LinesTaken levels stamp (i :: l) s t := by
  have units : m.units = s.units := by rw [one.frame]
  have time : m.time = s.time := by rw [one.frame]
  have up : m.up = s.up := by rw [one.frame]; rfl
  have line : ∀ j, j ≠ i → m.lines[j] = s.lines[j] := fun j ne => by
    rw [one.lines, getElem_set_fin, if_neg (Ne.symm ne)]
  have ne : ∀ j ∈ l, j ≠ i := fun j mem is => apart (is ▸ mem)
  have event : ∀ j ∈ l, m.lineEvent levels stamp j = s.lineEvent levels stamp j := fun j mem =>
    State.lineEvent_of_same levels stamp one.config units (line j (ne j mem))
  refine ⟨?_, fun j mem => ?_, ?_, fun j out => ?_, one.raised.trans rest.raised, fun there some => ?_, fun none => ?_⟩
  · rw [rest.frame, one.frame]
  · by_cases is : j = i
    · rw [is, rest.others i apart, one.lines, getElem_set_fin, if_pos rfl]
    · have mem := (List.mem_cons.mp mem).resolve_left is
      rw [rest.lines j mem, one.config, line j is, State.lineMode, State.lineMode, one.config, units]
  · rw [rest.trips, one.trips, List.foldl_cons]
    exact List.foldl_ext _ _ _ fun a j mem => by
      rw [event j mem, tableTakes_of_same one.config time (line j (ne j mem))]
  · obtain ⟨ne, out⟩ := not_or.mp (fun is => out (List.mem_cons.mpr is))
    rw [rest.others j out, line j ne]
  · obtain ⟨j, mem, carried⟩ := some
    by_cases is : j = i
    · exact rest.raised.keeps (one.tripNew there (is ▸ carried))
    · have mem := (List.mem_cons.mp mem).resolve_left is
      exact rest.tripNew (up.trans there) ⟨j, mem, by rw [event j mem]; exact carried⟩
  · obtain ⟨tally, port⟩ := one.quiet (none i List.mem_cons_self)
    obtain ⟨tally', port'⟩ := rest.quiet fun j mem => by
      rw [event j mem]
      exact none j (List.mem_cons_of_mem i mem)
    exact ⟨tally'.trans tally, port'.trans port⟩

theorem State.foldl_sampleOne_taken (levels : Vector Bool 32) (stamp : Stamp) (l : List (Fin 32)) (nodup : l.Nodup) (s : State) :
    LinesTaken levels stamp l s (l.foldl (fun t i => t.sampleOne stamp levels i) s) := by
  induction l generalizing s with
  | nil => exact ⟨rfl, nofun, rfl, fun _ _ => rfl, .refl _, fun _ ⟨_, mem, _⟩ => (List.not_mem_nil mem).elim, fun _ => ⟨rfl, rfl⟩⟩
  | cons i l ih =>
    obtain ⟨apart, nodup⟩ := List.nodup_cons.mp nodup
    exact .cons apart (s.sampleOne_taken levels stamp i) (ih nodup _)

/-! ### The order of a sample (R43, R58) -/

theorem nodup_eraseDups : ∀ l : List (Fin 32), l.eraseDups.Nodup ∧ l.eraseDups ⊆ l
  | [] => ⟨List.nodup_nil, List.nil_subset _⟩
  | a :: l => by
    obtain ⟨nodup, sub⟩ := nodup_eraseDups (l.filter fun b => !b == a)
    rw [List.eraseDups_cons]
    refine ⟨List.nodup_cons.mpr ⟨fun mem => ?_, nodup⟩, List.cons_subset_cons a (List.Subset.trans sub (List.filter_subset_self l))⟩
    have ne := (List.mem_filter.mp (sub mem)).2
    simp at ne
termination_by l => l.length
decreasing_by exact Nat.lt_succ_of_le (List.length_filter_le _ l)

theorem mem_sampleOrder (first : List (Fin 32)) (i : Fin 32) : i ∈ sampleOrder first := by
  by_cases named : i ∈ first.eraseDups
  · exact List.mem_append_left _ named
  · exact List.mem_append_right _ (List.mem_filter.mpr ⟨List.mem_finRange i, by simpa using named⟩)

theorem sampleOrder_nodup (first : List (Fin 32)) : (sampleOrder first).Nodup := by
  refine List.nodup_append.mpr ⟨(nodup_eraseDups first).1, (List.nodup_finRange 32).filter _, fun i named j rest is => ?_⟩
  have out := (List.mem_filter.mp rest).2
  rw [← is] at out
  simp [named] at out

/-- Every line is sampled once. -/
theorem sampleOrder_perm (first : List (Fin 32)) : (sampleOrder first).Perm (List.finRange 32) :=
  (List.perm_ext_iff_of_nodup (sampleOrder_nodup first) (List.nodup_finRange 32)).mpr fun i =>
    ⟨fun _ => List.mem_finRange i, fun _ => mem_sampleOrder first i⟩

/-- The lines that the world does not name are taken by number. -/
theorem sampleOrder_rest (first : List (Fin 32)) : ((sampleOrder first).drop first.eraseDups.length).Pairwise (fun a b => a < b) := by
  rw [sampleOrder, List.drop_left]
  exact (List.pairwise_lt_finRange 32).filter _

theorem State.sampleLines_taken (levels : Vector Bool 32) (first : List (Fin 32)) (s : State) :
    LinesTaken levels s.stamp (sampleOrder first) s (s.sampleLines levels first) :=
  State.foldl_sampleOne_taken levels s.stamp _ (sampleOrder_nodup first) s

theorem exec_tripLineSample (dt : Nat) (levels : Vector Bool 32) (first : List (Fin 32)) {s : State} (up : s.up = true) :
    exec (.tripLineSample dt levels first) s = .next ((s.pass dt).sampleLines levels first) := by
  rw [exec, execTripLineSample, if_pos (by exact up)]

end Sys2Proof.Machine

namespace Sys2Proof.Proofs

open Sys2Proof Sys2Proof.Machine Sys2Proof.Claim Sys2Proof.Safety

/-- Settles O24: the lines one after another, each with what it alone holds and qualifies. -/
theorem tripLineSampleQualifies : Obligations.TripLineSampleQualifies := by
  intro dt levels first s up
  have taken := (s.pass dt).sampleLines_taken levels first
  refine ⟨_, exec_tripLineSample dt levels first up, taken.frame, ⟨sampleOrder first, List.prefix_append _ _, sampleOrder_nodup first,
    (sampleOrder_perm first).length_eq.trans List.length_finRange, sampleOrder_rest first, ?_⟩, fun some => ?_, fun none => ?_, fun i => ?_⟩
  · exact taken.trips
  · obtain ⟨i, carried⟩ := some
    exact taken.tripNew up ⟨i, mem_sampleOrder first i, carried⟩
  · exact taken.quiet fun i _ => none i
  · have line := taken.lines i (mem_sampleOrder first i)
    rw [line, show (s.pass dt).lines = s.lines from rfl, show (s.pass dt).config = s.config from rfl]
    refine ⟨fun disabled => sampledLine_disabled disabled _ _ _ _, fun enabled => sampledLine_startLook enabled _ _ _ _, ?_, ?_, ?_, ?_,
      ?_, ?_, ?_, ?_, ?_, ?_, ?_, ?_⟩
    · intro enabled on phase enough
      rw [on, sampledLine_on enabled]
      simp only [phase]
      exact if_pos enough
    · intro enabled on phase more
      rw [on, sampledLine_on enabled]
      simp only [phase]
      exact if_neg (Nat.not_le.mpr more)
    · intro enabled on phase more
      rw [on, sampledLine_on enabled]
      simp only [phase]
      exact if_neg (Nat.not_le.mpr more)
    · intro enabled on phase enough
      rw [on, sampledLine_on enabled]
      simp only [phase]
      exact if_pos enough
    · intro enabled on phase
      rw [on, sampledLine_on enabled]
      simp only [phase]
    · intro enabled on phase
      rw [on, sampledLine_on enabled]
      simp only [phase]
      rfl
    · intro enabled on phase
      rw [on, sampledLine_off enabled]
      simp only [phase]
    · intro enabled on phase
      rw [on, sampledLine_off enabled]
      simp only [phase]
      rfl
    · intro enabled on phase enough
      rw [on, sampledLine_off enabled]
      simp only [phase]
      exact if_pos enough
    · intro enabled on phase more
      rw [on, sampledLine_off enabled]
      simp only [phase]
      exact if_neg (Nat.not_le.mpr more)
    · intro enabled on phase more
      rw [on, sampledLine_off enabled]
      simp only [phase]
      exact if_neg (Nat.not_le.mpr more)
    · intro enabled on phase enough
      rw [on, sampledLine_off enabled]
      simp only [phase]
      exact if_pos enough

end Sys2Proof.Proofs
end

section
/-! ## TRIP_LINE_SAMPLE (R44, R92, R110): the trips that a sample counts -/

namespace Sys2Proof.Machine

open Sys2Proof Sys2Proof.Claim Sys2Proof.Safety

/-! ### The mode a qualified assertion carries (R39, R86) -/

theorem unitAt_some {p : Fin 9} {u : Fin 8} : unitAt p = some u ↔ p.val = u.val + 1 := by
  unfold unitAt
  split
  · rw [Option.some_inj, Fin.ext_iff]
    dsimp only
    omega
  · simp
    omega

theorem State.lineMode_stationCommon (s : State) (i : Fin 32) : s.lineMode i = .stationCommon ↔ s.config.lines[i].unit = 0 := by
  rw [State.lineMode]
  cases unit : unitAt s.config.lines[i].unit with
  | some u =>
    have position := unitAt_some.mp unit
    refine ⟨nofun, fun zero => ?_⟩
    rw [zero] at position
    cases position
  | none =>
    refine ⟨fun _ => ?_, fun _ => rfl⟩
    unfold unitAt at unit
    split at unit
    · cases unit
    · exact Fin.ext (by rw [Fin.val_zero]; omega)

/-- A qualified assertion carries NONE for a line of station common, and a unit mode for a unit's. -/
theorem qualifiedBy_mode {cfg : LineConfig} {on : Bool} {stamp : Stamp} {mode m : TripMode} {l : LineState} (law : LineLaw cfg l)
    (now : mode = .stationCommon ↔ cfg.unit = 0) (carried : carriedMode (qualifiedBy cfg on stamp mode l) = some m) :
    m = .stationCommon ↔ cfg.unit = 0 := by
  obtain ⟨-, asserting, -⟩ := law
  unfold qualifiedBy at carried
  split at carried
  · cases carried
  cases on with
  | true =>
    cases phase : l.phase with
    | released =>
      simp only [phase] at carried
      split at carried
      · cases carried
        exact now
      · cases carried
    | asserting =>
      obtain ⟨-, -, h, held, common⟩ := asserting phase
      simp only [phase, held, Option.getD_some] at carried
      split at carried
      · cases carried
        exact common
      · cases carried
    | asserted => simp [phase, carriedMode] at carried
    | releasing => simp [phase, carriedMode] at carried
  | false =>
    cases phase : l.phase with
    | released => simp [phase, carriedMode] at carried
    | asserting => simp [phase, carriedMode] at carried
    | asserted =>
      simp only [phase] at carried
      split at carried <;> cases carried
    | releasing =>
      simp only [phase] at carried
      split at carried <;> cases carried

/-! ### An account after trips (R110, R112) -/

/-- An account after `n` trips of its unit, of which `r` carried a running mode, as its live fields and class take them. -/
def trippedAccount (cfg : LiveConfig) (l : LiveFields) (n r : Nat) (a : Account) : Account :=
  if n = 0 then a
  else
    let equivalent := satAdd Config.elapsedTop a.figures.equivalent (r * perClass cfg.tripEquivalent l.cls)
    { a with
      figures := { a.figures with trips := satAdd Config.countTop a.figures.trips n, equivalent := equivalent }
      live := some { l with service := serviceOf equivalent l } }

/-- The service state after trips. -/
def trippedService (cfg : LiveConfig) (l : LiveFields) (n r : Nat) (a : Account) : Service :=
  if n = 0 then l.service
  else serviceOf (satAdd Config.elapsedTop a.figures.equivalent (r * perClass cfg.tripEquivalent l.cls)) l

section Account

variable {cfg : LiveConfig} {l : LiveFields} {a : Account} (live : a.live = some l)

include live

theorem trippedAccount_live (n r : Nat) : (trippedAccount cfg l n r a).live = some { l with service := trippedService cfg l n r a } := by
  unfold trippedAccount trippedService
  by_cases zero : n = 0
  · rw [if_pos zero, if_pos zero, live]
  · rw [if_neg zero, if_neg zero]

theorem accrueTrip_eq (mode : UnitMode) : accrueTrip cfg mode l.cls a =
    (trippedAccount cfg l 1 (if mode.running.isSome then 1 else 0) a,
      serviceEvents l.service (trippedService cfg l 1 (if mode.running.isSome then 1 else 0) a)) := by
  unfold accrueTrip trippedAccount trippedService
  rw [if_neg Nat.one_ne_zero, if_neg Nat.one_ne_zero]
  cases mode.running.isSome with
  | true =>
    dsimp only
    rw [if_pos rfl, if_pos rfl, Account.evaluate_eq (l := l) (by exact live), Nat.one_mul]
    rfl
  | false =>
    dsimp only
    rw [if_neg Bool.false_ne_true, if_neg Bool.false_ne_true, Account.evaluate_eq (l := l) (by exact live), Nat.zero_mul, satAdd_zero]
    rfl

/-- Trips, and more trips. -/
theorem trippedAccount_add {n r n' r' : Nat} (le : r ≤ n) (le' : r' ≤ n') :
    trippedAccount cfg { l with service := trippedService cfg l n r a } n' r' (trippedAccount cfg l n r a) =
      trippedAccount cfg l (n + n') (r + r') a := by
  by_cases zero' : n' = 0
  · subst zero'
    obtain rfl := Nat.le_zero.mp le'
    exact if_pos rfl
  by_cases zero : n = 0
  · subst zero
    obtain rfl := Nat.le_zero.mp le
    simp only [trippedAccount, trippedService, if_pos, Nat.zero_add]
  · simp only [trippedAccount, if_neg zero, if_neg zero', if_neg (show ¬ n + n' = 0 by omega), satAdd_satAdd, ← Nat.add_mul]
    rfl

theorem trippedService_add {n r n' r' : Nat} (le : r ≤ n) (le' : r' ≤ n') :
    trippedService cfg { l with service := trippedService cfg l n r a } n' r' (trippedAccount cfg l n r a) =
      trippedService cfg l (n + n') (r + r') a := by
  have whole := congrArg Account.live (trippedAccount_add (cfg := cfg) live le le')
  rw [trippedAccount_live (trippedAccount_live live n r), trippedAccount_live live] at whole
  exact congrArg LiveFields.service (Option.some.inj whole)

/-- Trips that leave the account as it was found it so from the first. -/
theorem trippedAccount_stays {n r : Nat} (n' r' : Nat) (same : trippedAccount cfg l (n + n') (r + r') a = a) :
    trippedAccount cfg l n r a = a := by
  by_cases zero : n = 0
  · exact if_pos zero
  simp only [trippedAccount, if_neg zero, if_neg (show ¬ n + n' = 0 by omega)] at same ⊢
  have figures := congrArg Account.figures same
  have trips : satAdd Config.countTop a.figures.trips (n + n') = a.figures.trips := congrArg Figures.trips figures
  have equivalent : satAdd Config.elapsedTop a.figures.equivalent ((r + r') * perClass cfg.tripEquivalent l.cls) = a.figures.equivalent :=
    congrArg Figures.equivalent figures
  have service := congrArg Account.live same
  dsimp only at service
  rw [equivalent] at service
  rw [← satAdd_satAdd] at trips
  rw [Nat.add_mul, ← satAdd_satAdd] at equivalent
  have trips := Nat.le_antisymm ((le_satAdd _ _ _).trans trips.le) (le_satAdd _ _ _)
  have equivalent := Nat.le_antisymm ((le_satAdd _ _ _).trans equivalent.le) (le_satAdd _ _ _)
  rw [trips, equivalent, service]

/-- More trips do not lower the service state. -/
theorem trippedService_events (n r n' r' : Nat) :
    (serviceEvents l.service (trippedService cfg l n r a)
        ||| serviceEvents (trippedService cfg l n r a) (trippedService cfg l (n + n') (r + r') a))
      &&& serviceEvents l.service (trippedService cfg l (n + n') (r + r') a) =
        serviceEvents l.service (trippedService cfg l (n + n') (r + r') a) := by
  by_cases zero : n = 0
  · rw [trippedService, if_pos zero, serviceEvents_self, BitVec.zero_or, BitVec.and_self]
  · refine serviceEvents_chain _ _ _ ?_
    rw [trippedService, if_neg zero, trippedService, if_neg (by omega), Nat.add_mul, ← satAdd_satAdd]
    exact serviceOf_mono (le_satAdd _ _ _) l

end Account

/-! ### Trips of one unit (R92, R110) -/

/-- A unit's tally and the accounts bound to it after `n` trips of the unit, of which `r` carried a running mode. -/
structure TrippedAt (u : Fin 8) (n r : Nat) (s t : State) : Prop where
  config : t.config = s.config
  pins : t.pins = s.pins
  le : r ≤ n
  counts : t.tally.units[u] = { s.tally.units[u] with trips := satAdd Config.countTop s.tally.units[u].trips n }
  dirty : t.tally.dirty[u] = (s.tally.dirty[u] || decide (t.tally.units[u] ≠ s.tally.units[u]))
  unbound : ∀ k : Fin 24, s.tally.accounts[k].boundTo = none → t.tally.accounts[k] = s.tally.accounts[k]
  slots : ∀ (k : Fin 24) (a : Account) (d : Bool) (l : LiveFields), s.tally.accounts[k] = .held a d → a.live = some l → l.bound = some u →
    t.tally.accounts[k] = .held (trippedAccount s.config l n r a) (d || decide (trippedAccount s.config l n r a ≠ a))
    ∧ (s.up = true → t.port.latched &&& serviceEvents l.service (trippedService s.config l n r a) =
        serviceEvents l.service (trippedService s.config l n r a))
  raised : s.port.Raised t.port

theorem TrippedAt.still {s t : State} (u : Fin 8) (config : t.config = s.config) (pins : t.pins = s.pins) (tally : t.tally = s.tally)
    (raised : s.port.Raised t.port) : TrippedAt u 0 0 s t := by
  refine ⟨config, pins, Nat.le_refl 0, ?_, ?_, fun k _ => by rw [tally], fun k a d l slot live bound => ⟨?_, fun _ => ?_⟩, raised⟩
  · rw [tally, satAdd_zero]
  · rw [tally]
    simp
  · rw [tally, slot, trippedAccount, if_pos rfl]
    simp
  · rw [trippedService, if_pos rfl, serviceEvents_self]
    exact BitVec.and_zero

theorem TrippedAt.trans {u : Fin 8} {n r n' r' : Nat} {s m t : State} (one : TrippedAt u n r s m) (two : TrippedAt u n' r' m t) :
    TrippedAt u (n + n') (r + r') s t := by
  have up : m.up = s.up := by rw [State.up, one.pins]; rfl
  refine ⟨two.config.trans one.config, two.pins.trans one.pins, Nat.add_le_add one.le two.le, ?_, ?_, fun k none => ?_,
    fun k a d l slot live bound => ?_, one.raised.trans two.raised⟩
  · rw [two.counts, one.counts]
    dsimp only
    rw [satAdd_satAdd]
  · rw [two.dirty, one.dirty]
    refine mark_trans _ fun is => ?_
    have trips := congrArg UnitCounts.trips is
    rw [two.counts, one.counts] at trips
    dsimp only at trips
    rw [one.counts, Nat.le_antisymm ((le_satAdd _ _ _).trans trips.le) (le_satAdd _ _ _)]
  · have same := one.unbound k none
    rw [two.unbound k (by rw [same]; exact none), same]
  · obtain ⟨slot₁, raised₁⟩ := one.slots k a d l slot live bound
    obtain ⟨slot₂, raised₂⟩ := two.slots k _ _ _ slot₁ (trippedAccount_live live n r) bound
    rw [one.config] at slot₂ raised₂
    rw [trippedAccount_add live one.le two.le] at slot₂
    rw [trippedService_add live one.le two.le] at raised₂
    refine ⟨?_, fun there => ?_⟩
    · rw [slot₂, mark_trans d fun is => trippedAccount_stays live n' r' is]
    · have chain := trippedService_events (cfg := s.config) live n r n' r'
      exact and_contains_trans (and_or_contains (two.raised.keeps (raised₁ there)) (raised₂ (up.trans there))) chain

/-- A trip report of the unit. -/
theorem State.takeTripReport_own (u : Fin 8) (mode : UnitMode) (s : State) :
    TrippedAt u 1 (if mode.running.isSome then 1 else 0) s (s.takeTripReport u mode) := by
  obtain ⟨z, isZ⟩ : ∃ z : State, { s with tally := s.tally.changeUnit u fun c => { c with trips := count1 c.trips } } = z := ⟨_, rfl⟩
  have runs : s.takeTripReport u mode = z.onBound (forUnit u (accrueTrip s.config mode)) := by rw [State.takeTripReport, isZ]
  have accounts : z.tally.accounts = s.tally.accounts := by rw [← isZ]; rfl
  have tally : (s.takeTripReport u mode).tally = { s.tally.changeUnit u (fun c => { c with trips := count1 c.trips }) with
      accounts := Vector.ofFn fun k : Fin 24 => (s.tally.accounts[k].onBound (forUnit u (accrueTrip s.config mode))).1 } := by
    rw [runs, State.onBound_tally, ← isZ]
    rfl
  have slot : ∀ k : Fin 24, (s.takeTripReport u mode).tally.accounts[k] =
      (s.tally.accounts[k].onBound (forUnit u (accrueTrip s.config mode))).1 := fun k => by
    rw [tally]
    exact getElem_ofFn_fin _ k
  have raised := (s.takeTripReport_quiet u mode).1
  refine ⟨by simp, by simp, by split <;> decide, ?_, ?_, fun k none => ?_, fun k a d l held live bound => ?_, raised⟩
  · rw [tally, Tally.changeUnit]
    dsimp only
    rw [getElem_set_fin, if_pos rfl]
    rfl
  · rw [tally, Tally.changeUnit]
    dsimp only
    rw [getElem_set_fin, if_pos rfl, getElem_set_fin, if_pos rfl]
  · rw [slot, AccountSlot.onBound_other (by rw [none]; nofun)]
  · have found : (l.bound.bind fun v => forUnit u (accrueTrip s.config mode) v l.cls) = some (accrueTrip s.config mode l.cls) := by
      rw [bound, Option.bind_some, forUnit, if_pos rfl]
    have changed := AccountSlot.onBound_changed d live found
    rw [accrueTrip_eq live] at changed
    refine ⟨?_, fun up => ?_⟩
    · rw [slot, held, changed]
    · have latched := State.onBound_raised (f := forUnit u (accrueTrip s.config mode)) (s := z) (by rw [← isZ]; exact up) k
      rw [← runs, accounts, held, changed] at latched
      exact latched

/-- A trip report of another unit. -/
theorem State.takeTripReport_other {u v : Fin 8} (ne : v ≠ u) (mode : UnitMode) (s : State) :
    TrippedAt u 0 0 s (s.takeTripReport v mode) := by
  have tally : (s.takeTripReport v mode).tally = { s.tally.changeUnit v (fun c => { c with trips := count1 c.trips }) with
      accounts := Vector.ofFn fun k : Fin 24 => (s.tally.accounts[k].onBound (forUnit v (accrueTrip s.config mode))).1 } := by
    rw [State.takeTripReport, State.onBound_tally]
    rfl
  have slot : ∀ k : Fin 24, (s.takeTripReport v mode).tally.accounts[k] =
      (s.tally.accounts[k].onBound (forUnit v (accrueTrip s.config mode))).1 := fun k => by
    rw [tally]
    exact getElem_ofFn_fin _ k
  refine ⟨by simp, by simp, Nat.le_refl 0, ?_, ?_, fun k none => ?_, fun k a d l held live bound => ⟨?_, fun _ => ?_⟩,
    (s.takeTripReport_quiet v mode).1⟩
  · rw [tally, Tally.changeUnit, satAdd_zero]
    dsimp only
    rw [getElem_set_fin, if_neg ne]
  · rw [tally, Tally.changeUnit]
    dsimp only
    rw [getElem_set_fin, if_neg ne, getElem_set_fin, if_neg ne]
    simp
  · rw [slot, AccountSlot.onBound_other (by rw [none]; nofun)]
  · rw [slot, held, AccountSlot.onBound_other (by rw [AccountSlot.boundTo_held d live bound]; exact fun is => ne (Option.some.inj is).symm),
      trippedAccount, if_pos rfl]
    simp
  · rw [trippedService, if_pos rfl, serviceEvents_self]
    exact BitVec.and_zero

/-! ### The trips of a sample (R44) -/

/-- A line of the unit qualifies an assertion. -/
def State.tripsUnit (levels : Vector Bool 32) (stamp : Stamp) (u : Fin 8) (s : State) (i : Fin 32) : Bool :=
  decide (s.config.lines[i].unit.val = u.val + 1) && (carriedMode (s.lineEvent levels stamp i)).isSome

/-- A line of the unit qualifies an assertion that carries a running mode. -/
def State.tripsRunning (levels : Vector Bool 32) (stamp : Stamp) (u : Fin 8) (s : State) (i : Fin 32) : Bool :=
  decide (s.config.lines[i].unit.val = u.val + 1) && (carriedMode (s.lineEvent levels stamp i)).any CarriesRunning

theorem State.tripReported_config (i : Fin 32) (e : Option LineEvent) (s : State) : (s.tripReported i e).config = s.config := by
  unfold State.tripReported
  split <;> simp

theorem State.tripReported_pins (i : Fin 32) (e : Option LineEvent) (s : State) : (s.tripReported i e).pins = s.pins := by
  unfold State.tripReported
  split <;> simp

/-- The trip report of one line, as a unit has it. -/
theorem State.tripReported_at (u : Fin 8) (i : Fin 32) {e : Option LineEvent} (s : State)
    (mode : ∀ m, carriedMode e = some m → (m = .stationCommon ↔ s.config.lines[i].unit = 0)) :
    let own := decide (s.config.lines[i].unit.val = u.val + 1)
    TrippedAt u (if (own && (carriedMode e).isSome) = true then 1 else 0) (if (own && (carriedMode e).any CarriesRunning) = true then 1 else 0)
      s (s.tripReported i e) := by
  intro own
  have still := TrippedAt.still (s := s) u rfl rfl rfl (.refl _)
  unfold State.tripReported
  cases carried : carriedMode e with
  | none =>
    rw [Option.isSome_none, Option.any_none, Bool.and_false, if_neg Bool.false_ne_true]
    exact still
  | some m =>
    rw [Option.isSome_some, Option.any_some, Bool.and_true]
    dsimp only
    cases unit : unitAt s.config.lines[i].unit with
    | none =>
      have away : own = false := decide_eq_false fun is => by
        rw [unitAt_some.mpr is] at unit
        cases unit
      have runs : s.reportTrip i m = s := by unfold State.reportTrip; rw [unit]
      rw [runs, away, Bool.false_and, if_neg Bool.false_ne_true]
      exact still
    | some v =>
      have position := unitAt_some.mp unit
      cases m with
      | stationCommon =>
        rw [(mode _ carried).mp rfl] at position
        cases position
      | unit w =>
        have runs : s.reportTrip i (.unit w) = s.takeTripReport v w := by unfold State.reportTrip; rw [unit]
        rw [runs]
        by_cases is : v = u
        · subst is
          have there : own = true := decide_eq_true position
          rw [there, Bool.true_and, if_pos rfl]
          exact s.takeTripReport_own v w
        · have away : own = false := decide_eq_false fun at' => is (Fin.ext (by omega))
          rw [away, Bool.false_and, if_neg Bool.false_ne_true]
          exact s.takeTripReport_other is w

/-- One line in its turn, as a unit has it. -/
theorem LineTaken.tripped {levels : Vector Bool 32} {stamp : Stamp} {i : Fin 32} {s t : State} (u : Fin 8)
    (taken : LineTaken levels stamp i s t) (law : LineLaw s.config.lines[i] s.lines[i]) :
    TrippedAt u (if s.tripsUnit levels stamp u i = true then 1 else 0) (if s.tripsRunning levels stamp u i = true then 1 else 0) s t := by
  obtain ⟨z, config, tally, pins, raised, tally', port'⟩ := taken.reported
  have before := TrippedAt.still (s := s) (t := z) u config pins tally raised
  have report := z.tripReported_at u i (e := s.lineEvent levels stamp i) fun m carried => by
    rw [config]
    exact qualifiedBy_mode law (s.lineMode_stationCommon i) carried
  have after := TrippedAt.still (s := z.tripReported i (s.lineEvent levels stamp i)) (t := t) u
    (by rw [State.tripReported_config, config, taken.config]) (by rw [State.tripReported_pins, pins, taken.frame]) tally'
    (by rw [port']; exact .refl _)
  have whole := (before.trans report).trans after
  rw [config, Nat.zero_add, Nat.zero_add] at whole
  exact whole

/-- The lines of a sample, one after another, as a unit has them. -/
theorem State.foldl_sampleOne_tripped (levels : Vector Bool 32) (stamp : Stamp) (u : Fin 8) (l : List (Fin 32)) (nodup : l.Nodup) (s : State)
    (law : ∀ i ∈ l, LineLaw s.config.lines[i] s.lines[i]) :
    TrippedAt u (l.countP (s.tripsUnit levels stamp u)) (l.countP (s.tripsRunning levels stamp u)) s
      (l.foldl (fun t i => t.sampleOne stamp levels i) s) := by
  induction l generalizing s with
  | nil => exact .still u rfl rfl rfl (.refl _)
  | cons i l ih =>
    obtain ⟨apart, nodup⟩ := List.nodup_cons.mp nodup
    have taken := s.sampleOne_taken levels stamp i
    obtain ⟨m, isM⟩ : ∃ m, s.sampleOne stamp levels i = m := ⟨_, rfl⟩
    rw [List.foldl_cons, isM]
    rw [isM] at taken
    have line : ∀ j ∈ l, m.lines[j] = s.lines[j] := fun j mem => by
      rw [taken.lines, getElem_set_fin, if_neg fun (is : i = j) => apart (is ▸ mem)]
    have event : ∀ j ∈ l, m.lineEvent levels stamp j = s.lineEvent levels stamp j := fun j mem =>
      State.lineEvent_of_same levels stamp taken.config (by rw [taken.frame]) (line j mem)
    have first := taken.tripped u (law i List.mem_cons_self)
    have rest := ih nodup m fun j mem => by
      rw [taken.config, line j mem]
      exact law j (List.mem_cons_of_mem i mem)
    have trips : l.countP (m.tripsUnit levels stamp u) = l.countP (s.tripsUnit levels stamp u) := List.countP_congr fun j mem => by
      rw [State.tripsUnit, State.tripsUnit, taken.config, event j mem]
    have running : l.countP (m.tripsRunning levels stamp u) = l.countP (s.tripsRunning levels stamp u) := List.countP_congr fun j mem => by
      rw [State.tripsRunning, State.tripsRunning, taken.config, event j mem]
    rw [trips, running] at rest
    rw [List.countP_cons, List.countP_cons, Nat.add_comm, Nat.add_comm (List.countP (s.tripsRunning levels stamp u) l)]
    exact first.trans rest

theorem State.sampleLines_tripped (levels : Vector Bool 32) (first : List (Fin 32)) (u : Fin 8) (s : State)
    (law : ∀ i : Fin 32, LineLaw s.config.lines[i] s.lines[i]) :
    TrippedAt u ((List.finRange 32).countP (s.tripsUnit levels s.stamp u)) ((List.finRange 32).countP (s.tripsRunning levels s.stamp u)) s
      (s.sampleLines levels first) := by
  rw [← (sampleOrder_perm first).countP_eq, ← (sampleOrder_perm first).countP_eq]
  exact State.foldl_sampleOne_tripped levels s.stamp u _ (sampleOrder_nodup first) s fun i _ => law i

end Sys2Proof.Machine

namespace Sys2Proof.Proofs

open Sys2Proof Sys2Proof.Machine Sys2Proof.Claim Sys2Proof.Safety

/-- Settles O25: each unit, its tally and the accounts bound to it, by the trips of its lines. -/
theorem realTripsAreCounted : Obligations.RealTripsAreCounted := by
  intro dt levels first s t up law runs mode trips running
  rw [exec_tripLineSample dt levels first up] at runs
  have tripped : ∀ u : Fin 8, TrippedAt u (trips u) (running u) (s.pass dt) t := fun u => by
    have whole := (s.pass dt).sampleLines_tripped levels first u law
    cases runs
    exact whole
  refine ⟨marksChanges_iff.mpr ⟨fun u => (tripped u).dirty, fun k => ?marks⟩, fun u range => ?counts, fun k empty => ?free,
    fun k a found => ⟨fun unbound => ?unbound, fun l u live bound trips' range => ?bound⟩⟩
  case marks =>
    cases bound : s.tally.accounts[k].boundTo with
    | none =>
      rw [show t.tally.accounts[k] = s.tally.accounts[k] from (tripped 0).unbound k bound]
      exact .refl _
    | some u =>
      cases slot : s.tally.accounts[k] with
      | free r =>
        rw [slot] at bound
        cases bound
      | held a d =>
        rw [slot] at bound
        obtain ⟨l, live, bound⟩ := Option.bind_eq_some_iff.mp bound
        rw [((tripped u).slots k a d l slot live bound).1]
        rfl
  case counts =>
    have counts := (tripped u).counts
    rw [show (s.pass dt).tally = s.tally from rfl, satAdd_of_le range] at counts
    exact counts
  case free =>
    have away : s.tally.accounts[k].boundTo = none := by
      rw [accountAt_eq] at empty
      rw [AccountSlot.boundTo, empty]
      rfl
    rw [accountAt_eq] at empty ⊢
    rw [show t.tally.accounts[k] = s.tally.accounts[k] from (tripped 0).unbound k away]
    exact empty
  case unbound =>
    have away : s.tally.accounts[k].boundTo = none := by
      rw [accountAt_eq] at found
      rw [AccountSlot.boundTo, found]
      exact unbound
    rw [accountAt_eq] at found ⊢
    rw [show t.tally.accounts[k] = s.tally.accounts[k] from (tripped 0).unbound k away]
    exact found
  case bound =>
    obtain ⟨d, slot⟩ := accountAt_some found
    obtain ⟨slot, raised⟩ := (tripped u).slots k a d l slot live bound
    have after : accountAt t k = some (trippedAccount s.config l (trips u) (running u) a) := by
      rw [accountAt_eq, slot]
      rfl
    refine ⟨fun zero => ?_, fun positive => ⟨?_, ?_⟩⟩
    · rw [after, trippedAccount, if_pos zero]
    · rw [after, trippedAccount, if_neg (Nat.ne_of_gt positive), satAdd_of_le trips', satAdd_of_le range]
    · have latched := raised up
      rw [trippedService, if_neg (Nat.ne_of_gt positive), satAdd_of_le range] at latched
      exact latched

end Sys2Proof.Proofs
end

section
/-! ## The reading requests (R18, R51, R74, R93, R122, R140, R156, R157, R173, R177) -/

namespace Sys2Proof.Machine

open Sys2Proof Sys2Proof.Claim Sys2Proof.Safety

/-! ### Figures and records on the wire (R162) -/

theorem beBytes_length (k n : Nat) : (beBytes k n).length = k := by
  induction k generalizing n with
  | zero => rfl
  | succ k ih => rw [beBytes, List.length_append, ih, List.length_singleton]

theorem figureLayouts : FigureLayouts := by
  refine ⟨fun n => ⟨rfl, rfl, ?_, ?_⟩, fun z k => ⟨rfl, beBytes_length k _⟩, rfl, rfl, fun f => ⟨rfl, fun n => rfl⟩⟩
  · simp [u32, u16, beBytes, Nat.div_div_eq_div_mul]
  · simp [u40, u32, u8, beBytes, Nat.div_div_eq_div_mul]

theorem nameCodes : NameCodes := by
  unfold NameCodes
  simp only [TripMode.code, Origin.code, implies_true, true_and]
  decide +kernel

/-- An optional field that is one of an optional record's. -/
theorem opt_map {α β : Type} (f : β → List Byte) (g : α → β) (o : Option α) : opt f (o.map g) = opt (fun x => f (g x)) o := by
  cases o <;> rfl

/-- The state of a record as its two facts. -/
theorem TripRecord.state_code (r : TripRecord) :
    r.state.code = (if r.ack.isSome then 1 else 0) + if r.release.isSome then 2 else 0 := by
  unfold TripRecord.state
  cases r.release <;> cases r.ack <;> rfl

theorem TripRecord.isLive_eq (r : TripRecord) : r.isLive = !(r.release.isSome && r.ack.isSome) := by
  unfold TripRecord.isLive TripRecord.state
  cases r.release <;> cases r.ack <;> rfl

theorem recordLayouts : RecordLayouts := by
  refine ⟨fun t => rfl, fun c => ?_, fun e => ?_, fun i => rfl, fun k r => ?_, fun e => rfl, fun k a d => ?_, fun w => rfl, fun p => rfl⟩
  · simp only [UnitCounts.bytes, PerMode.bytes, List.append_assoc]
  · simp only [SideEntry.bytes, PerMode.bytes, List.append_assoc]
  · rw [TripRecord.bytes, TripRecord.state_code]
    rfl
  · simp only [Account.bytes, Account.contentBytes, Account.stateCode, PerMode.bytes, opt_map, List.append_assoc]
    rfl

/-! ### The bodies -/

theorem State.timeBody_eq (s : State) : s.timeBody = timeFields s := rfl

theorem State.lineBody_eq (i : Fin 32) (s : State) : s.lineBody i = lineFields i s := rfl

theorem State.tripBody_eq (k : Fin 48) (r : TripRecord) (s : State) : s.tripBody k r = tripFields k r s := by
  rw [State.tripBody, TripRecord.isLive_eq]
  rfl

theorem State.unitBody_eq (u : Fin 8) (s : State) : s.unitBody u = unitFields u s := by
  unfold unitFields
  simp only [accountAt_eq]
  rfl

theorem State.accountBody_eq (k : Fin 24) (a : Account) (d : Bool) (s : State) : s.accountBody k a d = accountFields k a d s := rfl

theorem State.storeBody_eq (s : State) : s.storeBody = storeFields s := rfl

theorem State.watchBody_eq (s : State) : s.watchBody = watchFields s := rfl

theorem State.currentShiftBody_eq (u : Fin 8) (s : State) : s.currentShiftBody u = currentFields u s := by
  simp only [State.currentShiftBody, currentFields, UnitCounts.bytes, UnitCounts.minus, PerMode.bytes, PerMode.minus, List.append_assoc]
  rfl

/-! ### The acts -/

section Acts

variable (c : Caller) (s : State)

theorem readLineAct_line (line : Fin 32) : readLineAct line.val c s = answer .ok (s.lineBody line) s := dif_pos line.isLt

theorem readLineAct_outside {line : Nat} (outside : 31 < line) : readLineAct line c s = refuse .badField s := dif_neg (by omega)

theorem readTripAct_held {k : Fin 48} {r : TripRecord} (held : s.trips.slots[k] = some r) :
    readTripAct k.val c s = answer .ok (s.tripBody k r) s := by
  have held : s.trips.slots[k.val] = some r := held
  rw [readTripAct, dif_pos k.isLt, held]

theorem readTripAct_free {k : Fin 48} (free : s.trips.slots[k] = none) : readTripAct k.val c s = refuse .notFound s := by
  have free : s.trips.slots[k.val] = none := free
  rw [readTripAct, dif_pos k.isLt, free]

theorem readTripAct_outside {slot : Nat} (outside : 47 < slot) : readTripAct slot c s = refuse .badField s := dif_neg (by omega)

theorem readUnitAct_unit (u : Fin 8) : readUnitAct (u.val + 1) c s = answer .ok (s.unitBody u) s := by
  rw [readUnitAct, unitPosition_unit]

theorem readUnitAct_outside {position : Nat} (outside : position = 0 ∨ 8 < position) : readUnitAct position c s = refuse .badField s := by
  rw [readUnitAct, unitPosition_none _ outside]

theorem readAccountSlot_held {k : Fin 24} {a : Account} {d : Bool} (held : s.tally.accounts[k] = .held a d) :
    readAccountSlot k c s = answer .ok (s.accountBody k a d) s := by
  rw [readAccountSlot, held]

theorem readAccountSlot_free {k : Fin 24} {r : Bool} (free : s.tally.accounts[k] = .free r) :
    readAccountSlot k c s = refuse .notFound s := by
  rw [readAccountSlot, free]

theorem readAccountAct_slot (k : Fin 24) : readAccountAct (.slot k.val) c s = readAccountSlot k c s := dif_pos k.isLt

theorem readAccountAct_outside {slot : Nat} (outside : 23 < slot) : readAccountAct (.slot slot) c s = refuse .badField s :=
  dif_neg (by omega)

theorem readAccountAct_tag {t : List Byte} {k : Fin 24} (valid : tagValid t = true) (found : s.tally.tagSlot t = some k) :
    readAccountAct (.tag t) c s = readAccountSlot k c s := by
  simp only [readAccountAct, valid, found, if_true]

theorem readAccountAct_tagFree {t : List Byte} (valid : tagValid t = true) (none : s.tally.tagSlot t = none) :
    readAccountAct (.tag t) c s = refuse .notFound s := by
  simp only [readAccountAct, valid, none, if_true]

theorem readAccountAct_tagBad {t : List Byte} (bad : tagValid t = false) : readAccountAct (.tag t) c s = refuse .badField s := by
  simp only [readAccountAct, bad, Bool.false_eq_true, if_false]

theorem readShiftTallyAct_current (u : Fin 8) : readShiftTallyAct (u.val + 1) 0 c s = answer .ok (s.currentShiftBody u) s := by
  simp only [readShiftTallyAct, unitPosition_unit]

theorem readShiftTallyAct_previous (u : Fin 8) {p : PreviousShift} (previous : s.watch.previous = some p) :
    readShiftTallyAct (u.val + 1) 1 c s = answer .ok (p.deltas[u].bytes ++ p.header) s := by
  simp only [readShiftTallyAct, unitPosition_unit, previous]

theorem readShiftTallyAct_absent (u : Fin 8) (previous : s.watch.previous = none) :
    readShiftTallyAct (u.val + 1) 1 c s = refuse .absent s := by
  simp only [readShiftTallyAct, unitPosition_unit, previous]

theorem readShiftTallyAct_outside {position selector : Nat} (outside : position = 0 ∨ 8 < position ∨ 1 < selector) :
    readShiftTallyAct position selector c s = refuse .badField s := by
  unfold readShiftTallyAct
  split
  case h_1 u named =>
    rw [unitPosition_none _ (by omega)] at named
    cases named
  case h_2 u named =>
    rw [unitPosition_none _ (by omega)] at named
    cases named
  case h_3 => rfl

theorem readConfigAct_item {code index : Nat} (named : index < itemIndices code) : readConfigAct code index c s =
    answer .ok (beInt 4 (itemGet s.config code index) ++ beInt 4 (itemGet .factory code index) ++ flag s.store.configFault
      ++ flag s.store.configWrite.isSome) s := if_neg (by simp [itemNamed, named])

theorem readConfigAct_outside {code index : Nat} (outside : itemIndices code ≤ index) : readConfigAct code index c s = refuse .badField s :=
  if_pos (by simp [itemNamed, outside])

end Acts

end Sys2Proof.Machine

namespace Sys2Proof.Proofs

open Sys2Proof Sys2Proof.Machine Sys2Proof.Claim Sys2Proof.Safety

/-- Settles O2: the layouts, and each reading request by the cases of its act. -/
theorem readsAnswerAndChangeNothing : Obligations.ReadsAnswerAndChangeNothing := by
  refine ⟨figureLayouts, nameCodes, recordLayouts, fun h i s taken => ?_⟩
  intro z
  refine ⟨?time, fun line => ?line, fun line outside => ?noLine, fun k r held => ?trip, fun k free => ?noTrip, fun slot outside => ?tripOut,
    fun u => ?unit, fun position outside => ?noUnit, fun k a d held => ?account, fun k r free => ?noAccount, fun slot outside => ?accountOut,
    fun t k a d valid found held => ?tag, fun t valid none => ?noTag, fun t bad => ?badTag, ?store, ?watch, fun u => ?current,
    fun u p previous => ?previous, fun u previous => ?absent, fun position selector outside => ?noShift, ?conditions,
    fun code index named => ?item, fun code index outside => ?noItem⟩
  case time => exact answers_of_act taken rfl fun c => by rw [← State.timeBody_eq]; rfl
  case line => exact answers_of_act taken rfl fun c => by rw [← State.lineBody_eq]; exact readLineAct_line c z line
  case noLine => exact answers_of_act taken rfl fun c => readLineAct_outside c z outside
  case trip => exact answers_of_act taken rfl fun c => by rw [← State.tripBody_eq]; exact readTripAct_held c z held
  case noTrip => exact answers_of_act taken rfl fun c => readTripAct_free c z free
  case tripOut => exact answers_of_act taken rfl fun c => readTripAct_outside c z outside
  case unit => exact answers_of_act taken rfl fun c => by rw [← State.unitBody_eq]; exact readUnitAct_unit c z u
  case noUnit => exact answers_of_act taken rfl fun c => readUnitAct_outside c z outside
  case account =>
    exact answers_of_act taken rfl fun c => (readAccountAct_slot c z k).trans (readAccountSlot_held c z held)
  case noAccount => exact answers_of_act taken rfl fun c => (readAccountAct_slot c z k).trans (readAccountSlot_free c z free)
  case accountOut => exact answers_of_act taken rfl fun c => readAccountAct_outside c z outside
  case tag => exact answers_of_act taken rfl fun c => (readAccountAct_tag c z valid found).trans (readAccountSlot_held c z held)
  case noTag => exact answers_of_act taken rfl fun c => readAccountAct_tagFree c z valid none
  case badTag => exact answers_of_act taken rfl fun c => readAccountAct_tagBad c z bad
  case store => exact answers_of_act taken rfl fun c => by rw [← State.storeBody_eq]; rfl
  case watch => exact answers_of_act taken rfl fun c => by rw [← State.watchBody_eq]; rfl
  case current => exact answers_of_act taken rfl fun c => by rw [← State.currentShiftBody_eq]; exact readShiftTallyAct_current c z u
  case previous => exact answers_of_act taken rfl fun c => readShiftTallyAct_previous c z u previous
  case absent => exact answers_of_act taken rfl fun c => readShiftTallyAct_absent c z u previous
  case noShift => exact answers_of_act taken rfl fun c => readShiftTallyAct_outside c z outside
  case conditions => exact answers_of_act taken rfl fun c => rfl
  case item => exact answers_of_act taken rfl fun c => readConfigAct_item c z named
  case noItem => exact answers_of_act taken rfl fun c => readConfigAct_outside c z outside

end Sys2Proof.Proofs
end

section
/-! ## The state after reset (R180; log 5) -/

namespace Sys2Proof.Machine

open Sys2Proof Sys2Proof.Claim Sys2Proof.Safety

set_option maxRecDepth 100000 in
/-- The cold start of a part as delivered, run. -/
theorem coldStart_delivered : (delivered.pass 0).powerUp .cold State.coldStart = State.reset := by decide +kernel

theorem exec_coldStart_delivered : exec (.coldStart 0) delivered = .next State.reset := by
  have off : (!(delivered.pass 0).pins.mainPower && !(delivered.pass 0).pins.retainedValid) = true := rfl
  rw [exec, execColdStart, if_pos off, coldStart_delivered]

theorem watchLaw_reset : WatchLaw State.reset.watch :=
  ⟨fun _ => ⟨rfl, rfl, rfl, rfl, rfl, rfl, rfl, rfl⟩, nofun, nofun, nofun⟩

/-- No trip record stands after reset. -/
theorem slots_reset (i : Fin 48) : State.reset.trips.slots[i] = none := by
  rw [State.reset]
  exact Vector.getElem_replicate i.isLt

theorem tripLaw_reset : TripLaw State.reset.trips := by
  refine ⟨fun i j r q there => ?_, fun i r e there => ?_, List.nodup_nil, fun some => (some rfl).elim⟩
  · rw [slots_reset] at there
    cases there
  · rw [slots_reset] at there
    cases there

theorem accountLaw_reset : AccountLaw State.reset.tally := by
  intro i j l m there
  have free : State.reset.tally.accounts[i] = .free false := by
    rw [State.reset]
    exact Vector.getElem_replicate i.isLt
  rw [free] at there
  cases there

theorem lineLaw_reset (i : Fin 32) : LineLaw State.reset.config.lines[i] State.reset.lines[i] := by
  have line : State.reset.lines[i] = ⟨.released, 0, none, none, false, false, none⟩ := by
    rw [State.reset]
    exact Vector.getElem_replicate i.isLt
  rw [line]
  exact ⟨fun _ => ⟨rfl, rfl, rfl⟩, nofun, nofun⟩

theorem storeLaw_reset : StoreLaw State.reset.store := ⟨fun _ => .inl rfl, nofun⟩

theorem portLaw_reset : PortLaw State.reset.port State.reset.store := by
  have free : ∀ i : Fin 2, State.reset.port.slots[i] = .free := fun i => by
    rw [State.reset]
    exact Vector.getElem_replicate i.isLt
  refine ⟨by decide, by decide, fun i head is => ?_, fun i j a b is => ?_, fun i n r is => ?_, fun i j n r q is => ?_⟩
  all_goals
    rw [free] at is
    cases is

theorem timeLaw_reset : TimeLaw State.reset := by
  unfold TimeLaw
  decide

theorem walkLaw_reset : WalkLaw State.reset := ⟨nofun, nofun⟩

end Sys2Proof.Machine

namespace Sys2Proof.Proofs

open Sys2Proof Sys2Proof.Machine Sys2Proof.Claim Sys2Proof.Safety

/-- Settles O60, by running the cold start and reading the laws off what it leaves. -/
theorem resetIsADeliveredColdStart : Obligations.ResetIsADeliveredColdStart :=
  ⟨exec_coldStart_delivered, watchLaw_reset, tripLaw_reset, accountLaw_reset, lineLaw_reset, storeLaw_reset, portLaw_reset, timeLaw_reset,
    walkLaw_reset⟩

end Sys2Proof.Proofs
end

section
/-! ## What the starts share: the start checks, the start trigger and the walk it begins (R137, R138) -/

namespace Sys2Proof.Machine

open Sys2Proof Sys2Proof.Claim Sys2Proof.Safety

/-! ### The walk sequence counter (R137) -/

theorem foldl_max_eq (l : List Nat) : l.foldl max 0 = l.max?.getD 0 := by
  cases l with
  | nil => rfl
  | cons x l => rw [List.foldl_cons, List.max?_cons', Option.getD_some, Nat.zero_max]

theorem Store.nextSequence_eq (t : Store) : t.nextSequence = restoredSequence t := by
  rw [Store.nextSequence, satSucc_eq_upTo, restoredSequence, ← foldl_max_eq, List.foldl_filterMap]
  refine congrArg _ (List.foldl_ext _ _ _ fun m i _ => ?_)
  cases t.foundGood i <;> rfl

/-! ### The start trigger (R126, R132) -/

/-- The walk that a start trigger begins with the port free: the tallies and the store it leaves. -/
def startWalk (warning : Bool) (y : Tally) (t : Store) : Tally × Store :=
  let b := t.begin (if warning then .final else .walking)
  (y.nextMarked 0).elim (y, { b with walk := if warning && y.freeze then .held else .idle })
    fun j => (y.setMark false j, { b with index := j, write := some ⟨j, false, t.sequence, y.contents j⟩ })

/-- The store as a start check leaves it (R137, R138). -/
structure Store.AtStart (t : Store) : Prop where
  walk : t.walk = .idle
  write : t.write = none
  configWrite : t.configWrite = none
  finalDue : t.finalDue = false

theorem Store.checked_atStart (t : Store) : t.checked.AtStart := ⟨rfl, rfl, rfl, rfl⟩

theorem Store.AtStart.holder {t : Store} (fresh : t.AtStart) : t.holder = .none :=
  (Store.holder_none_iff t).mpr ⟨fresh.write, fun b i is => by rw [fresh.configWrite] at is; cases is⟩

/-- No configuration write waits for the port. -/
theorem State.grantConfig_none {s : State} (none : s.store.configWrite = none) : s.grantConfig = s := by
  rw [State.grantConfig, if_neg (by simp [Store.configWaiting, none])]

/-- A walk of either kind that begins with the port free and nothing asked. -/
theorem State.goOn_begun {b : State} {final : Bool} (walk : b.store.walk = if final then .final else .walking)
    (again : b.store.again = false) (write : b.store.write = none) (none : b.store.configWrite = none) :
    b.goOn 0 = (b.tally.nextMarked 0).elim { b with store := { b.store with walk := if final && b.tally.freeze then .held else .idle } }
      b.capture := by
  have free : b.store.holder = .none := (Store.holder_none_iff _).mpr ⟨write, fun x i is => by rw [none] at is; cases is⟩
  cases next : b.tally.nextMarked 0 with
  | some j => exact State.goOn_capture (Tally.nextMarked_first.mp next) free
  | none =>
    rw [State.goOn_passed ((b.tally.nextMarked_none 0).mp next)]
    cases final with
    | false => exact State.endWalk_idle walk again
    | true =>
      rw [State.endWalk_final walk, State.grantConfig_none (by exact none)]
      rfl

theorem State.startTrigger_eq {b : State} (fresh : b.store.AtStart) : b.startTrigger =
    { b with tally := (startWalk b.pins.warningLine b.tally b.store).1, store := (startWalk b.pins.warningLine b.tally b.store).2 } := by
  obtain ⟨walk, write, none, due⟩ := fresh
  unfold State.startTrigger startWalk
  cases b.pins.warningLine with
  | true =>
    have still : { b.store.begin .final with finalDue := false } = b.store.begin .final := by rw [Store.begin, ← due]
    rw [if_pos rfl, State.takeWarning_eq (by rw [walk]; nofun) (by rw [walk]; nofun),
      if_pos (Store.AtStart.holder ⟨walk, write, none, due⟩), State.beginFinal, still,
      State.goOn_begun (b := { b with store := b.store.begin .final }) (final := true) rfl rfl write none]
    cases b.tally.nextMarked 0 <;> rfl
  | false =>
    rw [if_neg Bool.false_ne_true, State.trigger_idle walk,
      State.goOn_begun (b := { b with store := b.store.begin .walking }) (final := false) rfl rfl write none]
    cases b.tally.nextMarked 0 <;> rfl

section Walk

variable (warning : Bool) {y : Tally} {t : Store}

/-- What a start trigger's walk leaves of the tallies: marks alone change. -/
theorem startWalk_tally : let w := (startWalk warning y t).1
    w.units = y.units ∧ w.side = y.side ∧ w.freeze = y.freeze ∧ w.serial = y.serial
      ∧ ∀ k : Fin 24, w.accounts[k].account = y.accounts[k].account := by
  unfold startWalk
  cases y.nextMarked 0 with
  | none => exact ⟨rfl, rfl, rfl, rfl, fun _ => rfl⟩
  | some j =>
    exact ⟨Tally.setMark_units _ _ _, Tally.setMark_side _ _ _, Tally.setMark_freeze _ _ _, Tally.setMark_serial _ _ _,
      fun k => Tally.setMark_account _ _ _ k⟩

/-- What a start trigger's walk leaves of the store beside the walk. -/
theorem startWalk_store : let x := (startWalk warning y t).2
    x.images = t.images ∧ x.configImage = t.configImage ∧ x.configFault = t.configFault ∧ x.failed = t.failed ∧ x.numbers = t.numbers
      ∧ x.periodic = t.periodic ∧ x.configWrite = t.configWrite ∧ x.number = t.sequence
      ∧ x.sequence = upTo Config.countTop t.sequence ∧ x.again = false := by
  have next : (t.begin (if warning then .final else .walking)).sequence = upTo Config.countTop t.sequence := satSucc_eq_upTo _ _
  unfold startWalk
  cases y.nextMarked 0 with
  | none => exact ⟨rfl, rfl, rfl, rfl, rfl, rfl, rfl, rfl, next, rfl⟩
  | some j => exact ⟨rfl, rfl, rfl, rfl, rfl, rfl, rfl, rfl, next, rfl⟩

/-- The walk from image 0 (R126 to R128). -/
theorem startWalk_goesOn {u : State} (tally : u.tally = (startWalk warning y t).1) (store : u.store = (startWalk warning y t).2) :
    GoesOn (if warning then .final else .walking) 0 t.sequence y true u := by
  intro j first
  rw [tally, store, startWalk, Tally.nextMarked_first.mpr first]
  exact ⟨rfl, rfl, rfl, rfl, rfl⟩

/-- A walk that finds no mark ends at once. -/
theorem startWalk_endsIn {u : State} (tally : u.tally = (startWalk warning y t).1) (store : u.store = (startWalk warning y t).2)
    (free : t.write = none) (freeze : y.freeze = warning) (none : NoneMarked y 0) : EndsIn (if warning then .held else .idle) y u := by
  have walks : (if (warning && warning) = true then WalkState.held else .idle) = if warning then .held else .idle := by
    rw [Bool.and_self]
  rw [EndsIn, tally, store, startWalk, (y.nextMarked_none 0).mpr none, freeze]
  exact ⟨walks, free, rfl⟩

end Walk

end Sys2Proof.Machine
end

section
/-! ## The start at the release of the reset line: a figure beyond its range (R87, R118, R182) -/

namespace Sys2Proof.Machine

open Sys2Proof Sys2Proof.Claim Sys2Proof.Safety

/-! `PerMode.addAll` increases the figures of its second argument, and `TakenUp` writes `c.run.addAll e.run`: an entry of the side
table increased by the tally's figure, which holds the figure at its top. Where the side table stands, with the warning asserted, the
machine leaves the tallies as they are, also a figure above the top. -/

/-- A part in reset under the warning, with a run figure of one unit just above its top. -/
def beyondTop : State := { State.reset with
  pins := { State.reset.pins with resetLine := true, warningLine := true }
  tally := { State.reset.tally with
    units := State.reset.tally.units.set 0 { UnitCounts.zero with run := { PerMode.zero with generate := 4294967296 } } } }

set_option maxRecDepth 100000 in
/-- The machine's start leaves the figure. -/
theorem lineReleased_beyondTop : ((beyondTop.pass 0).lineReleased).tally.units[(0 : Fin 8)].run.generate = 4294967296 := by decide +kernel

theorem exec_resetLineReleased_beyondTop : exec (.resetLineReleased 0) beyondTop = .next (beyondTop.pass 0).lineReleased := by
  rw [exec, execResetLineReleased, if_pos (by rfl)]

/-- A unit tally that a start takes up, as the statement has it without a credit. -/
theorem TakenUp.unit {gap : Nat} {k : StartKind} {s t : State} (taken : TakenUp gap false k s t) (u : Fin 8) :
    t.tally.units[u].run = s.tally.units[u].run.addAll .zero := by
  obtain ⟨-, -, -, units, -⟩ := taken
  rw [units, getElem_ofFn_fin]
  rfl

/-- The statement holds the figure at its top. -/
theorem TakenUp.beyondTop {t : State} (taken : TakenUp 0 false .resetLine beyondTop t) :
    t.tally.units[(0 : Fin 8)].run.generate = 4294967295 := by
  rw [TakenUp.unit taken]
  decide

end Sys2Proof.Machine

namespace Sys2Proof.Proofs

open Sys2Proof Sys2Proof.Machine Sys2Proof.Claim Sys2Proof.Safety

/-- Refutes O53: with the side table kept, a run figure above its top stands at the start, and the statement holds it at the top. -/
theorem not_warmAndResetStart : ¬ Obligations.WarmAndResetStart := by
  rintro ⟨-, reset, -⟩
  obtain ⟨t, runs, -, -, -, -, taken⟩ := reset 0 beyondTop rfl rfl rfl
  rw [exec_resetLineReleased_beyondTop] at runs
  rw [← Host.Outcome.next.inj runs] at taken
  have top := TakenUp.beyondTop taken
  exact absurd (top.symm.trans lineReleased_beyondTop) (by decide)

end Sys2Proof.Proofs
end

section
/-! ## The account table restored at a cold start (R119, R120, R137) -/

namespace Sys2Proof.Machine

open Sys2Proof Sys2Proof.Claim Sys2Proof.Safety

/-! ### Slots and serials from their images (R120 step 1, R137) -/

theorem restoredSlot_eq (st : Store) (k : Fin 24) : restoredSlot st k =
    if badSlot st k then none else some ((restoredAt st k).elim (.free false) fun a => .held a false) := by
  unfold restoredSlot badSlot restoredAt
  dsimp only
  cases good : st.foundGood (accountImage k) with
  | false => rfl
  | true =>
    have fits : st.images[accountImage k].content.fits (accountImage k) = true := (Bool.and_eq_true_iff.mp good).2
    cases content : st.images[accountImage k].content with
    | account a => rfl
    | empty => rfl
    | unit c =>
      rw [content] at fits
      simp [ImageContent.fits, accountImage] at fits

theorem restoredAt_bad {st : Store} {k : Fin 24} (bad : badSlot st k = true) : restoredAt st k = none := by
  have good : st.foundGood (accountImage k) = false := by simpa [badSlot] using bad
  unfold restoredAt
  rw [good]

theorem restoredSlot_account (st : Store) (k : Fin 24) : (restoredSlot st k).bind (·.account) = restoredAt st k := by
  rw [restoredSlot_eq]
  cases bad : badSlot st k with
  | true => rw [restoredAt_bad bad]; rfl
  | false => cases restoredAt st k <;> rfl

theorem restoredSerial_eq (st : Store) : restoredSerial st = firstSerial st := by
  unfold restoredSerial firstSerial
  simp only [restoredSlot_account]
  cases (List.finRange 24).filterMap fun k => (restoredAt st k).map (·.serial.toNat) with
  | nil => rfl
  | cons x l => rw [List.max?_cons']

/-- The restore leaves the rest of the tallies. -/
theorem restored_keeps (st : Store) (t : Tally) : (t.restored st).units = t.units ∧ (t.restored st).dirty = t.dirty
    ∧ (t.restored st).side = t.side ∧ (t.restored st).freeze = t.freeze := by
  rw [Tally.restored]
  exact ⟨by dsimp only, by dsimp only, by dsimp only, by dsimp only⟩

theorem restored_slot (st : Store) (t : Tally) (k : Fin 24) : (t.restored st).accounts[k] =
    if badSlot st k then .free false else (restoredAt st k).elim (.free false) fun a => .held a false := by
  rw [Tally.restored, getElem_ofFn_fin, restoredSlot_eq]
  cases badSlot st k <;> rfl

theorem restored_liveFields (st : Store) (t : Tally) (k : Fin 24) : (t.restored st).accounts[k].liveFields = restoredLive st k := by
  rw [restored_slot, restoredLive]
  cases bad : badSlot st k with
  | true => rw [restoredAt_bad bad]; rfl
  | false => cases restoredAt st k <;> rfl

/-! ### Slots held LOST with serials in turn (R98, R119) -/

/-- A slot held LOST with the serial so many after another. -/
def lostSlot (serial : Word16) (n : Nat) : AccountSlot := .held (lostAccount (serial + BitVec.ofNat 16 n)) true

theorem Tally.loseAll_cons (k : Fin 24) (l : List (Fin 24)) (t : Tally) : t.loseAll (k :: l) = (t.lose k).loseAll l := rfl

theorem Tally.loseAll_keeps (l : List (Fin 24)) (t : Tally) : (t.loseAll l).units = t.units ∧ (t.loseAll l).dirty = t.dirty
    ∧ (t.loseAll l).side = t.side ∧ (t.loseAll l).freeze = t.freeze := by
  induction l generalizing t with
  | nil => exact ⟨rfl, rfl, rfl, rfl⟩
  | cons k l ih => exact ih (t.lose k)

theorem Tally.loseAll_serial (l : List (Fin 24)) (t : Tally) : (t.loseAll l).serial = t.serial + BitVec.ofNat 16 l.length := by
  induction l generalizing t with
  | nil => exact (BitVec.add_zero _).symm
  | cons k l ih =>
    rw [Tally.loseAll_cons, ih, Tally.lose, List.length_cons, Nat.add_comm, BitVec.ofNat_add, ← BitVec.add_assoc]
    rfl

theorem Tally.loseAll_other {l : List (Fin 24)} {k : Fin 24} (out : k ∉ l) (t : Tally) : (t.loseAll l).accounts[k] = t.accounts[k] := by
  induction l generalizing t with
  | nil => rfl
  | cons j l ih =>
    obtain ⟨ne, out⟩ := not_or.mp fun is => out (List.mem_cons.mpr is)
    rw [Tally.loseAll_cons, ih out, Tally.lose, getElem_set_fin, if_neg (Ne.symm ne)]

/-- The slots of a list in slot order take their serials in that order. -/
theorem Tally.loseAll_listed {l : List (Fin 24)} (order : l.Pairwise (· < ·)) {k : Fin 24} (mem : k ∈ l) (t : Tally) :
    (t.loseAll l).accounts[k] = lostSlot t.serial (l.countP fun j => decide (j < k)) := by
  induction l generalizing t with
  | nil => cases mem
  | cons j l ih =>
    obtain ⟨first, order⟩ := List.pairwise_cons.mp order
    rw [Tally.loseAll_cons, List.countP_cons]
    by_cases is : k = j
    · subst is
      have before : (l.countP fun j => decide (j < k)) = 0 :=
        List.countP_eq_zero.mpr fun i there => by simpa using (first i there).le
      have out : k ∉ l := fun there => lt_irrefl k (first k there)
      rw [Tally.loseAll_other out, before, if_neg (by simp), Tally.lose, getElem_set_fin, if_pos rfl, lostSlot]
      exact congrArg (fun x => AccountSlot.held (lostAccount x) true) (BitVec.add_zero _).symm
    · have mem := (List.mem_cons.mp mem).resolve_left is
      rw [ih order mem, if_pos (by simpa using first k mem), lostSlot, lostSlot, Tally.lose, Nat.add_comm, BitVec.ofNat_add, ← BitVec.add_assoc]
      rfl

/-- The slots of a kind in slot order. -/
def slotsOf (p : Fin 24 → Bool) : List (Fin 24) := (List.finRange 24).filter p

theorem mem_slotsOf {p : Fin 24 → Bool} {k : Fin 24} : k ∈ slotsOf p ↔ p k = true := by
  simp [slotsOf]

theorem slotsOf_before (p : Fin 24 → Bool) (k : Fin 24) : ((slotsOf p).countP fun j => decide (j < k)) = countBelow k.val p := by
  rw [slotsOf, List.countP_filter, countBelow]
  rfl

theorem slotsOf_length (p : Fin 24 → Bool) : (slotsOf p).length = countBelow 24 p := by
  rw [slotsOf, ← List.countP_eq_length_filter, countBelow]
  exact List.countP_congr fun j _ => by simp

theorem Tally.loseAll_slotsOf (p : Fin 24 → Bool) (t : Tally) (k : Fin 24) : (t.loseAll (slotsOf p)).accounts[k] =
    if p k then lostSlot t.serial (countBelow k.val p) else t.accounts[k] := by
  cases is : p k with
  | true =>
    have order : (slotsOf p).Pairwise (· < ·) := (List.pairwise_lt_finRange 24).filter p
    rw [if_pos rfl, Tally.loseAll_listed order (mem_slotsOf.mpr is), slotsOf_before]
  | false =>
    rw [if_neg Bool.false_ne_true, Tally.loseAll_other fun mem => by
      rw [mem_slotsOf, is] at mem
      cases mem]

/-! ### Bad slots, twins and double bindings (R120 steps 2 to 4) -/

theorem Store.outranks_eq (st : Store) (j k : Fin 24) : st.outranks j k = outlasts st j k := by
  unfold Store.outranks outlasts Store.slotNumber
  rw [Bool.eq_iff_iff]
  simp

theorem restoredSlot_isNone (st : Store) : (fun k => (restoredSlot st k).isNone) = badSlot st := by
  funext k
  rw [restoredSlot_eq]
  cases badSlot st k <;> rfl

section Settled

variable (st : Store) (t : Tally)

theorem badLost_eq : t.badLost st = (t.restored st).loseAll (slotsOf (badSlot st)) := by
  rw [Tally.badLost, restoredSlot_isNone]
  rfl

theorem restoredLive_bad {k : Fin 24} (bad : badSlot st k = true) : restoredLive st k = none := by
  rw [restoredLive, restoredAt_bad bad]
  rfl

theorem badLost_liveFields (k : Fin 24) : (t.badLost st).accounts[k].liveFields = restoredLive st k := by
  rw [badLost_eq, Tally.loseAll_slotsOf]
  cases bad : badSlot st k with
  | true =>
    rw [if_pos rfl, restoredLive_bad st bad]
    rfl
  | false => rw [if_neg Bool.false_ne_true, restored_liveFields]

theorem badLost_outranked : (t.badLost st).outranked st sameTag = twinSlot st := by
  funext k
  unfold Tally.outranked twinSlot
  simp only [badLost_liveFields, Store.outranks_eq, sameTag, Bool.beq_comm]

theorem twinsLost_eq : t.twinsLost st = (t.badLost st).loseAll (slotsOf (twinSlot st)) := by
  rw [Tally.twinsLost, badLost_outranked]
  rfl

/-- A twin is restored from a good image. -/
theorem twinSlot_bad {k : Fin 24} (bad : badSlot st k = true) : twinSlot st k = false := by
  unfold twinSlot
  rw [restoredLive_bad st bad]
  simp

theorem badLost_serial : (t.badLost st).serial = firstSerial st + BitVec.ofNat 16 (countBelow 24 (badSlot st)) := by
  rw [badLost_eq, Tally.loseAll_serial, slotsOf_length, ← restoredSerial_eq]
  rfl

theorem twinsLost_serial : (t.twinsLost st).serial =
    firstSerial st + BitVec.ofNat 16 (countBelow 24 (badSlot st) + countBelow 24 (twinSlot st)) := by
  rw [twinsLost_eq, Tally.loseAll_serial, slotsOf_length, badLost_serial, BitVec.ofNat_add, BitVec.add_assoc]

theorem twinsLost_slot (k : Fin 24) : (t.twinsLost st).accounts[k] =
    if badSlot st k then lostSlot (firstSerial st) (countBelow k.val (badSlot st))
    else if twinSlot st k then lostSlot (firstSerial st) (countBelow 24 (badSlot st) + countBelow k.val (twinSlot st))
    else (restoredAt st k).elim (.free false) fun a => .held a false := by
  rw [twinsLost_eq, Tally.loseAll_slotsOf, badLost_serial, badLost_eq, Tally.loseAll_slotsOf, restored_slot]
  cases bad : badSlot st k with
  | true =>
    rw [twinSlot_bad st bad, if_neg Bool.false_ne_true, if_pos rfl, if_pos rfl, ← restoredSerial_eq]
    rfl
  | false =>
    simp only [Bool.false_eq_true, if_false]
    rw [lostSlot, lostSlot, BitVec.ofNat_add, BitVec.add_assoc]

theorem twinsLost_liveFields (k : Fin 24) : (t.twinsLost st).accounts[k].liveFields =
    if twinSlot st k then none else restoredLive st k := by
  rw [twinsLost_eq, Tally.loseAll_slotsOf]
  cases twinSlot st k with
  | true => rfl
  | false => rw [if_neg Bool.false_ne_true, if_neg Bool.false_ne_true, badLost_liveFields]

/-- An account kept, bound where one that outlasts it is bound with the same class. -/
theorem twinsLost_outranked {k : Fin 24} (kept : twinSlot st k = false) : (t.twinsLost st).outranked st sameBinding k = doublyBound st k := by
  unfold Tally.outranked doublyBound
  refine congrArg (List.any _) (funext fun j => ?_)
  rw [twinsLost_liveFields, twinsLost_liveFields, kept, if_neg Bool.false_ne_true, Store.outranks_eq]
  cases restoredLive st k with
  | none => simp
  | some l =>
    cases twinSlot st j with
    | true => simp
    | false =>
      cases restoredLive st j with
      | none => simp
      | some m =>
        simp only [Option.any_some, sameBinding, Bool.beq_comm (a := m.bound), Bool.beq_comm (a := m.cls), Bool.not_false, Bool.and_true,
          Bool.false_eq_true, if_false]
        cases l.cls == m.cls <;> cases l.bound.isSome <;> cases l.bound == m.bound <;> rfl

theorem doublyBound_free {k : Fin 24} (free : restoredAt st k = none) : doublyBound st k = false := by
  have none : restoredLive st k = none := by
    rw [restoredLive, free]
    rfl
  unfold doublyBound
  rw [none]
  simp

/-- A lost slot has no binding to free. -/
theorem lostSlot_unbound (serial : Word16) (n : Nat) : (lostSlot serial n).unbound = lostSlot serial n := rfl

/-- The account table as the cold start settles it. -/
theorem settled_slot (k : Fin 24) : (settledAccounts st t).1.accounts[k] = settledSlot st k := by
  rw [settledAccounts_eq, Tally.freeDoubles, getElem_ofFn_fin, twinsLost_slot]
  unfold settledSlot
  cases bad : badSlot st k with
  | true =>
    rw [if_pos rfl, lostSlot_unbound, ite_self]
    rfl
  | false =>
    rw [if_neg Bool.false_ne_true]
    cases twin : twinSlot st k with
    | true =>
      rw [if_pos rfl, lostSlot_unbound, ite_self]
      rfl
    | false =>
      rw [if_neg Bool.false_ne_true, twinsLost_outranked st t twin]
      cases held : restoredAt st k with
      | none =>
        rw [doublyBound_free st held]
        rfl
      | some a => cases doublyBound st k <;> rfl

/-- The restore and its losses leave the rest of the tallies. -/
theorem twinsLost_frame : let w := t.twinsLost st
    w.units = t.units ∧ w.dirty = t.dirty ∧ w.side = t.side ∧ w.freeze = t.freeze := by
  obtain ⟨units, dirty, side, freeze⟩ := Tally.loseAll_keeps (slotsOf (twinSlot st)) (t.badLost st)
  obtain ⟨units', dirty', side', freeze'⟩ := Tally.loseAll_keeps (slotsOf (badSlot st)) (t.restored st)
  rw [← twinsLost_eq] at units dirty side freeze
  rw [← badLost_eq] at units' dirty' side' freeze'
  obtain ⟨units₀, dirty₀, side₀, freeze₀⟩ := restored_keeps st t
  exact ⟨(units.trans units').trans units₀, (dirty.trans dirty').trans dirty₀, (side.trans side').trans side₀,
    (freeze.trans freeze').trans freeze₀⟩

/-- The rest of the settled tallies. -/
theorem settled_frame : (settledAccounts st t).1 = { t with
    accounts := Vector.ofFn fun k : Fin 24 => settledSlot st k
    serial := firstSerial st + BitVec.ofNat 16 (countBelow 24 (badSlot st) + countBelow 24 (twinSlot st)) } := by
  have accounts : (settledAccounts st t).1.accounts = Vector.ofFn fun k : Fin 24 => settledSlot st k := vector_ext fun k => by
    rw [settled_slot, getElem_ofFn_fin]
  obtain ⟨units, dirty, side, freeze⟩ := twinsLost_frame st t
  have serial := twinsLost_serial st t
  rw [settledAccounts_eq] at accounts ⊢
  generalize t.twinsLost st = w at *
  rw [← units, ← dirty, ← side, ← freeze, ← serial, ← accounts]
  rfl

/-- Accounts are lost where an image is bad, or a twin is found. -/
theorem settled_lost : (settledAccounts st t).2 = ((List.finRange 24).any (badSlot st) || (List.finRange 24).any (twinSlot st)) := by
  have empty : ∀ p : Fin 24 → Bool, (!((List.finRange 24).filter p).isEmpty) = (List.finRange 24).any p := fun p => by
    rw [Bool.eq_iff_iff]
    simp [List.filter_eq_nil_iff]
  have twins : (settledAccounts st t).2 = (!((List.finRange 24).filter fun k => (restoredSlot st k).isNone).isEmpty
    || !((List.finRange 24).filter fun k => (t.badLost st).outranked st sameTag k).isEmpty) := rfl
  rw [twins, empty, empty, restoredSlot_isNone, badLost_outranked]

end Settled

end Sys2Proof.Machine
end

section
/-! ## COLD_START (R21, R37, R52, R76, R95, R118, R120, R137, R159, R174, R180) -/

namespace Sys2Proof.Machine

open Sys2Proof Sys2Proof.Claim Sys2Proof.Safety

/-- The configuration that a cold start takes (R180). -/
def coldItems (st : Store) : LiveConfig := if st.configImage.good then st.configImage.items else .factory

theorem State.coldConfig_eq (s : State) : s.coldConfig = { s with
    config := coldItems s.store, store := { s.store with configFault := !s.store.configImage.good } } := by
  unfold State.coldConfig coldItems
  cases s.store.configImage.good <;> rfl

/-- The unit tallies restored. -/
def coldUnits (st : Store) : Vector UnitCounts 8 := Vector.ofFn fun u : Fin 8 => (restoredUnit st u).1

theorem restoredUnit_dirty (st : Store) (u : Fin 8) : (restoredUnit st u).2 = settledDirty st u := by
  unfold restoredUnit settledDirty
  dsimp only
  cases st.foundGood (unitImage u) with
  | false => rfl
  | true => cases st.images[unitImage u].content <;> rfl

theorem restoredUnit_record {st : Store} {u : Fin 8} {c : UnitCounts} (good : st.foundGood (unitImage u) = true)
    (content : st.images[unitImage u].content = .unit c) : (restoredUnit st u).1 = c := by
  simp only [restoredUnit, good, content, if_true]

theorem restoredUnit_none {st : Store} {u : Fin 8}
    (bad : st.foundGood (unitImage u) = false ∨ st.images[unitImage u].content = .empty) : (restoredUnit st u).1 = .zero := by
  unfold restoredUnit
  dsimp only
  cases good : st.foundGood (unitImage u) with
  | false => rfl
  | true =>
    have empty := bad.resolve_left (by rw [good]; exact Bool.noConfusion)
    rw [if_pos rfl, empty]

/-- The tallies restored and settled, before the walk. -/
def coldTally (st : Store) (warning : Bool) : Tally :=
  { units := coldUnits st
    dirty := Vector.ofFn fun u : Fin 8 => settledDirty st u
    accounts := Vector.ofFn fun k : Fin 24 => settledSlot st k
    serial := firstSerial st + BitVec.ofNat 16 (countBelow 24 (badSlot st) + countBelow 24 (twinSlot st))
    side := Vector.replicate 8 .zero
    freeze := warning }

theorem coldUnits_unit (st : Store) (u : Fin 8) : (coldUnits st)[u] = (restoredUnit st u).1 := by rw [coldUnits, getElem_ofFn_fin]

theorem coldTally_fields (st : Store) (warning : Bool) : (coldTally st warning).units = coldUnits st
    ∧ (coldTally st warning).side = Vector.replicate 8 .zero ∧ (coldTally st warning).freeze = warning
    ∧ (coldTally st warning).serial = firstSerial st + BitVec.ofNat 16 (countBelow 24 (badSlot st) + countBelow 24 (twinSlot st)) := by
  rw [coldTally]
  exact ⟨by dsimp only, by dsimp only, by dsimp only, by dsimp only⟩

theorem coldTally_slot (st : Store) (warning : Bool) (k : Fin 24) : (coldTally st warning).accounts[k] = settledSlot st k := by
  rw [coldTally, getElem_ofFn_fin]

/-- A record is lost at the restore. -/
def recordLost (st : Store) : Bool := (List.finRange 32).any (fun i => !st.foundGood i) || (List.finRange 24).any (twinSlot st)

/-- The images are those of the units and those of the account slots. -/
theorem any_image (p : Fin 32 → Bool) : (List.finRange 32).any p =
    ((List.finRange 8).any (fun u => p (unitImage u)) || (List.finRange 24).any fun k => p (accountImage k)) := by
  rw [Bool.eq_iff_iff]
  simp only [List.any_eq_true, List.mem_finRange, true_and, Bool.or_eq_true]
  refine ⟨fun ⟨i, is⟩ => ?_, fun some => ?_⟩
  · by_cases unit : i.val < 8
    · exact .inl ⟨⟨i.val, unit⟩, is⟩
    · refine .inr ⟨⟨i.val - 8, by omega⟩, ?_⟩
      rw [show accountImage ⟨i.val - 8, by omega⟩ = i from Fin.ext (by simp only [accountImage]; omega)]
      exact is
  · obtain ⟨u, is⟩ | ⟨k, is⟩ := some
    · exact ⟨_, is⟩
    · exact ⟨_, is⟩

theorem State.coldTallies_eq (s : State) : s.coldTallies = ({ s with
    tally := coldTally s.store false, store := s.store.checked, units := Vector.replicate 8 .cold }, recordLost s.store) := by
  have lost : recordLost s.store = ((List.finRange 8).any (fun u => !s.store.foundGood (unitImage u))
      || ((List.finRange 24).any (badSlot s.store) || (List.finRange 24).any (twinSlot s.store))) := by
    rw [recordLost, any_image, Bool.or_assoc]
    rfl
  have dirty : (fun u : Fin 8 => (Vector.ofFn fun v : Fin 8 => restoredUnit s.store v)[u].2) = fun u => settledDirty s.store u := by
    funext u
    rw [getElem_ofFn_fin, restoredUnit_dirty]
  have units : (fun u : Fin 8 => (Vector.ofFn fun v : Fin 8 => restoredUnit s.store v)[u].1) = fun u => (restoredUnit s.store u).1 := by
    funext u
    rw [getElem_ofFn_fin]
  unfold State.coldTallies
  dsimp only
  rw [settled_lost, settled_frame, ← lost, dirty, units]
  rfl

/-- The watch at a cold start (R159). -/
def coldWatchOf (stamp : Stamp) (units : Vector UnitCounts 8) : Watch :=
  { state := .noWatch, crew := 0, incoming := 0, origin := none, window := none, openedAt := none, warningDeadline := none,
    windowDeadline := none, overdue := false, pendingSlot := none, missed := 0, lastOutcome := none, shift := 0,
    shiftStart := stamp, lastOpened := Vector.replicate 6 none, baseline := units, previous := none }

/-- The store as a cold start checks it, with the fault flag of the configuration (R137, R180). -/
def Store.coldChecked (st : Store) : Store := { st with configFault := !st.configImage.good }.checked

theorem restoredSequence_fault (st : Store) (fault : Bool) : restoredSequence { st with configFault := fault } = restoredSequence st := rfl

theorem Store.coldChecked_sequence (st : Store) : st.coldChecked.sequence = restoredSequence st := by
  rw [Store.coldChecked, Store.checked, Store.nextSequence_eq, restoredSequence_fault]

theorem Store.coldChecked_fields (st : Store) : st.coldChecked.configFault = (!st.configImage.good) ∧ st.coldChecked.images = st.images
    ∧ st.coldChecked.periodic = 0 ∧ st.coldChecked.configWrite = none ∧ st.coldChecked.write = none := by
  rw [Store.coldChecked, Store.checked]
  exact ⟨by dsimp only, by dsimp only, by dsimp only, by dsimp only, by dsimp only⟩

theorem foundGood_fault (st : Store) (fault : Bool) (i : Fin 32) : ({ st with configFault := fault } : Store).foundGood i = st.foundGood i :=
  rfl

theorem Store.checked_failed (t : Store) : t.checked.failed = Vector.ofFn fun i : Fin 32 => !t.foundGood i := by rw [Store.checked]

theorem Store.coldChecked_failed (st : Store) (i : Fin 32) : st.coldChecked.failed[i] = !st.foundGood i := by
  rw [Store.coldChecked, Store.checked_failed, getElem_ofFn_fin, foundGood_fault]

/-- The state from which the start trigger of a cold start begins its walk. -/
def State.coldBegun (s : State) : State :=
  let config := coldItems s.store
  let time := s.time.cold config.startSource
  { s with
    pins := { s.pins.starting with retainedValid := true }
    config := config
    time := time
    lines := Vector.ofFn fun i : Fin 32 => LineState.cold config.lines[i].enabled
    trips := { slots := Vector.replicate 48 none, pendingList := [], serial := 0 }
    units := Vector.replicate 8 .cold
    tally := coldTally s.store s.pins.warningLine
    store := s.store.coldChecked
    watch := coldWatchOf ({ s with config := config, time := time } : State).stamp (coldUnits s.store)
    port := { slots := Vector.replicate 2 .free, nextOrder := 1, mask := 0, lastStart := .cold, levels := config.levels, dataOut := []
              latched := if recordLost s.store then Event.started.bit ||| Event.recordLost.bit else Event.started.bit } }

/-- The fault flag of the configuration is nothing to the restore. -/
theorem coldTally_fault (st : Store) (fault warning : Bool) : coldTally { st with configFault := fault } warning = coldTally st warning := rfl

theorem recordLost_fault (st : Store) (fault : Bool) : recordLost { st with configFault := fault } = recordLost st := rfl

/-- The freeze begins where the warning line is found asserted. -/
theorem State.foundWarning_eq {z : State} (thawed : z.tally.freeze = false) : z.foundWarning =
    { z with tally := { z.tally with freeze := z.pins.warningLine } } := by
  unfold State.foundWarning
  cases z.pins.warningLine with
  | true => rfl
  | false => rw [if_neg Bool.false_ne_true, ← thawed]

/-- Watch and port are taken up. -/
theorem State.coldWatched (b : State) (y : Tally) (st : Store) (units : Vector UnitTrack 8) :
    State.startPort .cold (State.coldWatch { b with tally := y, store := st, units := units }) = { b with
      tally := y, store := st, units := units, watch := coldWatchOf b.stamp y.units
      port := { slots := Vector.replicate 2 .free, nextOrder := 1, latched := 0, mask := 0, lastStart := .cold, levels := b.config.levels
                dataOut := [] } } := rfl

/-- The conditions of the start are raised, the marker is set, and the freeze begins under the warning. -/
theorem State.coldRaised {z : State} (up : z.up = true) (thawed : z.tally.freeze = false) (lost : Bool) :
    ({ (z.raise .started).raiseWord (if lost then Event.recordLost.bit else 0#32) with
      pins := { ((z.raise .started).raiseWord (if lost then Event.recordLost.bit else 0#32)).pins with
        retainedValid := true } } : State).foundWarning = { z with
      pins := { z.pins with retainedValid := true }, tally := { z.tally with freeze := z.pins.warningLine }
      port := { z.port with
        latched := z.port.latched ||| if lost then Event.started.bit ||| Event.recordLost.bit else Event.started.bit } } := by
  have word : (Event.started.bit ||| if lost then Event.recordLost.bit else 0#32) =
      if lost then Event.started.bit ||| Event.recordLost.bit else Event.started.bit := by cases lost <;> rfl
  rw [State.raise, State.raiseWord_raiseWord, State.raiseWord_eq _ _ up, word]
  exact State.foundWarning_eq (by exact thawed)

theorem State.coldStart_eq (s : State) : s.coldStart = s.coldBegun.startTrigger := by
  obtain ⟨b, isB⟩ : ∃ b : State, ({ s with pins := s.pins.starting } : State).coldConfig.coldTime = b := ⟨_, rfl⟩
  have fields : b = { s with
      pins := s.pins.starting, config := coldItems s.store, store := { s.store with configFault := !s.store.configImage.good }
      time := s.time.cold (coldItems s.store).startSource
      lines := Vector.ofFn fun i : Fin 32 => LineState.cold (coldItems s.store).lines[i].enabled
      trips := { slots := Vector.replicate 48 none, pendingList := [], serial := 0 } } := by
    rw [← isB, State.coldConfig_eq, State.coldTime]
  have store : b.store = { s.store with configFault := !s.store.configImage.good } := by rw [fields]
  have tallies : coldTally b.store false = coldTally s.store false := by
    rw [store]
    exact coldTally_fault _ _ _
  have lost : recordLost b.store = recordLost s.store := by
    rw [store]
    exact recordLost_fault _ _
  have up : b.up = true := by
    rw [fields]
    rfl
  have stamp : b.stamp = ({ s with config := coldItems s.store, time := s.time.cold (coldItems s.store).startSource } : State).stamp := by
    rw [State.stamp, State.stamp, fields]
  rw [State.coldStart, isB, State.coldTallies_eq]
  dsimp only
  rw [State.coldWatched, tallies, lost]
  refine congrArg State.startTrigger ((State.coldRaised (by exact up) (by rfl) _).trans ?_)
  have pending : b.pending = s.pending := by rw [fields]
  have pins : b.pins = s.pins.starting := by rw [fields]
  have config : b.config = coldItems s.store := by rw [fields]
  have time : b.time = s.time.cold (coldItems s.store).startSource := by rw [fields]
  have lines : b.lines = Vector.ofFn fun i : Fin 32 => LineState.cold (coldItems s.store).lines[i].enabled := by rw [fields]
  have trips : b.trips = { slots := Vector.replicate 48 none, pendingList := [], serial := 0 } := by rw [fields]
  dsimp only [State.coldBegun, Store.coldChecked]
  rw [pending, pins, config, time, lines, trips, store, stamp]
  refine State.ext_fields (by dsimp only) (by dsimp only) (by dsimp only) (by dsimp only) (by dsimp only) (by dsimp only) (by dsimp only)
    (by dsimp only [coldTally, Pins.starting]) (by dsimp only) (by dsimp only [coldTally]) ?_
  dsimp only
  rw [show (0 : Word32) = 0#32 from rfl, BitVec.zero_or]

theorem coldBegun_atStart (s : State) : s.coldBegun.store.AtStart := Store.checked_atStart _

theorem exec_coldStart_started {s : State} (off : s.pins.mainPower = false) (invalid : s.pins.retainedValid = false)
    (released : s.pins.resetLine = false) (dt : Nat) :
    exec (.coldStart dt) s = .next ({ s.pass dt with pins := s.pins.rise } : State).coldBegun.startTrigger := by
  have begins : (!(s.pass dt).pins.mainPower && !(s.pass dt).pins.retainedValid) = true := by
    rw [show (s.pass dt).pins = s.pins from rfl, off, invalid]
    rfl
  have straight : ¬ (s.pass dt).pins.resetLine = true := by
    rw [show (s.pass dt).pins = s.pins from rfl, released]
    exact Bool.false_ne_true
  rw [exec, execColdStart, if_pos begins, State.powerUp, if_neg straight, State.coldStart_eq]
  rfl

theorem coldItems_good {st : Store} (good : st.configImage.good = true) : coldItems st = st.configImage.items := if_pos good

theorem coldItems_bad {st : Store} (bad : st.configImage.good = false) : coldItems st = .factory :=
  if_neg (by rw [bad]; exact Bool.false_ne_true)

/-- The stamp of a cold start is of grade UNSET and generation 0. -/
theorem coldStamp (s : State) (config : LiveConfig) (start : Target) :
    let stamp := ({ s with config := config, time := s.time.cold start } : State).stamp
    stamp.grade = .unset ∧ stamp.generation = 0 := ⟨rfl, rfl⟩

/-- What a cold start leaves, block by block. -/
structure ColdStarted (clock : Nat) (s t : State) : Prop where
  pins : t.pins = { s.pins.rise.starting with retainedValid := true }
  config : t.config = coldItems s.store
  time : ∃ before : TimeBase, before.clock = clock ∧ t.time = before.cold (coldItems s.store).startSource
  lines : t.lines = Vector.ofFn fun i : Fin 32 => LineState.cold (coldItems s.store).lines[i].enabled
  trips : t.trips = { slots := Vector.replicate 48 none, pendingList := [], serial := 0 }
  units : t.units = Vector.replicate 8 .cold
  tally : t.tally = (startWalk s.pins.warningLine (coldTally s.store s.pins.warningLine)
    s.store.coldChecked).1
  store : t.store = (startWalk s.pins.warningLine (coldTally s.store s.pins.warningLine)
    s.store.coldChecked).2
  watch : ∃ stamp : Stamp, stamp.grade = .unset ∧ stamp.generation = 0 ∧ t.watch = coldWatchOf stamp (coldUnits s.store)
  port : t.port = { slots := Vector.replicate 2 .free, nextOrder := 1, mask := 0, lastStart := .cold
                    levels := (coldItems s.store).levels, dataOut := []
                    latched := if recordLost s.store then Event.started.bit ||| Event.recordLost.bit else Event.started.bit }

theorem exec_coldStart_leaves {s : State} (off : s.pins.mainPower = false) (invalid : s.pins.retainedValid = false)
    (released : s.pins.resetLine = false) (dt : Nat) :
    ∃ t, exec (.coldStart dt) s = .next t ∧ ColdStarted (s.pass dt).time.clock s t := by
  obtain ⟨z, isZ⟩ : ∃ z : State, { s.pass dt with pins := s.pins.rise } = z := ⟨_, rfl⟩
  have runs := exec_coldStart_started off invalid released dt
  rw [isZ] at runs
  have trigger := State.startTrigger_eq (coldBegun_atStart z)
  obtain ⟨t, isT⟩ : ∃ t, z.coldBegun.startTrigger = t := ⟨_, rfl⟩
  rw [isT] at runs trigger
  have held : z.store = s.store := by rw [← isZ]; rfl
  have supplies : z.pins = s.pins.rise := by rw [← isZ]
  have warning : z.coldBegun.pins.warningLine = s.pins.warningLine := by rw [State.coldBegun, supplies]; rfl
  have clock : z.time.clock = (s.pass dt).time.clock := by rw [← isZ]
  have begun : z.coldBegun.tally = coldTally s.store s.pins.warningLine := by rw [State.coldBegun, held, supplies]; rfl
  have checked : z.coldBegun.store = s.store.coldChecked := by rw [State.coldBegun, held]
  obtain ⟨grade, generation⟩ := coldStamp z (coldItems s.store) (coldItems s.store).startSource
  have lines : t.lines = Vector.ofFn fun i : Fin 32 => LineState.cold (coldItems s.store).lines[i].enabled := by
    rw [trigger, State.coldBegun, held]
  exact ⟨t, runs, {
    pins := by rw [trigger, State.coldBegun, supplies]
    config := by rw [trigger, State.coldBegun, held]
    time := ⟨z.time, clock, by rw [trigger, State.coldBegun, held]⟩
    lines := lines
    trips := by rw [trigger, State.coldBegun]
    units := by rw [trigger, State.coldBegun]
    tally := by rw [trigger, warning, begun, checked]
    store := by rw [trigger, warning, begun, checked]
    watch := ⟨_, grade, generation, by rw [trigger, State.coldBegun, held]⟩
    port := by rw [trigger, State.coldBegun, held] }⟩

end Sys2Proof.Machine

namespace Sys2Proof.Proofs

open Sys2Proof Sys2Proof.Machine Sys2Proof.Claim Sys2Proof.Safety

/-- Settles O52, block by block. -/
theorem coldStart : Obligations.ColdStart := by
  intro dt s off invalid released
  obtain ⟨t, runs, pins, config, ⟨before, clock, time⟩, lines, trips, units, tally, store, ⟨stamp, grade, generation, watch⟩, port⟩ :=
    exec_coldStart_leaves off invalid released dt
  obtain ⟨counts, side, freeze, serial, accounts⟩ := startWalk_tally s.pins.warningLine (y := coldTally s.store s.pins.warningLine)
    (t := s.store.coldChecked)
  obtain ⟨images, -, fault, failed, -, periodic, configWrite, number, sequence, again⟩ := startWalk_store s.pins.warningLine
    (y := coldTally s.store s.pins.warningLine) (t := s.store.coldChecked)
  obtain ⟨checkedFault, checkedImages, checkedPeriodic, checkedConfig, checkedWrite⟩ := s.store.coldChecked_fields
  have goes := startWalk_goesOn s.pins.warningLine tally store
  have ends := startWalk_endsIn s.pins.warningLine tally store checkedWrite (by rw [coldTally])
  rw [← tally] at counts side freeze serial accounts
  rw [← store] at images fault failed periodic configWrite number sequence again
  rw [Store.coldChecked_sequence] at goes number sequence
  rw [checkedFault] at fault
  obtain ⟨coldCounts, coldSide, coldFreeze, coldSerial⟩ := coldTally_fields s.store s.pins.warningLine
  rw [coldCounts] at counts
  rw [coldSide] at side
  rw [coldFreeze] at freeze
  rw [coldSerial] at serial
  refine ⟨t, runs, ?_⟩
  rw [time, config]
  refine ⟨pins, fun good => ⟨coldItems_good good, by rw [fault, good]; rfl⟩,
    fun bad => ⟨coldItems_bad bad, by rw [fault, bad]; rfl⟩, ?source, ?target, ?rc, ?ref, ?anchor, ?good, ?bad, ?crystal, ?position, ?clock,
    ?boundary, ?slew, ?step, ?shown, ?generation, ?set, ?elapsed, ?holdover, ?mark, ?lost, fun line => ?line, fun k => ?slot, ?list, ?serial,
    fun u => ?track, freeze, fun u => ?side, fun u c good content => ?record, fun u bad => ?zero,
    ⟨serial, fun k => ?account, number, sequence, again, ?goes, ?ends⟩,
    fun i => ?failed, images.trans checkedImages, periodic.trans checkedPeriodic, configWrite.trans checkedConfig, ?noWatch, ?crew, ?handover,
    ?pending, ?missed, ?outcome, ?shift, ?grade, ?stampGeneration,
    ?baseline, ?previous, fun k => ?opened, fun i => ?free, ?mask, ?start, ?levels, ?latched⟩
  case source | target | rc | ref | anchor | good | bad | crystal | boundary | slew | step | shown | generation | set | elapsed | holdover
    | mark | lost => rfl
  case position | clock => exact clock
  case line => rw [lines, getElem_ofFn_fin, LineState.cold]
  case slot => rw [trips]; exact Vector.getElem_replicate k.isLt
  case list | serial => rw [trips]
  case track => rw [units]; exact Vector.getElem_replicate u.isLt
  case side => rw [side]; exact Vector.getElem_replicate u.isLt
  case record => rw [counts, coldUnits_unit, restoredUnit_record good content]
  case zero => rw [counts, coldUnits_unit, restoredUnit_none bad]; rfl
  case account => rw [accountAt_eq, accounts, coldTally_slot, getElem_ofFn_fin]
  case goes => rw [counts]; exact goes
  case ends => rw [counts]; exact ends
  case failed => rw [failed, Store.coldChecked_failed]
  case noWatch | crew | pending | missed | outcome | shift | previous => rw [watch]; rfl
  case handover => rw [watch]; exact ⟨rfl, rfl, rfl, rfl, rfl, rfl, rfl⟩
  case grade => rw [watch]; exact grade
  case stampGeneration => rw [watch]; exact generation
  case baseline => rw [watch, counts]; rfl
  case opened => rw [watch]; exact Vector.getElem_replicate k.isLt
  case free => rw [port]; exact Vector.getElem_replicate i.isLt
  case mask | start | levels => rw [port]
  case latched => rw [port]; rfl

end Sys2Proof.Proofs
end

section
/-! ## FIND (R168, R169) -/

namespace Sys2Proof.Machine

open Sys2Proof Sys2Proof.Claim Sys2Proof.Safety

/-! ### The walk (R169) -/

/-- The records of a list of indices that match, with their indices. -/
def matchesOf (f : Nat → Option (List Byte)) (l : List Nat) : List (Nat × List Byte) := l.filterMap fun i => (f i).map fun b => (i, b)

theorem matchesOf_none {f : Nat → Option (List Byte)} {i : Nat} (none : f i = none) (l : List Nat) :
    matchesOf f (i :: l) = matchesOf f l := by
  simp [matchesOf, none]

theorem matchesOf_some {f : Nat → Option (List Byte)} {i : Nat} {b : List Byte} (some : f i = some b) (l : List Nat) :
    matchesOf f (i :: l) = (i, b) :: matchesOf f l := by
  simp [matchesOf, some]

theorem mem_matchesOf {f : Nat → Option (List Byte)} {l : List Nat} {p : Nat × List Byte} :
    p ∈ matchesOf f l ↔ p.1 ∈ l ∧ f p.1 = some p.2 := by
  obtain ⟨i, b⟩ := p
  simp only [matchesOf, List.mem_filterMap, Option.map_eq_some_iff, Prod.mk.injEq]
  constructor
  · rintro ⟨j, mem, c, found, rfl, rfl⟩
    exact ⟨mem, found⟩
  · rintro ⟨mem, found⟩
    exact ⟨i, mem, b, found, rfl, rfl⟩

theorem matchesOf_sublist (f : Nat → Option (List Byte)) (l : List Nat) : ((matchesOf f l).map Prod.fst).Sublist l := by
  induction l with
  | nil => exact .slnil
  | cons i l ih =>
    cases found : f i with
    | none =>
      rw [matchesOf_none found]
      exact ih.cons i
    | some b =>
      rw [matchesOf_some found]
      exact ih.cons_cons i

/-- A walk visits a first part of the indices, and stops at the match that reaches the maximum. -/
structure Visits (f : Nat → Option (List Byte)) (k : Nat) (l visited rest : List Nat) : Prop where
  split : l = visited ++ rest
  walk : walkFind f k l = ((matchesOf f visited).map fun p => p.2 ++ u8 p.1, rest.head?)
  most : (matchesOf f visited).length ≤ k
  full : rest ≠ [] → (matchesOf f visited).length = k
  none : k = 0 → visited = []
  last : (matchesOf f visited).length = k → visited.getLast? = (matchesOf f visited).getLast?.map Prod.fst

theorem walkFind_visits (f : Nat → Option (List Byte)) (l : List Nat) (k : Nat) : ∃ visited rest, Visits f k l visited rest := by
  induction l generalizing k with
  | nil =>
    have empty : walkFind f k [] = ([], none) := by cases k <;> rfl
    exact ⟨[], [], rfl, empty, Nat.zero_le k, fun some => (some rfl).elim, fun _ => rfl, fun _ => rfl⟩
  | cons i l ih =>
    cases k with
    | zero => exact ⟨[], i :: l, rfl, rfl, Nat.le_refl 0, fun _ => rfl, fun _ => rfl, fun _ => rfl⟩
    | succ k =>
      cases found : f i with
      | none =>
        obtain ⟨visited, rest, split, walk, most, full, -, last⟩ := ih (k + 1)
        have passes : walkFind f (k + 1) (i :: l) = walkFind f (k + 1) l := by simp only [walkFind, found]
        refine ⟨i :: visited, rest, by rw [split]; rfl, ?_, ?_, ?_, nofun, ?_⟩
        · rw [passes, walk, matchesOf_none found]
        · rw [matchesOf_none found]
          exact most
        · rw [matchesOf_none found]
          exact full
        · rw [matchesOf_none found]
          intro reached
          cases visited with
          | nil => cases reached
          | cons j visited =>
            rw [List.getLast?_cons_cons]
            exact last reached
      | some b =>
        obtain ⟨visited, rest, split, walk, most, full, none, last⟩ := ih k
        have takes : walkFind f (k + 1) (i :: l) = ((b ++ u8 i) :: (walkFind f k l).1, (walkFind f k l).2) := by
          simp only [walkFind, found]
        refine ⟨i :: visited, rest, by rw [split]; rfl, ?_, ?_, ?_, nofun, ?_⟩
        · rw [takes, walk, matchesOf_some found]
          rfl
        · rw [matchesOf_some found]
          exact Nat.succ_le_succ most
        · rw [matchesOf_some found]
          exact fun some => congrArg Nat.succ (full some)
        · rw [matchesOf_some found]
          intro reached
          have last := last (Nat.succ.inj reached)
          cases visited with
          | nil => rfl
          | cons j visited =>
            cases more : matchesOf f (j :: visited) with
            | nil =>
              rw [more] at last
              cases visited <;> simp at last
            | cons p ps =>
              rw [List.getLast?_cons_cons, List.getLast?_cons_cons, last, more]

/-- What a walk finds, and where it stops, on indices in order. -/
structure Found (f : Nat → Option (List Byte)) (k : Nat) (l : List Nat) (R S : Nat → Nat → Prop) (far : Nat) (found : List (Nat × List Byte))
    (next : Option Nat) : Prop where
  walk : walkFind f k l = (found.map fun p => p.2 ++ u8 p.1, next)
  most : found.length ≤ k
  each : ∀ p ∈ found, p.1 ∈ l ∧ f p.1 = some p.2
  order : (found.map Prod.fst).Pairwise R
  all : ∀ i ∈ l, (f i).isSome = true → i ∈ found.map Prod.fst ∨ ∃ n, next = some n ∧ (n = i ∨ R n i)
  stop : ∀ n, next = some n → n ∈ l ∧ found.length = k ∧ (∀ p ∈ found, R p.1 n) ∧ (0 < k → ∃ p ∈ found, S p.1 n)
  goes : ∀ p, found.length = k → found.getLast? = some p → p.1 ≠ far → ∃ n, next = some n ∧ S p.1 n

theorem walkFind_found (f : Nat → Option (List Byte)) (k : Nat) {l : List Nat} {R S : Nat → Nat → Prop} {far : Nat} (order : l.Pairwise R)
    (chain : l.IsChain S) (last : l.getLast? = some far) : ∃ found next, Found f k l R S far found next := by
  obtain ⟨visited, rest, split, walk, most, full, -, ends⟩ := walkFind_visits f l k
  subst split
  obtain ⟨ordered, sorted, apart⟩ := List.pairwise_append.mp order
  obtain ⟨-, -, link⟩ := List.isChain_append.mp chain
  refine ⟨matchesOf f visited, rest.head?, walk, most, fun p mem => ?each, ordered.sublist (matchesOf_sublist f visited),
    fun i mem found => ?all, fun n next => ?stop, fun p reached tail away => ?goes⟩
  case each =>
    obtain ⟨mem, found⟩ := mem_matchesOf.mp mem
    exact ⟨List.mem_append_left _ mem, found⟩
  case all =>
    obtain here | later := List.mem_append.mp mem
    · obtain ⟨b, found⟩ := Option.isSome_iff_exists.mp found
      exact .inl (List.mem_map.mpr ⟨(i, b), mem_matchesOf.mpr ⟨here, found⟩, rfl⟩)
    · cases rest with
      | nil => cases later
      | cons n rest =>
        obtain ⟨before, -⟩ := List.pairwise_cons.mp sorted
        refine .inr ⟨n, rfl, ?_⟩
        obtain is | there := List.mem_cons.mp later
        · exact .inl is.symm
        · exact .inr (before i there)
  case stop =>
    have mem : n ∈ rest := List.mem_of_mem_head? next
    have more : rest ≠ [] := List.ne_nil_of_mem mem
    refine ⟨List.mem_append_right _ mem, full more, fun p there => apart p.1 (mem_matchesOf.mp there).1 n mem, fun positive => ?_⟩
    obtain ⟨p, tail⟩ : ∃ p, (matchesOf f visited).getLast? = some p :=
      Option.ne_none_iff_exists'.mp fun empty => by
        have reached := full more
        rw [List.getLast?_eq_none_iff.mp empty] at reached
        exact absurd reached (Nat.ne_of_lt positive)
    refine ⟨p, List.mem_of_getLast? tail, link p.1 ?_ n next⟩
    rw [ends (full more), tail]
    rfl
  case goes =>
    have here : visited.getLast? = some p.1 := by
      rw [ends reached, tail]
      rfl
    cases rest with
    | nil =>
      rw [List.append_nil, here] at last
      exact (away (Option.some.inj last)).elim
    | cons n rest => exact ⟨n, rfl, link p.1 here n rfl⟩

/-! ### The indices (R168) -/

theorem findIndices_up (start stop : Nat) : findIndices start stop 0 = List.range' start (max start stop + 1 - start) := by
  rw [findIndices, if_pos rfl, List.range'_eq_map_range]
  exact List.map_congr_left fun i _ => Nat.add_comm i start

theorem findIndices_down (start stop : Nat) : findIndices start stop 1 = (findIndices start stop 0).reverse := rfl

theorem mem_findIndices {start stop direction i : Nat} (named : direction ≤ 1) :
    i ∈ findIndices start stop direction ↔ start ≤ i ∧ i ≤ max start stop := by
  have up : i ∈ findIndices start stop 0 ↔ start ≤ i ∧ i ≤ max start stop := by
    rw [findIndices_up, List.mem_range'_1]
    omega
  obtain rfl | rfl : direction = 0 ∨ direction = 1 := by omega
  · exact up
  · rw [findIndices_down, List.mem_reverse]
    exact up

theorem findIndices_found (f : Nat → Option (List Byte)) (k start stop : Nat) {direction : Nat} (named : direction ≤ 1) :
    ∃ found next, Found f k (findIndices start stop direction) (fun a b => if direction = 0 then a < b else b < a)
      (fun a b => if direction = 0 then b = a + 1 else a = b + 1) (if direction = 0 then max start stop else start) found next := by
  have ascending : (findIndices start stop 0).Pairwise (· < ·) := by
    rw [findIndices_up]
    exact List.pairwise_lt_range'
  have adjacent : (findIndices start stop 0).IsChain fun a b => b = a + 1 := by
    rw [findIndices_up]
    exact List.isChain_range' _ _ _
  have many : max start stop + 1 - start = (max start stop - start) + 1 := by omega
  obtain rfl | rfl : direction = 0 ∨ direction = 1 := by omega
  · refine walkFind_found f k (by simpa using ascending) (by simpa using adjacent) ?_
    rw [findIndices_up, many, List.range'_concat, List.getLast?_concat, if_pos rfl]
    exact congrArg some (by omega)
  · refine walkFind_found f k (l := findIndices start stop 1) (by simpa [findIndices_down, List.pairwise_reverse] using ascending)
      (by simpa [findIndices_down, List.isChain_reverse] using adjacent) ?_
    rw [findIndices_down, List.getLast?_reverse, findIndices_up, many]
    rfl

/-! ### Filters (R168) -/

theorem filterApplies_iff (c : Collection) (code value : Nat) : filterApplies c code value = true ↔ filterGood c code value := by
  match code with
  | 0 | 1 | 2 | 3 | 4 | 5 | 6 | 7 | 8 => cases c <;> simp [filterApplies, filterGood]
  | n + 9 => cases c <;> simp [filterApplies, filterGood]

/-- The bytes of a good filter item spell it. -/
theorem filterGood_bytes {c : Collection} {code value : Nat} (good : filterGood c code value) : 0 < code ∧ code < 256 ∧ value < 256 := by
  cases c <;> simp only [filterGood] at good <;> omega

theorem optionBytes_cons (p : Nat × Nat) (items : List (Nat × Nat)) :
    optionBytes (p :: items) = BitVec.ofNat 8 p.1 :: BitVec.ofNat 8 p.2 :: optionBytes items := rfl

theorem optionBytes_length (items : List (Nat × Nat)) : (optionBytes items).length = 2 * items.length + 1 := by
  induction items with
  | nil => rfl
  | cons p items ih =>
    rw [optionBytes_cons, List.length_cons, List.length_cons, ih, List.length_cons]
    omega

theorem readOptions_iff (c : Collection) : ∀ (options : List Byte) (items : List (Nat × Nat)),
    readOptions c options = some items ↔ options = optionBytes items ∧ ∀ p ∈ items, filterGood c p.1 p.2
  | [], items => by
    refine ⟨nofun, fun ⟨is, _⟩ => ?_⟩
    have length := congrArg List.length is
    rw [optionBytes_length] at length
    cases length
  | [b], items => by
    cases items with
    | nil =>
      simp only [readOptions, optionBytes, List.flatMap_nil, List.nil_append, List.cons.injEq, and_true, List.not_mem_nil, false_imp_iff,
        implies_true]
      split <;> simp_all
    | cons p items =>
      refine ⟨fun is => ?_, fun ⟨is, _⟩ => ?_⟩
      · rw [readOptions] at is
        split at is <;> cases is
      · have length := congrArg List.length is
        rw [optionBytes_length, List.length_cons, List.length_cons] at length
        simp at length
  | b :: v :: rest, [] => by
    refine ⟨fun is => ?_, fun ⟨is, _⟩ => ?_⟩
    · rw [readOptions] at is
      split at is
      · obtain ⟨_, _, is⟩ := Option.map_eq_some_iff.mp is
        cases is
      · cases is
    · have length := congrArg List.length is
      rw [optionBytes_length] at length
      simp at length
  | b :: v :: rest, p :: items => by
    have ih := readOptions_iff c rest items
    rw [readOptions, optionBytes_cons, List.cons.injEq, List.cons.injEq, List.forall_mem_cons]
    constructor
    · intro is
      split at is
      case isTrue good =>
        obtain ⟨read, found, is⟩ := Option.map_eq_some_iff.mp is
        obtain ⟨rfl, rfl⟩ := List.cons.inj is
        obtain ⟨bytes, goods⟩ := ih.mp found
        exact ⟨⟨by simp, by simp, bytes⟩, (filterApplies_iff _ _ _).mp good.2, goods⟩
      case isFalse => cases is
    · rintro ⟨⟨rfl, rfl, bytes⟩, good, goods⟩
      obtain ⟨positive, code, value⟩ := filterGood_bytes good
      have codeByte : (BitVec.ofNat 8 p.1).toNat = p.1 := by rw [BitVec.toNat_ofNat]; exact Nat.mod_eq_of_lt code
      have valueByte : (BitVec.ofNat 8 p.2).toNat = p.2 := by rw [BitVec.toNat_ofNat]; exact Nat.mod_eq_of_lt value
      have item : BitVec.ofNat 8 p.1 ≠ 0 := fun is => by
        rw [is] at codeByte
        exact Nat.ne_of_lt positive codeByte
      rw [codeByte, valueByte, if_pos ⟨item, (filterApplies_iff _ _ _).mpr good⟩, ih.mpr ⟨bytes, goods⟩]
      rfl

theorem tripPasses_iff {items : List (Nat × Nat)} (good : ∀ p ∈ items, filterGood .trips p.1 p.2) (r : TripRecord) :
    items.all r.passes = true ↔ tripPasses r items := by
  rw [List.all_eq_true, tripPasses]
  refine forall₂_congr fun p mem => ?_
  have good := good p mem
  unfold filterGood at good
  obtain ⟨code, -⟩ | ⟨code | code, -⟩ | ⟨code, -⟩ | ⟨code, -⟩ := good <;> simp [TripRecord.passes, code]

theorem entryPasses_iff {items : List (Nat × Nat)} (good : ∀ p ∈ items, filterGood .pending p.1 p.2) (lines : Vector LineConfig 32)
    (e : PendingEntry) : items.all (e.passes lines) = true ↔ entryPasses lines e items := by
  rw [List.all_eq_true, entryPasses]
  refine forall₂_congr fun p mem => ?_
  have good := good p mem
  unfold filterGood at good
  obtain ⟨code, -⟩ | ⟨code, -⟩ | ⟨code, -⟩ := good <;> simp [PendingEntry.passes, code]

theorem accountPasses_iff {items : List (Nat × Nat)} (good : ∀ p ∈ items, filterGood .accounts p.1 p.2) (a : Account) :
    items.all a.passes = true ↔ accountPasses a items := by
  rw [List.all_eq_true, accountPasses]
  refine forall₂_congr fun p mem => ?_
  have good := good p mem
  unfold filterGood at good
  obtain ⟨code, -⟩ | ⟨code | code | code, value⟩ | ⟨code, -⟩ | ⟨code, -⟩ := good
  · cases live : a.live with
    | none => simp [Account.passes, code, live]
    | some l => cases bound : l.bound <;> simp [Account.passes, code, live, bound]
  · cases live : a.live <;> simp [Account.passes, code, Account.stateCode, live] <;> omega
  · cases live : a.live <;> simp [Account.passes, code, Account.stateCode, live] <;> omega
  · cases live : a.live with
    | none =>
      simp [Account.passes, code, live]
      omega
    | some l => cases bound : l.bound <;> simp [Account.passes, code, live, bound] <;> omega
  · cases live : a.live <;> simp [Account.passes, code, live]
  · cases live : a.live <;> simp [Account.passes, code, live]

/-! ### The record at an index (R169) -/

section Match

variable {items : List (Nat × Nat)} (s : State) (k : Nat) (bytes : List Byte)

theorem State.matchAt_trips (good : ∀ p ∈ items, filterGood .trips p.1 p.2) : s.matchAt .trips items k = some bytes ↔
    ∃ (j : Fin 48) (r : TripRecord), j.val = k ∧ s.trips.slots[j] = some r ∧ tripPasses r items ∧ bytes = r.bytes k := by
  constructor
  · intro is
    simp only [State.matchAt] at is
    split at is
    case h_1 r held =>
      obtain ⟨inside, held⟩ := Vector.getElem?_eq_some_iff.mp held
      split at is
      case isTrue passes => exact ⟨⟨k, inside⟩, r, rfl, held, (tripPasses_iff good r).mp passes, (Option.some.inj is).symm⟩
      case isFalse => cases is
    case h_2 => cases is
  · rintro ⟨j, r, rfl, held, passes, rfl⟩
    have there : s.trips.slots[j.val]? = some (some r) := Vector.getElem?_eq_some_iff.mpr ⟨j.isLt, held⟩
    simp only [State.matchAt, there, (tripPasses_iff good r).mpr passes, if_true]

theorem State.matchAt_pending (good : ∀ p ∈ items, filterGood .pending p.1 p.2) : s.matchAt .pending items k = some bytes ↔
    ∃ e : PendingEntry, s.trips.pendingList[k]? = some e ∧ entryPasses s.config.lines e items ∧ bytes = e.bytes := by
  constructor
  · intro is
    simp only [State.matchAt] at is
    split at is
    case h_1 e held =>
      split at is
      case isTrue passes => exact ⟨e, held, (entryPasses_iff good _ e).mp passes, (Option.some.inj is).symm⟩
      case isFalse => cases is
    case h_2 => cases is
  · rintro ⟨e, held, passes, rfl⟩
    simp only [State.matchAt, held, (entryPasses_iff good _ e).mpr passes, if_true]

theorem State.matchAt_accounts (good : ∀ p ∈ items, filterGood .accounts p.1 p.2) : s.matchAt .accounts items k = some bytes ↔
    ∃ (j : Fin 24) (a : Account) (d : Bool), j.val = k ∧ s.tally.accounts[j] = .held a d ∧ accountPasses a items
      ∧ bytes = a.bytes k d := by
  constructor
  · intro is
    simp only [State.matchAt] at is
    split at is
    case h_1 a d held =>
      obtain ⟨inside, held⟩ := Vector.getElem?_eq_some_iff.mp held
      split at is
      case isTrue passes => exact ⟨⟨k, inside⟩, a, d, rfl, held, (accountPasses_iff good a).mp passes, (Option.some.inj is).symm⟩
      case isFalse => cases is
    case h_2 => cases is
  · rintro ⟨j, a, d, rfl, held, passes, rfl⟩
    have there : s.tally.accounts[j.val]? = some (.held a d) := Vector.getElem?_eq_some_iff.mpr ⟨j.isLt, held⟩
    simp only [State.matchAt, there, (accountPasses_iff good a).mpr passes, if_true]

end Match

/-! ### The act -/

section Act

variable (c : Caller) (s : State) {code start stop direction maximum : Nat} {options : List Byte}

theorem findAct_unnamed (unnamed : Collection.ofCode code = none) :
    findAct code start stop direction maximum options c s = answer .badField [] s := by
  simp only [findAct, unnamed, refuse]

theorem findAct_bad {collection : Collection} (named : Collection.ofCode code = some collection)
    (bad : 1 < direction ∨ collection.size ≤ start ∨ collection.size ≤ stop ∨ maximum = 0 ∨ collection.most < maximum
      ∨ readOptions collection options = none) : findAct code start stop direction maximum options c s = answer .badField [] s := by
  simp only [findAct, named]
  split
  · rfl
  · rename_i fields
    have unread : readOptions collection options = none := by tauto
    simp only [unread]
    rfl

theorem findAct_good {collection : Collection} {items : List (Nat × Nat)} {found : List (Nat × List Byte)} {next : Option Nat}
    (named : Collection.ofCode code = some collection) (up : direction ≤ 1) (first : start < collection.size) (last : stop < collection.size)
    (least : 1 ≤ maximum) (most : maximum ≤ collection.most) (read : readOptions collection options = some items)
    (walk : walkFind (fun i => s.matchAt collection items i) maximum (findIndices start stop direction) =
      (found.map fun p => p.2 ++ u8 p.1, next)) : findAct code start stop direction maximum options c s =
      answer .ok (u8 found.length ++ (found.map fun p => p.2 ++ u8 p.1).flatten ++ opt u8 next) s := by
  have fields : ¬ (1 < direction ∨ collection.size ≤ start ∨ collection.size ≤ stop ∨ maximum = 0 ∨ collection.most < maximum) := by omega
  simp only [findAct, named, if_neg fields, read, walk, List.length_map]

end Act

end Sys2Proof.Machine

namespace Sys2Proof.Proofs

open Sys2Proof Sys2Proof.Machine Sys2Proof.Claim Sys2Proof.Safety

/-- Settles O3: the walk over the indices in order, the option lists and the filters. -/
theorem findListsAndChangesNothing : Obligations.FindListsAndChangesNothing := by
  refine ⟨fun h i s taken start stop direction maximum options => ?_, readOptions_iff, fun c items s k bytes good => ?record,
    fun code => ?codes, rfl, rfl, rfl, rfl, rfl, rfl⟩
  · intro z
    refine ⟨fun code c items named up first last least most read => ?lists, fun code unnamed => ?unnamed, fun code c named bad => ?bad⟩
    case lists =>
      obtain ⟨found, next, walk, many, each, order, all, ends, goes⟩ :=
        findIndices_found (fun k => z.matchAt c items k) maximum start stop up
      have inside := fun k => mem_findIndices (start := start) (stop := stop) (i := k) up
      have answers := answers_of_act (c := .find h code start stop direction maximum options) taken rfl fun who =>
        findAct_good who z named up first last least most read walk
      refine ⟨found, next, answers, many, fun f mem => ?_, order, fun k low high is => ?_, fun n is => ?_, fun f full tail away => ?_⟩
      · obtain ⟨mem, found⟩ := each f mem
        obtain ⟨low, high⟩ := (inside f.1).mp mem
        exact ⟨low, high, found⟩
      · refine (all k ((inside k).mpr ⟨low, high⟩) is).imp_right fun ⟨n, stops, at'⟩ => ⟨n, stops, ?_⟩
        obtain rfl | rfl : direction = 0 ∨ direction = 1 := by omega
        · simp at at' ⊢
          omega
        · simp at at' ⊢
          omega
      · obtain ⟨mem, full, before, adjacent⟩ := ends n is
        obtain ⟨low, high⟩ := (inside n).mp mem
        exact ⟨low, high, full, before, adjacent least⟩
      · obtain ⟨n, stops, adjacent⟩ := goes f full tail away
        rw [stops]
        obtain rfl | rfl : direction = 0 ∨ direction = 1 := by omega
        · simp at adjacent ⊢
          omega
        · simp at adjacent ⊢
          omega
    case unnamed => exact answers_of_act taken rfl fun who => findAct_unnamed who z unnamed
    case bad => exact answers_of_act taken rfl fun who => findAct_bad who z named bad
  case record =>
    cases c with
    | trips => exact State.matchAt_trips s k bytes good
    | pending => exact State.matchAt_pending s k bytes good
    | accounts => exact State.matchAt_accounts s k bytes good
  case codes =>
    match code with
    | 0 | 1 | 2 => rfl
    | n + 3 => simp [Collection.ofCode]

end Sys2Proof.Proofs
end

section
/-! ## Request bodies: what a reader leaves and what it reads (R162) -/

namespace Sys2Proof.Machine

open Sys2Proof Sys2Proof.Claim Sys2Proof.Safety

/-! ### The parts of a body -/

/-- What is left of a run of bytes after one part, if the part is there. -/
def partLeaves : Part → List Byte → Option (List Byte)
  | .figure k, bs => if k ≤ bs.length then some (bs.drop k) else none
  | .tag, n :: bs => if n.toNat ≤ bs.length then some (bs.drop n.toNat) else none
  | .optional k, b :: bs => if b = 0#8 then some bs else if b = 1#8 ∧ k ≤ bs.length then some (bs.drop k) else none
  | .optionalTag, b :: bs => if b = 0#8 then some bs else if b = 1#8 then partLeaves .tag bs else none
  | _, [] => none

/-- What is left of a run of bytes after its parts, in order. -/
def partsLeave : List Part → List Byte → Option (List Byte)
  | [], bs => some bs
  | p :: ps, bs => (partLeaves p bs).bind (partsLeave ps)

theorem partsLeave_append (ps qs : List Part) (bs : List Byte) : partsLeave (ps ++ qs) bs = (partsLeave ps bs).bind (partsLeave qs) := by
  induction ps generalizing bs with
  | nil => rfl
  | cons p ps ih =>
    cases left : partLeaves p bs with
    | none => simp [partsLeave, left]
    | some bs => simpa [partsLeave, left] using ih bs

/-- Two figures in a row take the bytes of one. -/
theorem partsLeave_figures (j k : Nat) (ps : List Part) (bs : List Byte) :
    partsLeave (.figure j :: .figure k :: ps) bs = partsLeave (.figure (j + k) :: ps) bs := by
  simp only [partsLeave, partLeaves]
  by_cases first : j ≤ bs.length
  · by_cases second : k ≤ (bs.drop j).length
    · have both : j + k ≤ bs.length := by
        rw [List.length_drop] at second
        omega
      rw [if_pos first, if_pos both, Option.bind_some, if_pos second, List.drop_drop]
    · have short : ¬ j + k ≤ bs.length := by
        rw [List.length_drop] at second
        omega
      rw [if_pos first, if_neg short, Option.bind_some, if_neg second]
  · have short : ¬ j + k ≤ bs.length := by omega
    rw [if_neg first, if_neg short]
    rfl

/-- A body is spelled by its parts exactly when they leave nothing of it. -/
theorem spells_iff (ps : List Part) (body : List Byte) : spells ps body = true ↔ partsLeave ps body = some [] := by
  induction ps generalizing body with
  | nil => simp [spells, partsLeave]
  | cons p ps ih =>
    cases p with
    | figure k =>
      by_cases there : k ≤ body.length
      · simp [spells, partsLeave, partLeaves, there, ih]
      · simp [spells, partsLeave, partLeaves, there]
    | tag =>
      cases body with
      | nil => simp [spells, partsLeave, partLeaves]
      | cons n body =>
        by_cases there : n.toNat ≤ body.length
        · simp [spells, partsLeave, partLeaves, there, ih]
        · simp [spells, partsLeave, partLeaves, there]
    | optional k =>
      cases body with
      | nil => simp [spells, partsLeave, partLeaves]
      | cons b body =>
        by_cases absent : b = 0#8
        · simp [spells, partsLeave, partLeaves, absent, ih]
        · by_cases there : b = 1#8 ∧ k ≤ body.length
          · simp [spells, partsLeave, partLeaves, there, ih]
          · simp only [spells, partsLeave, partLeaves, absent, there, if_false]
            simp
            tauto
    | optionalTag =>
      cases body with
      | nil => simp [spells, partsLeave, partLeaves]
      | cons b body =>
        by_cases absent : b = 0#8
        · simp [spells, partsLeave, partLeaves, absent, ih]
        · by_cases present : b = 1#8
          · cases body with
            | nil => simp [spells, partsLeave, partLeaves, present]
            | cons n body =>
              by_cases there : n.toNat ≤ body.length
              · simp [spells, partsLeave, partLeaves, present, there, ih]
              · simp [spells, partsLeave, partLeaves, present, there]
          · simp [spells, partsLeave, partLeaves, absent, present]

theorem spells_figure (k : Nat) (body : List Byte) : spells [.figure k] body = decide (body.length = k) := by
  by_cases there : k ≤ body.length
  · rw [Bool.eq_iff_iff, spells_iff]
    simp only [partsLeave, partLeaves, there, if_true, Option.bind_some, Option.some.injEq, List.drop_eq_nil_iff, decide_eq_true_eq]
    omega
  · have other : body.length ≠ k := fun is => there is.ge
    simp [spells, there, other]

/-! ### What a reader leaves -/

/-- A reader reads the parts and leaves what is behind them. -/
def ReadsParts {α : Type} (p : Reader α) (ps : List Part) : Prop := ∀ bs, (p bs).map Prod.snd = partsLeave ps bs

section Leaves

variable {α β : Type} {p : Reader α} {ps : List Part}

theorem readNat_parts (k : Nat) : ReadsParts (readNat k) [.figure k] := fun bs => by
  by_cases there : k ≤ bs.length
  · have enough : ¬ bs.length < k := by omega
    simp [readNat, partsLeave, partLeaves, there, enough]
  · have short : bs.length < k := by omega
    simp [readNat, partsLeave, partLeaves, there, short]

theorem readInt_parts (k : Nat) : ReadsParts (readInt k) [.figure k] := fun bs => by
  by_cases there : k ≤ bs.length
  · have enough : ¬ bs.length < k := by omega
    simp [readInt, partsLeave, partLeaves, there, enough]
  · have short : bs.length < k := by omega
    simp [readInt, partsLeave, partLeaves, there, short]

theorem ReadsParts.andThen {f : α → Reader β} {qs : List Part} (first : ReadsParts p ps) (next : ∀ a, ReadsParts (f a) qs) :
    ReadsParts (p.andThen f) (ps ++ qs) := fun bs => by
  rw [partsLeave_append, ← first bs, Reader.andThen]
  cases p bs with
  | none => rfl
  | some r => exact next r.1 r.2

theorem ReadsParts.yielding (reads : ReadsParts p ps) (f : α → β) : ReadsParts (p.yielding f) ps := fun bs => by
  rw [← reads bs, Reader.yielding]
  cases p bs <;> rfl

theorem ReadsParts.joined {j k : Nat} (reads : ReadsParts p (.figure j :: .figure k :: ps)) : ReadsParts p (.figure (j + k) :: ps) :=
  fun bs => (reads bs).trans (partsLeave_figures j k ps bs)

theorem readNat_one_nil : readNat 1 [] = none := rfl

theorem readNat_one_cons (b : Byte) (bs : List Byte) : readNat 1 (b :: bs) = some (b.toNat, bs) := by
  simp [readNat, beNat]

theorem readTag_cons (n : Byte) (bs : List Byte) :
    readTag (n :: bs) = if bs.length < n.toNat then none else some (bs.take n.toNat, bs.drop n.toNat) := by
  rw [readTag, Reader.andThen, readNat_one_cons, Option.bind_some]

theorem readTag_parts : ReadsParts readTag [.tag] := fun bs => by
  cases bs with
  | nil => rfl
  | cons n bs =>
    rw [readTag_cons]
    by_cases there : n.toNat ≤ bs.length
    · have enough : ¬ bs.length < n.toNat := by omega
      simp [partsLeave, partLeaves, there, enough]
    · have short : bs.length < n.toNat := by omega
      simp [partsLeave, partLeaves, there, short]

theorem readOpt_absent (p : Reader α) (bs : List Byte) : readOpt p (0#8 :: bs) = some (none, bs) := by
  rw [readOpt, Reader.andThen, readNat_one_cons, Option.bind_some]
  rfl

theorem readOpt_present (p : Reader α) (bs : List Byte) : readOpt p (1#8 :: bs) = p.yielding some bs := by
  rw [readOpt, Reader.andThen, readNat_one_cons, Option.bind_some]
  rfl

/-- A presence byte is 0 or 1, or malformed. -/
theorem byte_cases (b : Byte) : b = 0#8 ∨ b = 1#8 ∨ (b ≠ 0#8 ∧ b ≠ 1#8 ∧ ∃ n, b.toNat = n + 2) := by
  match is : b.toNat with
  | 0 => exact .inl (BitVec.eq_of_toNat_eq is)
  | 1 => exact .inr (.inl (BitVec.eq_of_toNat_eq is))
  | n + 2 =>
    refine .inr (.inr ⟨fun zero => ?_, fun one => ?_, n, rfl⟩)
    · rw [zero] at is
      cases is
    · rw [one] at is
      cases is

theorem readOpt_malformed (p : Reader α) {b : Byte} {n : Nat} (is : b.toNat = n + 2) (bs : List Byte) : readOpt p (b :: bs) = none := by
  rw [readOpt, Reader.andThen, readNat_one_cons, Option.bind_some, is]
  rfl

/-- What a reader behind a presence byte leaves. -/
theorem readOpt_leaves (p : Reader α) (b : Byte) (bs : List Byte) :
    (readOpt p (b :: bs)).map Prod.snd = if b = 0#8 then some bs else if b = 1#8 then (p bs).map Prod.snd else none := by
  obtain rfl | rfl | ⟨absent, present, n, is⟩ := byte_cases b
  · rw [readOpt_absent]
    rfl
  · rw [readOpt_present, if_neg (by decide), if_pos rfl, Reader.yielding]
    cases p bs <;> rfl
  · rw [readOpt_malformed p is, if_neg absent, if_neg present]
    rfl

theorem readOpt_figure_parts {k : Nat} (reads : ReadsParts p [.figure k]) : ReadsParts (readOpt p) [.optional k] := fun bs => by
  cases bs with
  | nil => rfl
  | cons b bs =>
    rw [readOpt_leaves, reads bs]
    by_cases absent : b = 0#8
    · simp [partsLeave, partLeaves, absent]
    · by_cases present : b = 1#8
      · by_cases there : k ≤ bs.length <;> simp [partsLeave, partLeaves, present, there]
      · simp [partsLeave, partLeaves, absent, present]

theorem readOpt_tag_parts : ReadsParts (readOpt readTag) [.optionalTag] := fun bs => by
  cases bs with
  | nil => rfl
  | cons b bs =>
    rw [readOpt_leaves, readTag_parts bs]
    by_cases absent : b = 0#8
    · simp [partsLeave, partLeaves, absent]
    · by_cases present : b = 1#8
      · simp [partsLeave, partLeaves, present]
      · simp [partsLeave, partLeaves, absent, present]

theorem readPerMode_parts : ReadsParts readPerMode [.figure 16] :=
  ((readNat_parts 4).andThen fun _ => (readNat_parts 4).andThen fun _ => (readNat_parts 4).andThen fun _ =>
    (readNat_parts 4).yielding _).joined.joined.joined

theorem readFigures_parts : ReadsParts readFigures [.figure 49] :=
  (readPerMode_parts.andThen fun _ => readPerMode_parts.andThen fun _ => (readNat_parts 4).andThen fun _ =>
    (readNat_parts 4).andThen fun _ => (readNat_parts 4).andThen fun _ => (readNat_parts 5).yielding _).joined.joined.joined.joined.joined

theorem readPresetOptions_parts : ReadsParts readPresetOptions [.optionalTag, .optional 1, .optional 2, .optional 2, .optional 5] :=
  readOpt_tag_parts.andThen fun _ => (readOpt_figure_parts (readNat_parts 1)).andThen fun _ =>
    (readOpt_figure_parts (readNat_parts 2)).andThen fun _ => (readOpt_figure_parts (readNat_parts 2)).andThen fun _ =>
      (readOpt_figure_parts (readNat_parts 5)).yielding _

/-- A body is read whole exactly when its parts spell it. -/
theorem whole_isSome (reads : ReadsParts p ps) (body : List Byte) : (whole p body).isSome = spells ps body := by
  rw [Bool.eq_iff_iff, spells_iff, ← reads body, whole]
  cases p body with
  | none => simp
  | some r =>
    obtain ⟨a, left⟩ := r
    cases left <;> simp

end Leaves

/-! ### What a reader reads -/

/-- The bytes carry a value: the reader reads it from them and leaves what stands behind. -/
def Carries {α : Type} (p : Reader α) (bytes : List Byte) (a : α) : Prop := ∀ rest, p (bytes ++ rest) = some (a, rest)

section Reads

variable {α β : Type} {p : Reader α} {bytes : List Byte} {a : α}

theorem beNat_append_singleton (bs : List Byte) (b : Byte) : beNat (bs ++ [b]) = beNat bs * 256 + b.toNat := by
  rw [beNat, List.foldl_append]
  rfl

theorem beNat_beBytes {k n : Nat} (small : n < 256 ^ k) : beNat (beBytes k n) = n := by
  induction k generalizing n with
  | zero =>
    have zero : n = 0 := by simpa using small
    rw [zero]
    rfl
  | succ k ih =>
    have high : n / 256 < 256 ^ k := Nat.div_lt_of_lt_mul (by rwa [Nat.mul_comm, ← Nat.pow_succ])
    rw [beBytes, beNat_append_singleton, ih high, BitVec.toNat_ofNat]
    exact Nat.div_add_mod' n 256

theorem fits_iff {k n : Nat} : fits k n = true ↔ n < 256 ^ k := decide_eq_true_iff

theorem carries_nat {k n : Nat} (fit : fits k n = true) : Carries (readNat k) (beBytes k n) n := fun rest => by
  have length := beBytes_length k n
  have enough : ¬ (beBytes k n ++ rest).length < k := by
    rw [List.length_append]
    omega
  rw [readNat, if_neg enough, List.take_left' length, List.drop_left' length, beNat_beBytes (fits_iff.mp fit)]

theorem beToInt_beInt {v : Int} (fit : fitsValue v = true) : beToInt (beInt 4 v) = v := by
  obtain ⟨low, high⟩ : -2147483648 ≤ v ∧ v < 2147483648 := by simpa [fitsValue] using fit
  have power : ((256 : Nat) : Int) ^ 4 = 4294967296 := by decide
  have small : (v % (256 ^ 4 : Int)).toNat < 256 ^ 4 := by omega
  rw [beToInt, beInt, beNat_beBytes small, beBytes_length]
  split <;> omega

theorem carries_int {v : Int} (fit : fitsValue v = true) : Carries (readInt 4) (beInt 4 v) v := fun rest => by
  have length : (beInt 4 v).length = 4 := beBytes_length 4 _
  have enough : ¬ (beInt 4 v ++ rest).length < 4 := by
    rw [List.length_append]
    omega
  rw [readInt, if_neg enough, List.take_left' length, List.drop_left' length, beToInt_beInt fit]

theorem Carries.andThen {f : α → Reader β} {more : List Byte} {b : β} (first : Carries p bytes a) (next : Carries (f a) more b) :
    Carries (p.andThen f) (bytes ++ more) b := fun rest => by
  rw [Reader.andThen, List.append_assoc, first, Option.bind_some, next]

theorem Carries.yielding (carried : Carries p bytes a) (f : α → β) : Carries (p.yielding f) bytes (f a) := fun rest => by
  rw [Reader.yielding, carried]
  rfl

theorem carries_tag {tag : List Byte} (short : tag.length < 256) : Carries readTag (tagBytes tag) tag := by
  refine Carries.andThen (carries_nat (fits_iff.mpr short)) fun rest => ?_
  have enough : ¬ (tag ++ rest).length < tag.length := by
    rw [List.length_append]
    omega
  rw [if_neg enough, List.take_left, List.drop_left]

theorem carries_opt {o : Option α} {f : α → List Byte} (carried : ∀ a, o = some a → Carries p (f a) a) : Carries (readOpt p) (opt f o) o := by
  cases o with
  | none => exact fun rest => readOpt_absent p rest
  | some a =>
    have there := (carried a rfl).yielding some
    exact fun rest => (readOpt_present p (f a ++ rest)).trans (there rest)

theorem whole_of_carries (carried : Carries p bytes a) : whole p bytes = some a := by
  have read := carried []
  rw [List.append_nil] at read
  rw [whole, read]

theorem carries_perMode {p : PerMode} (fit : PerMode.fitsWire p = true) : Carries readPerMode (p.bytes) p := by
  simp only [PerMode.fitsWire, Bool.and_eq_true] at fit
  obtain ⟨⟨⟨generate, pump⟩, condense⟩, spin⟩ := fit
  rw [PerMode.bytes, List.append_assoc, List.append_assoc]
  exact (carries_nat generate).andThen ((carries_nat pump).andThen ((carries_nat condense).andThen ((carries_nat spin).yielding _)))

/-- The bytes of the figures of OPEN_ACCOUNT and PRESET (R100, R114). -/
def figureBytes (f : Figures) : List Byte :=
  f.run.bytes ++ (f.starts.bytes ++ (u32 f.changes ++ (u32 f.trips ++ (u32 f.closings ++ u40 f.equivalent))))

theorem figureBytes_length (f : Figures) : (figureBytes f).length = 49 := by
  simp [figureBytes, PerMode.bytes, u32, u40, beBytes_length]

theorem carries_figures {f : Figures} (fit : Figures.fitsWire f = true) : Carries readFigures (figureBytes f) f := by
  simp only [Figures.fitsWire, Bool.and_eq_true] at fit
  obtain ⟨⟨⟨⟨⟨run, starts⟩, changes⟩, trips⟩, closings⟩, equivalent⟩ := fit
  exact (carries_perMode run).andThen ((carries_perMode starts).andThen ((carries_nat changes).andThen ((carries_nat trips).andThen
    ((carries_nat closings).andThen ((carries_nat equivalent).yielding _)))))

end Reads

end Sys2Proof.Machine
end

section
/-! ## SEND (R163, R164) -/

namespace Sys2Proof.Machine

open Sys2Proof Sys2Proof.Claim Sys2Proof.Safety

/-! ### Request frames (R162) -/

/-- The bytes of a request frame that its check code runs over. -/
def frameChecked (requester : Fin 4) (crew : Fin 16) (kind tag : Byte) (body : List Byte) : List Byte :=
  BitVec.ofNat 8 body.length :: BitVec.ofNat 8 (16 * requester.val + crew.val) :: kind :: tag :: body

theorem frameChecked_length (requester : Fin 4) (crew : Fin 16) (kind tag : Byte) (body : List Byte) :
    (frameChecked requester crew kind tag body).length = body.length + 4 := rfl

theorem frameBytes_eq (requester : Fin 4) (crew : Fin 16) (kind tag : Byte) (body : List Byte) :
    frameBytes requester crew kind tag body =
      frameChecked requester crew kind tag body ++ u16 (crc16 (frameChecked requester crew kind tag body)).toNat := rfl

/-- A frame is read when its length, its second byte and its check code are good. -/
theorem readFrame_good {len who kind tag : Byte} {rest : List Byte} (short : len.toNat ≤ 240)
    (enough : len.toNat + 6 ≤ (len :: who :: kind :: tag :: rest).length) (high : who.toNat < 64)
    (code : crc16 ((len :: who :: kind :: tag :: rest).take (len.toNat + 4)) =
      BitVec.ofNat 16 (beNat (((len :: who :: kind :: tag :: rest).drop (len.toNat + 4)).take 2))) :
    readFrame (len :: who :: kind :: tag :: rest) = some
      ⟨Fin.ofNat 4 (who.toNat / 16), Fin.ofNat 16 who.toNat, tag, kind.toNat, rest.take len.toNat⟩ := by
  have sound : ¬ (240 < len.toNat ∨ (len :: who :: kind :: tag :: rest).length < len.toNat + 6 ∨ 64 ≤ who.toNat) := by omega
  simp only [readFrame]
  rw [if_neg sound, if_neg (not_not.mpr code)]

/-- A frame with a bad length, cut short, with bits 7..6 of its second byte set, or with a wrong check code is not read. -/
theorem readFrame_bad {len who kind tag : Byte} {rest : List Byte}
    (bad : 240 < len.toNat ∨ (len :: who :: kind :: tag :: rest).length < len.toNat + 6 ∨ 64 ≤ who.toNat
      ∨ crc16 ((len :: who :: kind :: tag :: rest).take (len.toNat + 4)) ≠
        BitVec.ofNat 16 (beNat (((len :: who :: kind :: tag :: rest).drop (len.toNat + 4)).take 2))) :
    readFrame (len :: who :: kind :: tag :: rest) = none := by
  by_cases fields : 240 < len.toNat ∨ (len :: who :: kind :: tag :: rest).length < len.toNat + 6 ∨ 64 ≤ who.toNat
  · simp only [readFrame]
    rw [if_pos fields]
  · have code := (or_assoc.mpr (bad.imp_right or_assoc.mpr)).resolve_left fields
    simp only [readFrame]
    rw [if_neg fields, if_pos code]

theorem readFrame_short {bytes : List Byte} (short : bytes.length < 4) : readFrame bytes = none := by
  match bytes with
  | [] | [_] | [_, _] | [_, _, _] => rfl
  | _ :: _ :: _ :: _ :: rest =>
    simp only [List.length_cons] at short
    omega

/-- A whole frame with bytes behind it is read as the frame. -/
theorem readFrame_frameBytes (requester : Fin 4) (crew : Fin 16) (kind tag : Byte) {body : List Byte} (rest : List Byte)
    (short : body.length ≤ 240) : readFrame (frameBytes requester crew kind tag body ++ rest) =
      some ⟨requester, crew, tag, kind.toNat, body⟩ := by
  have lenIs : (BitVec.ofNat 8 body.length).toNat = body.length := by
    rw [BitVec.toNat_ofNat]
    exact Nat.mod_eq_of_lt (by omega)
  have whoIs : (BitVec.ofNat 8 (16 * requester.val + crew.val)).toNat = 16 * requester.val + crew.val := by
    rw [BitVec.toNat_ofNat]
    exact Nat.mod_eq_of_lt (by omega)
  have requesterIs : Fin.ofNat 4 ((16 * requester.val + crew.val) / 16) = requester := Fin.ext (by
    change (16 * requester.val + crew.val) / 16 % 4 = requester.val
    omega)
  have crewIs : Fin.ofNat 16 (16 * requester.val + crew.val) = crew := Fin.ext (by
    change (16 * requester.val + crew.val) % 16 = crew.val
    omega)
  obtain ⟨code, codeIs⟩ : ∃ code, crc16 (frameChecked requester crew kind tag body) = code := ⟨_, rfl⟩
  have codeBytes : (u16 code.toNat).length = 2 := rfl
  have codeRead : BitVec.ofNat 16 (beNat (u16 code.toNat)) = code := by
    rw [u16, beNat_beBytes code.isLt, BitVec.ofNat_toNat, BitVec.setWidth_eq]
  have whole : frameBytes requester crew kind tag body ++ rest = frameChecked requester crew kind tag body ++ (u16 code.toNat ++ rest) := by
    rw [frameBytes_eq, codeIs, List.append_assoc]
  have checked := frameChecked_length requester crew kind tag body
  have shape : frameChecked requester crew kind tag body ++ (u16 code.toNat ++ rest) = BitVec.ofNat 8 body.length ::
      BitVec.ofNat 8 (16 * requester.val + crew.val) :: kind :: tag :: (body ++ (u16 code.toNat ++ rest)) := rfl
  have read := readFrame_good (len := BitVec.ofNat 8 body.length) (who := BitVec.ofNat 8 (16 * requester.val + crew.val)) (kind := kind)
    (tag := tag) (rest := body ++ (u16 code.toNat ++ rest)) (lenIs.trans_le short) (by
      simp only [lenIs, List.length_cons, List.length_append, codeBytes]
      omega) (by omega) (by
      rw [← shape, lenIs, List.take_left' checked, List.drop_left' checked, List.take_left' codeBytes, codeRead, codeIs])
  rw [whole, shape, read, lenIs, whoIs, requesterIs, crewIs, List.take_left]

/-! ### SEND -/

section Send

variable (dt : Nat) {s : State} {bytes : List Byte}

/-- The state of a SEND once the status byte and the fill bytes are out. -/
def State.sendOut (dt : Nat) (bytes : List Byte) (s : State) : State :=
  (s.pass dt).shiftOut (s.statusByte :: List.replicate bytes.length 0#8)

theorem exec_send (up : s.up = true) : exec (.send dt bytes) s = .next ((s.sendOut dt bytes).takeFrame bytes) := by
  rw [exec, execSend, State.pass_up, if_pos up, State.pass_statusByte, State.sendOut]

theorem State.sendOut_up : (s.sendOut dt bytes).up = s.up := rfl

theorem State.sendOut_freeReply : (s.sendOut dt bytes).freeReply = s.freeReply := rfl

theorem exec_send_full (up : s.up = true) (full : s.freeReply = none) : exec (.send dt bytes) s = .next (s.sendOut dt bytes) := by
  simp only [exec_send dt up, State.takeFrame, State.sendOut_freeReply, full]

theorem exec_send_frame (up : s.up = true) (free : s.freeReply.isSome = true) {f : Frame} (read : readFrame bytes = some f) :
    exec (.send dt bytes) s =
      .next ((s.sendOut dt bytes).takeRequest f.requester f.crew f.tag f.kind (intakeFor f.kind f.body)) := by
  obtain ⟨i, free⟩ := Option.isSome_iff_exists.mp free
  simp only [exec_send dt up, State.takeFrame, State.sendOut_freeReply, free, read]

theorem exec_send_unread (up : s.up = true) (free : s.freeReply.isSome = true) (unread : readFrame bytes = none) :
    exec (.send dt bytes) s = .next (withEvent .frameError (s.sendOut dt bytes)) := by
  obtain ⟨i, free⟩ := Option.isSome_iff_exists.mp free
  have upThere : (s.sendOut dt bytes).up = true := up
  simp only [exec_send dt up, State.takeFrame, State.sendOut_freeReply, free, unread, State.raise_withEvent .frameError upThere]

end Send

/-! ### The port's own checks of a whole frame (R164) -/

/-- What the port makes of a frame whose kind requires a level, or names no request, and whose body carries the fields of its kind or not. -/
def JudgedIntake (intake : Intake) (level : Option Nat) (carried : Bool) : Prop :=
  level.elim (intake = .badKind) fun l => if carried = true then ∃ act : Act, intake = .request l act else intake = .badLength l

theorem judged_intakeOf {α : Type} (level : Nat) {fields : Option α} {carried : Bool} (act : α → Act) (is : fields.isSome = carried) :
    JudgedIntake (intakeOf level fields act) (some level) carried := by
  subst is
  cases fields with
  | none => rfl
  | some a => exact ⟨act a, rfl⟩

theorem one_isSome (k : Nat) (body : List Byte) : (one k body).isSome = decide (body.length = k) :=
  (whole_isSome (readNat_parts k) body).trans (spells_figure k body)

theorem two_isSome (j k : Nat) (body : List Byte) : (two j k body).isSome = decide (body.length = j + k) :=
  (whole_isSome ((readNat_parts j).andThen fun _ => (readNat_parts k).yielding _).joined body).trans (spells_figure _ body)

theorem three_isSome (i j k : Nat) (body : List Byte) : (three i j k body).isSome = decide (body.length = i + j + k) :=
  (whole_isSome ((readNat_parts i).andThen fun _ => (readNat_parts j).andThen fun _ => (readNat_parts k).yielding _).joined.joined
    body).trans (spells_figure _ body)

theorem readNone_isSome (body : List Byte) : (readNone body).isSome = decide (body.length = 0) := by
  cases body <;> rfl

theorem oneFlag_isSome (body : List Byte) : (oneFlag body).isSome = decide (body = [0#8] ∨ body = [1#8]) := by
  match body with
  | [] => rfl
  | [b] =>
    have read : one 1 [b] = some b.toNat := by rw [one, whole, readNat_one_cons]
    obtain rfl | rfl | ⟨absent, present, n, is⟩ := byte_cases b
    · rfl
    · rfl
    · rw [oneFlag, read, is]
      simp [absent, present]
  | b :: c :: rest =>
    have read : one 1 (b :: c :: rest) = none := by rw [one, whole, readNat_one_cons]
    rw [oneFlag, read]
    simp

theorem oneWord_isSome (body : List Byte) : (oneWord body).isSome = decide (body.length = 4) := by
  rw [oneWord, Option.isSome_map, one_isSome]

theorem readOpen_parts : ReadsParts (readTag.andThen fun tag => (readNat 1).andThen fun c => (readNat 2).andThen fun i =>
    (readNat 2).andThen fun m => (readOpt readFigures).yielding fun f => (tag, c, i, m, f)) [.tag, .figure 5, .optional 49] :=
  readTag_parts.andThen fun _ => ((readNat_parts 1).andThen fun _ => (readNat_parts 2).andThen fun _ => (readNat_parts 2).andThen fun _ =>
    (readOpt_figure_parts readFigures_parts).yielding _).joined.joined

theorem readOpen_isSome (body : List Byte) : (readOpen body).isSome = spells [.tag, .figure 5, .optional 49] body :=
  whole_isSome readOpen_parts body

theorem readPreset_isSome (body : List Byte) : (readPreset body).isSome =
    spells [.figure 3, .figure 49, .optionalTag, .optional 1, .optional 2, .optional 2, .optional 5] body :=
  whole_isSome ((readNat_parts 1).andThen fun _ => (readNat_parts 2).andThen fun _ => readFigures_parts.andThen fun _ =>
    readPresetOptions_parts.yielding _).joined body

theorem readRoster_isSome (body : List Byte) : (readRoster body).isSome = decide (body.length = 6) :=
  (whole_isSome ((readNat_parts 1).andThen fun _ => (readNat_parts 2).andThen fun _ => (readNat_parts 1).andThen fun _ =>
    (readNat_parts 1).andThen fun _ => (readNat_parts 1).yielding _).joined.joined.joined.joined body).trans (spells_figure 6 body)

theorem readFind_isSome (body : List Byte) : (readFind body).isSome = decide (5 ≤ body.length) := by
  match body with
  | [] | [_] | [_, _] | [_, _, _] | [_, _, _, _] => rfl
  | _ :: _ :: _ :: _ :: _ :: rest => simp [readFind]

/-- READ_ACCOUNT's body reads as its first byte says (R162). -/
theorem readName_cons (b : Byte) (name : List Byte) : (readName (b :: name)).isSome =
    ((decide (b = 0#8) && decide (name.length = 1)) || (decide (b = 1#8) && spells [.tag] name)) := by
  obtain rfl | rfl | ⟨absent, present, n, is⟩ := byte_cases b
  · have is : readName (0#8 :: name) = whole ((readNat 1).yielding AccountName.slot) name := by
      rw [readName, whole, Reader.andThen, readNat_one_cons]
      rfl
    rw [is, whole_isSome ((readNat_parts 1).yielding _), spells_figure]
    simp
  · have is : readName (1#8 :: name) = whole (readTag.yielding AccountName.tag) name := by
      rw [readName, whole, Reader.andThen, readNat_one_cons]
      rfl
    rw [is, whole_isSome (readTag_parts.yielding _)]
    simp
  · rw [readName, whole, Reader.andThen, readNat_one_cons, Option.bind_some, is]
    simp [absent, present]

theorem readName_isSome (body : List Byte) : (readName body).isSome = bodyFitsKind 18 body := by
  cases body with
  | nil => rfl
  | cons b name => exact readName_cons b name

theorem judged_config (body : List Byte) : JudgedIntake (configIntake body) (requiredLevel 32 body) (bodyFitsKind 32 body) := by
  cases body with
  | nil => rfl
  | cons b fields =>
    have level : requiredLevel 32 (b :: fields) = if b = 1#8 then some 3 else if b = 0#8 ∨ b = 2#8 then some 0 else none := rfl
    have carried : bodyFitsKind 32 (b :: fields) = decide (fields.length = if b = 0#8 then 6 else if b = 1#8 then 2 else 0) := rfl
    rw [level, carried]
    obtain rfl | rfl | ⟨absent, present, n, is⟩ := byte_cases b
    · exact judged_intakeOf 0 _ ((whole_isSome ((readNat_parts 1).andThen fun _ => (readNat_parts 1).andThen fun _ =>
        (readInt_parts 4).yielding _).joined.joined fields).trans (spells_figure 6 fields))
    · exact judged_intakeOf 3 _ (two_isSome 1 1 fields)
    · cases n with
      | zero =>
        obtain rfl : b = 2#8 := BitVec.eq_of_toNat_eq is
        exact judged_intakeOf 0 _ (readNone_isSome fields)
      | succ n =>
        have other : b ≠ 2#8 := fun two => by
          rw [two] at is
          change 2 = n + 1 + 2 at is
          omega
        have unnamed : configIntake (b :: fields) = .badKind := by
          simp only [configIntake, is]
        rw [unnamed, if_neg present, if_neg (not_or.mpr ⟨absent, other⟩)]
        rfl

/-- The port's checks of a whole frame: the level of its kind, and whether its body carries the fields of its kind (R164). -/
theorem judged_intakeFor (kind : Nat) (body : List Byte) :
    JudgedIntake (intakeFor kind body) (requiredLevel kind body) (bodyFitsKind kind body) := by
  match kind with
  | 0 => rfl
  | 1 => exact judged_intakeOf 1 _ (one_isSome 1 body)
  | 2 => exact judged_intakeOf 1 _ (two_isSome 4 2 body)
  | 3 => exact judged_intakeOf 3 _ (readNone_isSome body)
  | 4 => exact judged_intakeOf 1 _ (two_isSome 1 2 body)
  | 5 => exact judged_intakeOf 1 _ (one_isSome 1 body)
  | 6 => exact judged_intakeOf 3 _ (one_isSome 1 body)
  | 7 => exact judged_intakeOf 2 _ (two_isSome 1 2 body)
  | 8 => exact judged_intakeOf 2 _ (three_isSome 1 2 2 body)
  | 9 => exact judged_intakeOf 2 _ (two_isSome 1 2 body)
  | 10 => exact judged_intakeOf 3 _ (one_isSome 1 body)
  | 11 => exact judged_intakeOf 3 _ (one_isSome 1 body)
  | 12 => exact judged_intakeOf 1 _ (readOpen_isSome body)
  | 13 => exact judged_intakeOf 1 _ (three_isSome 1 2 1 body)
  | 14 => exact judged_intakeOf 1 _ (two_isSome 1 2 body)
  | 15 => exact judged_intakeOf 0 _ (readPreset_isSome body)
  | 16 => exact judged_intakeOf 0 _ (two_isSome 1 2 body)
  | 17 => exact judged_intakeOf 1 _ (two_isSome 1 2 body)
  | 18 => exact judged_intakeOf 3 _ (readName_isSome body)
  | 19 => exact judged_intakeOf 2 _ (readNone_isSome body)
  | 20 => exact judged_intakeOf 3 _ (readNone_isSome body)
  | 21 => exact judged_intakeOf 1 _ (readRoster_isSome body)
  | 22 => exact judged_intakeOf 1 _ (readNone_isSome body)
  | 23 => exact judged_intakeOf 2 _ (readNone_isSome body)
  | 24 => exact judged_intakeOf 2 _ (oneFlag_isSome body)
  | 25 => exact judged_intakeOf 1 _ (readNone_isSome body)
  | 26 => exact judged_intakeOf 3 _ (readNone_isSome body)
  | 27 => exact judged_intakeOf 3 _ (two_isSome 1 1 body)
  | 28 => exact judged_intakeOf 3 _ (readFind_isSome body)
  | 29 => exact judged_intakeOf 3 _ (readNone_isSome body)
  | 30 => exact judged_intakeOf 2 _ (oneWord_isSome body)
  | 31 => exact judged_intakeOf 2 _ (oneWord_isSome body)
  | 32 => exact judged_config body
  | n + 33 =>
    have unnamed : requiredLevel (n + 33) body = none := by simp [requiredLevel]
    rw [unnamed]
    rfl

section Take

variable {s : State} {i : Fin 2} (free : s.freeReply = some i) (requester : Fin 4) (crew : Fin 16) (tag : Byte) (kind : Nat)
include free

theorem State.takeRequest_badKind : s.takeRequest requester crew tag kind .badKind = s.place i ⟨⟨requester, tag, kind⟩, .badKind, []⟩ := by
  simp only [State.takeRequest, free, State.fill]

theorem State.takeRequest_badLength_low {level : Nat} (low : level < s.port.levels[requester].val) :
    s.takeRequest requester crew tag kind (.badLength level) = s.place i ⟨⟨requester, tag, kind⟩, .privilege, []⟩ := by
  simp only [State.takeRequest, free, State.fill, if_pos low]

theorem State.takeRequest_badLength {level : Nat} (reaches : ¬ level < s.port.levels[requester].val) :
    s.takeRequest requester crew tag kind (.badLength level) = s.place i ⟨⟨requester, tag, kind⟩, .badField, []⟩ := by
  simp only [State.takeRequest, free, State.fill, if_neg reaches]

theorem State.takeRequest_low {level : Nat} (act : Act) (low : level < s.port.levels[requester].val) :
    s.takeRequest requester crew tag kind (.request level act) = s.place i ⟨⟨requester, tag, kind⟩, .privilege, []⟩ := by
  simp only [State.takeRequest, free, State.fill, if_pos low]

end Take

end Sys2Proof.Machine

namespace Sys2Proof.Proofs

open Sys2Proof Sys2Proof.Machine Sys2Proof.Claim Sys2Proof.Safety

/-- Settles O6: reading a request frame, and the port's own checks of a whole frame kind by kind. -/
theorem sendTakesFrames : Obligations.SendTakesFrames := by
  intro dt s up
  refine ⟨fun bytes full => exec_send_full dt up full, fun requester crew kind tag body rest free short =>
    exec_send_frame dt up free (readFrame_frameBytes requester crew kind tag rest short),
    fun i requester crew kind tag body rest free short => ?checks,
    fun len who kind tag rest free bad => exec_send_unread dt up free (readFrame_bad bad),
    fun bytes free short => exec_send_unread dt up free (readFrame_short short)⟩
  case checks =>
    intro bytes refused
    have sent : exec (.send dt bytes) s = .next ((s.sendOut dt bytes).takeRequest requester crew tag kind.toNat (intakeFor kind.toNat body)) :=
      exec_send_frame dt up (by rw [free]; rfl) (readFrame_frameBytes requester crew kind tag rest short)
    have free : (s.sendOut dt bytes).freeReply = some i := free
    have judged := judged_intakeFor kind.toNat body
    split
    case h_1 unnamed =>
      rw [unnamed] at judged
      have other : intakeFor kind.toNat body = .badKind := judged
      rw [other] at sent
      exact sent.trans (congrArg _ (State.takeRequest_badKind free requester crew tag kind.toNat))
    case h_2 level named =>
      rw [named] at judged
      cases carried : bodyFitsKind kind.toNat body with
      | false =>
        rw [carried] at judged
        have short : intakeFor kind.toNat body = .badLength level := judged
        rw [short] at sent
        split
        case isTrue low => exact sent.trans (congrArg _ (State.takeRequest_badLength_low free requester crew tag kind.toNat low))
        case isFalse reaches => exact sent.trans (congrArg _ (State.takeRequest_badLength free requester crew tag kind.toNat reaches))
      | true =>
        rw [carried] at judged
        obtain ⟨act, good⟩ : ∃ act : Act, intakeFor kind.toNat body = .request level act := judged
        split
        case isTrue low =>
          rw [good] at sent
          exact sent.trans (congrArg _ (State.takeRequest_low free requester crew tag kind.toNat act low))
        case isFalse reaches => exact ⟨act, good⟩

end Sys2Proof.Proofs
end

section
/-! ## Every request command is what some frame spells (R162, R164) -/

namespace Sys2Proof.Machine

open Sys2Proof Sys2Proof.Claim Sys2Proof.Safety

/-- A body spells a request command: as a body of the command's kind it is taken in as the command's own act, and it fits a frame. -/
structure BodySpells (c : Instr) (h : Header) (kind level : Nat) (body : List Byte) : Prop where
  taken : ∃ act : Act, intakeFor kind body = .request level act ∧ ∀ s, exec c s = .next (s.request h kind level act)
  fits : body.length ≤ 240
  byte : kind < 256

/-- A body that carries the operands of a command spells it. -/
theorem bodySpells_of {c : Instr} {h : Header} {kind level : Nat} {α : Type} {fields : Option α} {act : α → Act} {a : α} {body : List Byte}
    (reads : intakeFor kind body = intakeOf level fields act) (carried : fields = some a)
    (meaning : ∀ s, exec c s = .next (s.request h kind level (act a))) (short : body.length ≤ 240) (byte : kind < 256) :
    BodySpells c h kind level body := by
  subst carried
  exact ⟨⟨act a, reads, meaning⟩, short, byte⟩

/-! ### Bodies of figures -/

section Figures

variable {i j k a b c : Nat}

theorem one_carries (fitA : fits k a = true) : one k (beBytes k a) = some a := whole_of_carries (carries_nat fitA)

theorem two_carries (fitA : fits j a = true) (fitB : fits k b = true) : two j k (beBytes j a ++ beBytes k b) = some (a, b) :=
  whole_of_carries ((carries_nat fitA).andThen ((carries_nat fitB).yielding _))

theorem three_carries (fitA : fits i a = true) (fitB : fits j b = true) (fitC : fits k c = true) :
    three i j k (beBytes i a ++ (beBytes j b ++ beBytes k c)) = some (a, b, c) :=
  whole_of_carries ((carries_nat fitA).andThen ((carries_nat fitB).andThen ((carries_nat fitC).yielding _)))

theorem two_length : (beBytes j a ++ beBytes k b).length = j + k := by
  rw [List.length_append, beBytes_length, beBytes_length]

theorem three_length : (beBytes i a ++ (beBytes j b ++ beBytes k c)).length = i + (j + k) := by
  rw [List.length_append, beBytes_length, two_length]

theorem oneWord_carries (word : Word32) : oneWord (u32 word.toNat) = some word := by
  have read : one 4 (u32 word.toNat) = some word.toNat := one_carries (fits_iff.mpr word.isLt)
  rw [oneWord, read, Option.map_some, BitVec.ofNat_toNat, BitVec.setWidth_eq]

end Figures

/-! ### The bodies of OPEN_ACCOUNT, PRESET, READ_ACCOUNT and FIND -/

theorem opt_length {α : Type} {f : α → List Byte} {size : α → Nat} (each : ∀ a, (f a).length = size a) (o : Option α) :
    (opt f o).length = 1 + optSize size o := by
  cases o with
  | none => rfl
  | some a =>
    rw [opt, List.length_append, each]
    rfl

theorem of_all {α : Type} {p : α → Bool} {o : Option α} {a : α} (all : o.all p = true) (is : o = some a) : p a = true := by
  subst is
  exact all

theorem tagBytes_length (t : List Byte) : (tagBytes t).length = 1 + t.length := by
  rw [tagBytes, List.length_append]
  rfl

/-- The body of OPEN_ACCOUNT (R100). -/
def openBytes (tag : List Byte) (cls interval margin : Nat) (initial : Option Figures) : List Byte :=
  tagBytes tag ++ (u8 cls ++ (u16 interval ++ (u16 margin ++ opt figureBytes initial)))

theorem openBytes_length (tag : List Byte) (cls interval margin : Nat) (initial : Option Figures) :
    (openBytes tag cls interval margin initial).length = openSize tag initial := by
  have figures := opt_length figureBytes_length initial
  simp only [openBytes, List.length_append, tagBytes_length, figures, u8, u16, beBytes_length, openSize]
  omega

theorem readOpen_carries {tag : List Byte} {cls interval margin : Nat} {initial : Option Figures} (short : tag.length < 256)
    (code : fits 1 cls = true) (every : fits 2 interval = true) (early : fits 2 margin = true)
    (figures : initial.all Figures.fitsWire = true) :
    readOpen (openBytes tag cls interval margin initial) = some (tag, cls, interval, margin, initial) :=
  whole_of_carries ((carries_tag short).andThen ((carries_nat code).andThen ((carries_nat every).andThen ((carries_nat early).andThen
    ((carries_opt fun _ is => carries_figures (of_all figures is)).yielding _)))))

/-- The bytes of the optional fields of a PRESET (R114). -/
def presetOptionBytes (o : PresetOptions) : List Byte :=
  opt tagBytes o.tag ++ (opt u8 o.cls ++ (opt u16 o.interval ++ (opt u16 o.margin ++ opt u40 o.nextDue)))

theorem presetOptionBytes_length (o : PresetOptions) : 52 + (presetOptionBytes o).length = presetSize o := by
  have tag := opt_length tagBytes_length o.tag
  have cls := opt_length (f := u8) (size := fun _ => 1) (fun n => beBytes_length 1 n) o.cls
  have interval := opt_length (f := u16) (size := fun _ => 2) (fun n => beBytes_length 2 n) o.interval
  have margin := opt_length (f := u16) (size := fun _ => 2) (fun n => beBytes_length 2 n) o.margin
  have due := opt_length (f := u40) (size := fun _ => 5) (fun n => beBytes_length 5 n) o.nextDue
  simp only [presetOptionBytes, List.length_append, tag, cls, interval, margin, due, presetSize]
  omega

theorem carries_presetOptions {o : PresetOptions} (short : ∀ t, o.tag = some t → t.length < 256) (cls : o.cls.all (fits 1) = true)
    (interval : o.interval.all (fits 2) = true) (margin : o.margin.all (fits 2) = true) (due : o.nextDue.all (fits 5) = true) :
    Carries readPresetOptions (presetOptionBytes o) o :=
  (carries_opt fun t is => carries_tag (short t is)).andThen ((carries_opt fun _ is => carries_nat (of_all cls is)).andThen
    ((carries_opt fun _ is => carries_nat (of_all interval is)).andThen
      ((carries_opt fun _ is => carries_nat (of_all margin is)).andThen
        ((carries_opt fun _ is => carries_nat (of_all due is)).yielding _))))

/-- The body of PRESET (R114). -/
def presetBytes (slot serial : Nat) (figures : Figures) (o : PresetOptions) : List Byte :=
  u8 slot ++ (u16 serial ++ (figureBytes figures ++ presetOptionBytes o))

theorem presetBytes_length (slot serial : Nat) (figures : Figures) (o : PresetOptions) :
    (presetBytes slot serial figures o).length = presetSize o := by
  rw [← presetOptionBytes_length]
  simp only [presetBytes, List.length_append, u8, u16, beBytes_length, figureBytes_length]
  omega

theorem readPreset_carries {slot serial : Nat} {figures : Figures} {o : PresetOptions} (fitSlot : fits 1 slot = true)
    (fitSerial : fits 2 serial = true) (fitFigures : Figures.fitsWire figures = true)
    (options : Carries readPresetOptions (presetOptionBytes o) o) :
    readPreset (presetBytes slot serial figures o) = some (slot, serial, figures, o) :=
  whole_of_carries ((carries_nat fitSlot).andThen ((carries_nat fitSerial).andThen ((carries_figures fitFigures).andThen
    (options.yielding _))))

/-- The tag of a preset that fits a frame fits its length byte. -/
theorem preset_tag_short {o : PresetOptions} (fit : presetSize o ≤ 240) {t : List Byte} (is : o.tag = some t) : t.length < 256 := by
  rw [presetSize, is] at fit
  simp only [optSize, Option.map_some, Option.getD_some] at fit
  omega

/-- The body of READ_ACCOUNT (R162). -/
def nameBytes : AccountName → List Byte
  | .slot i => u8 0 ++ u8 i
  | .tag t => u8 1 ++ tagBytes t

theorem readName_slot {i : Nat} (fit : fits 1 i = true) : readName (nameBytes (.slot i)) = some (.slot i) :=
  whole_of_carries ((carries_nat (k := 1) (n := 0) rfl).andThen ((carries_nat fit).yielding AccountName.slot))

theorem readName_tag {t : List Byte} (short : t.length < 256) : readName (nameBytes (.tag t)) = some (.tag t) :=
  whole_of_carries ((carries_nat (k := 1) (n := 1) rfl).andThen ((carries_tag short).yielding AccountName.tag))

/-- The body of SET_ROSTER_SLOT (R141). -/
def rosterBytes (slot start crew window warning : Nat) : List Byte := u8 slot ++ (u16 start ++ (u8 crew ++ (u8 window ++ u8 warning)))

theorem readRoster_carries {slot start crew window warning : Nat} (fitSlot : fits 1 slot = true) (fitStart : fits 2 start = true)
    (fitCrew : fits 1 crew = true) (fitWindow : fits 1 window = true) (fitWarning : fits 1 warning = true) :
    readRoster (rosterBytes slot start crew window warning) = some (slot, start, crew, window, warning) :=
  whole_of_carries ((carries_nat fitSlot).andThen ((carries_nat fitStart).andThen ((carries_nat fitCrew).andThen
    ((carries_nat fitWindow).andThen ((carries_nat fitWarning).yielding _)))))

/-- The body of FIND (R168). -/
def findBytes (collection start stop direction max : Nat) (options : List Byte) : List Byte :=
  BitVec.ofNat 8 collection :: BitVec.ofNat 8 start :: BitVec.ofNat 8 stop :: BitVec.ofNat 8 direction :: BitVec.ofNat 8 max :: options

theorem toNat_ofNat_fits {n : Nat} (fit : fits 1 n = true) : (BitVec.ofNat 8 n).toNat = n := by
  rw [BitVec.toNat_ofNat]
  exact Nat.mod_eq_of_lt (fits_iff.mp fit)

theorem readFind_carries {collection start stop direction max : Nat} (fitCollection : fits 1 collection = true) (fitStart : fits 1 start = true)
    (fitStop : fits 1 stop = true) (fitDirection : fits 1 direction = true) (fitMax : fits 1 max = true) (options : List Byte) :
    readFind (findBytes collection start stop direction max options) = some (collection, start, stop, direction, max, options) := by
  rw [findBytes, readFind, toNat_ofNat_fits fitCollection, toNat_ofNat_fits fitStart, toNat_ofNat_fits fitStop, toNat_ofNat_fits fitDirection,
    toNat_ofNat_fits fitMax]

/-- The fields of CONFIGURE behind its selector (R173). -/
def configureBytes (code index : Nat) (value : Int) : List Byte := u8 code ++ (u8 index ++ beInt 4 value)

theorem configure_carries {code index : Nat} {value : Int} (fitCode : fits 1 code = true) (fitIndex : fits 1 index = true)
    (fitValue : fitsValue value = true) : whole ((readNat 1).andThen fun c => (readNat 1).andThen fun i =>
      (readInt 4).yielding fun v => (c, i, v)) (configureBytes code index value) = some (code, index, value) :=
  whole_of_carries ((carries_nat fitCode).andThen ((carries_nat fitIndex).andThen ((carries_int fitValue).yielding _)))

/-! ### The body of each request command -/

section Bodies

variable (h : Header)

/-- A command with one figure. -/
theorem bodySpells_one {c : Instr} {kind level k a : Nat} {act : Nat → Act} (fit : fits k a = true)
    (reads : ∀ body, intakeFor kind body = intakeOf level (one k body) act)
    (meaning : ∀ s, exec c s = .next (s.request h kind level (act a))) (short : k ≤ 240) (byte : kind < 256) :
    BodySpells c h kind level (beBytes k a) :=
  bodySpells_of (reads _) (one_carries fit) meaning ((beBytes_length k a).trans_le short) byte

/-- A command with two figures. -/
theorem bodySpells_two {c : Instr} {kind level j k a b : Nat} {act : Nat × Nat → Act} (fit : (fits j a && fits k b) = true)
    (reads : ∀ body, intakeFor kind body = intakeOf level (two j k body) act)
    (meaning : ∀ s, exec c s = .next (s.request h kind level (act (a, b)))) (short : j + k ≤ 240) (byte : kind < 256) :
    BodySpells c h kind level (beBytes j a ++ beBytes k b) := by
  obtain ⟨fitA, fitB⟩ := Bool.and_eq_true_iff.mp fit
  exact bodySpells_of (reads _) (two_carries fitA fitB) meaning (two_length.trans_le short) byte

/-- A command with three figures. -/
theorem bodySpells_three {c : Instr} {kind level i j k a b d : Nat} {act : Nat × Nat × Nat → Act}
    (fit : (fits i a && fits j b && fits k d) = true) (reads : ∀ body, intakeFor kind body = intakeOf level (three i j k body) act)
    (meaning : ∀ s, exec c s = .next (s.request h kind level (act (a, b, d)))) (short : i + (j + k) ≤ 240) (byte : kind < 256) :
    BodySpells c h kind level (beBytes i a ++ (beBytes j b ++ beBytes k d)) := by
  simp only [Bool.and_eq_true] at fit
  obtain ⟨⟨fitA, fitB⟩, fitD⟩ := fit
  exact bodySpells_of (reads _) (three_carries fitA fitB fitD) meaning (three_length.trans_le short) byte

/-- A command with a condition word. -/
theorem bodySpells_word {c : Instr} {kind level : Nat} {word : Word32} {act : Word32 → Act}
    (reads : ∀ body, intakeFor kind body = intakeOf level (oneWord body) act)
    (meaning : ∀ s, exec c s = .next (s.request h kind level (act word))) (byte : kind < 256) :
    BodySpells c h kind level (u32 word.toNat) :=
  bodySpells_of (reads _) (oneWord_carries word) meaning ((beBytes_length 4 _).trans_le (by decide)) byte

/-- A command with no fields. -/
theorem bodySpells_none {c : Instr} {kind level : Nat} {act : Unit → Act}
    (reads : ∀ body, intakeFor kind body = intakeOf level (readNone body) act)
    (meaning : ∀ s, exec c s = .next (s.request h kind level (act ()))) (byte : kind < 256) : BodySpells c h kind level [] :=
  bodySpells_of (reads []) rfl meaning (Nat.zero_le 240) byte

theorem bodySpells_openAccount {tag : List Byte} {cls interval margin : Nat} {initial : Option Figures}
    (sendable : WellFormed (.openAccount h tag cls interval margin initial)) :
    BodySpells (.openAccount h tag cls interval margin initial) h 12 1 (openBytes tag cls interval margin initial) := by
  simp only [WellFormed, Instr.wellFormed, Bool.and_eq_true, bodyFits, decide_eq_true_eq] at sendable
  obtain ⟨⟨⟨⟨short, code⟩, every⟩, early⟩, figures⟩ := sendable
  have tagShort : tag.length < 256 := by
    rw [openSize] at short
    omega
  exact bodySpells_of (fields := readOpen _) rfl (readOpen_carries tagShort code every early figures) (fun _ => rfl)
    ((openBytes_length tag cls interval margin initial).trans_le short) (by decide)

theorem bodySpells_preset {slot serial : Nat} {figures : Figures} {o : PresetOptions} (sendable : WellFormed (.preset h slot serial figures o)) :
    BodySpells (.preset h slot serial figures o) h 15 0 (presetBytes slot serial figures o) := by
  simp only [WellFormed, Instr.wellFormed, Bool.and_eq_true, bodyFits, decide_eq_true_eq] at sendable
  obtain ⟨⟨⟨⟨⟨⟨⟨fitSlot, fitSerial⟩, fitFigures⟩, short⟩, cls⟩, interval⟩, margin⟩, due⟩ := sendable
  have options := carries_presetOptions (fun _ is => preset_tag_short short is) cls interval margin due
  exact bodySpells_of (fields := readPreset _) rfl (readPreset_carries fitSlot fitSerial fitFigures options) (fun _ => rfl)
    ((presetBytes_length slot serial figures o).trans_le short) (by decide)

theorem bodySpells_readAccount {name : AccountName} (sendable : WellFormed (.readAccount h name)) :
    BodySpells (.readAccount h name) h 18 3 (nameBytes name) := by
  cases name with
  | slot i =>
    exact bodySpells_of (fields := readName _) rfl (readName_slot sendable) (fun _ => rfl)
      (two_length.trans_le (by decide)) (by decide)
  | tag t =>
    have short : 2 + t.length ≤ 240 := of_decide_eq_true sendable
    refine bodySpells_of (fields := readName _) rfl (readName_tag (by omega)) (fun _ => rfl) ?_ (by decide)
    rw [nameBytes, List.length_append, tagBytes_length, u8, beBytes_length]
    omega

theorem bodySpells_setRosterSlot {slot start crew window warning : Nat}
    (sendable : WellFormed (.setRosterSlot h slot start crew window warning)) :
    BodySpells (.setRosterSlot h slot start crew window warning) h 21 1 (rosterBytes slot start crew window warning) := by
  simp only [WellFormed, Instr.wellFormed, Bool.and_eq_true] at sendable
  obtain ⟨⟨⟨⟨fitSlot, fitStart⟩, fitCrew⟩, fitWindow⟩, fitWarning⟩ := sendable
  refine bodySpells_of (act := fun x => setRosterSlotAct x.1 x.2.1 x.2.2.1 x.2.2.2.1 x.2.2.2.2) rfl
    (readRoster_carries fitSlot fitStart fitCrew fitWindow fitWarning) (fun _ => rfl) ?_ (by decide)
  simp [rosterBytes, u8, u16, beBytes_length]

theorem bodySpells_release (carry : Bool) : BodySpells (.release h carry) h 24 2 (flag carry) := by
  cases carry with
  | false => exact bodySpells_of (act := releaseAct) (a := false) rfl rfl (fun _ => rfl) (by decide) (by decide)
  | true => exact bodySpells_of (act := releaseAct) (a := true) rfl rfl (fun _ => rfl) (by decide) (by decide)

theorem bodySpells_find {collection start stop direction max : Nat} {options : List Byte}
    (sendable : WellFormed (.find h collection start stop direction max options)) :
    BodySpells (.find h collection start stop direction max options) h 28 3 (findBytes collection start stop direction max options) := by
  simp only [WellFormed, Instr.wellFormed, Bool.and_eq_true, decide_eq_true_eq] at sendable
  obtain ⟨⟨⟨⟨⟨fitCollection, fitStart⟩, fitStop⟩, fitDirection⟩, fitMax⟩, short⟩ := sendable
  exact bodySpells_of (act := fun x => findAct x.1 x.2.1 x.2.2.1 x.2.2.2.1 x.2.2.2.2.1 x.2.2.2.2.2) rfl
    (readFind_carries fitCollection fitStart fitStop fitDirection fitMax options) (fun _ => rfl) (Nat.add_le_add_right short 5) (by decide)

theorem bodySpells_configure {code index : Nat} {value : Int} (sendable : WellFormed (.configure h code index value)) :
    BodySpells (.configure h code index value) h 32 0 (0#8 :: configureBytes code index value) := by
  simp only [WellFormed, Instr.wellFormed, Bool.and_eq_true] at sendable
  obtain ⟨⟨fitCode, fitIndex⟩, fitValue⟩ := sendable
  refine bodySpells_of (act := fun x => configureAct x.1 x.2.1 x.2.2) rfl (configure_carries fitCode fitIndex fitValue)
    (fun _ => rfl) ?_ (by decide)
  simp [configureBytes, u8, beInt, beBytes_length]

theorem bodySpells_readConfig {code index : Nat} (sendable : WellFormed (.readConfig h code index)) :
    BodySpells (.readConfig h code index) h 32 3 (1#8 :: (u8 code ++ u8 index)) := by
  obtain ⟨fitCode, fitIndex⟩ := Bool.and_eq_true_iff.mp sendable
  exact bodySpells_of (act := fun x => readConfigAct x.1 x.2) rfl (two_carries fitCode fitIndex) (fun _ => rfl)
    (Nat.succ_le_of_lt (two_length.trans_lt (by decide))) (by decide)

theorem bodySpells_checkConfig : BodySpells (.checkConfig h) h 32 0 [2#8] :=
  bodySpells_of (act := fun _ => checkConfigAct) (fields := readNone []) rfl rfl (fun _ => rfl) (by decide) (by decide)

end Bodies

/-- Every request command that fits the wire has a body that spells it. -/
theorem exists_bodySpells {c : Instr} {h : Header} {kind level : Nat} (row : requestRow c = some (h, kind, level)) (sendable : WellFormed c) :
    ∃ body, BodySpells c h kind level body := by
  cases c <;> cases row
  case selectSource => exact ⟨_, bodySpells_one h sendable (fun _ => rfl) (fun _ => rfl) (by decide) (by decide)⟩
  case setTime => exact ⟨_, bodySpells_two h sendable (fun _ => rfl) (fun _ => rfl) (by decide) (by decide)⟩
  case readTime => exact ⟨_, bodySpells_none h (fun _ => rfl) (fun _ => rfl) (by decide)⟩
  case testTrip => exact ⟨_, bodySpells_two h sendable (fun _ => rfl) (fun _ => rfl) (by decide) (by decide)⟩
  case cancelTest => exact ⟨_, bodySpells_one h sendable (fun _ => rfl) (fun _ => rfl) (by decide) (by decide)⟩
  case readLine => exact ⟨_, bodySpells_one h sendable (fun _ => rfl) (fun _ => rfl) (by decide) (by decide)⟩
  case acknowledge => exact ⟨_, bodySpells_two h sendable (fun _ => rfl) (fun _ => rfl) (by decide) (by decide)⟩
  case assignCause => exact ⟨_, bodySpells_three h sendable (fun _ => rfl) (fun _ => rfl) (by decide) (by decide)⟩
  case retireTrip => exact ⟨_, bodySpells_two h sendable (fun _ => rfl) (fun _ => rfl) (by decide) (by decide)⟩
  case readTrip => exact ⟨_, bodySpells_one h sendable (fun _ => rfl) (fun _ => rfl) (by decide) (by decide)⟩
  case readUnit => exact ⟨_, bodySpells_one h sendable (fun _ => rfl) (fun _ => rfl) (by decide) (by decide)⟩
  case openAccount => exact ⟨_, bodySpells_openAccount h sendable⟩
  case bind => exact ⟨_, bodySpells_three h sendable (fun _ => rfl) (fun _ => rfl) (by decide) (by decide)⟩
  case unbind => exact ⟨_, bodySpells_two h sendable (fun _ => rfl) (fun _ => rfl) (by decide) (by decide)⟩
  case preset => exact ⟨_, bodySpells_preset h sendable⟩
  case retireAccount => exact ⟨_, bodySpells_two h sendable (fun _ => rfl) (fun _ => rfl) (by decide) (by decide)⟩
  case serviceDone => exact ⟨_, bodySpells_two h sendable (fun _ => rfl) (fun _ => rfl) (by decide) (by decide)⟩
  case readAccount => exact ⟨_, bodySpells_readAccount h sendable⟩
  case checkpoint => exact ⟨_, bodySpells_none h (fun _ => rfl) (fun _ => rfl) (by decide)⟩
  case readStore => exact ⟨_, bodySpells_none h (fun _ => rfl) (fun _ => rfl) (by decide)⟩
  case setRosterSlot => exact ⟨_, bodySpells_setRosterSlot h sendable⟩
  case startHandover => exact ⟨_, bodySpells_none h (fun _ => rfl) (fun _ => rfl) (by decide)⟩
  case signOn => exact ⟨_, bodySpells_none h (fun _ => rfl) (fun _ => rfl) (by decide)⟩
  case release carry => exact ⟨_, bodySpells_release h carry⟩
  case abortHandover => exact ⟨_, bodySpells_none h (fun _ => rfl) (fun _ => rfl) (by decide)⟩
  case readWatch => exact ⟨_, bodySpells_none h (fun _ => rfl) (fun _ => rfl) (by decide)⟩
  case readShiftTally => exact ⟨_, bodySpells_two h sendable (fun _ => rfl) (fun _ => rfl) (by decide) (by decide)⟩
  case find => exact ⟨_, bodySpells_find h sendable⟩
  case readConditions => exact ⟨_, bodySpells_none h (fun _ => rfl) (fun _ => rfl) (by decide)⟩
  case clearConditions word => exact ⟨_, bodySpells_word h (word := word) (fun _ => rfl) (fun _ => rfl) (by decide)⟩
  case setMask word => exact ⟨_, bodySpells_word h (word := word) (fun _ => rfl) (fun _ => rfl) (by decide)⟩
  case configure => exact ⟨_, bodySpells_configure h sendable⟩
  case readConfig => exact ⟨_, bodySpells_readConfig h sendable⟩
  case checkConfig => exact ⟨_, bodySpells_checkConfig h⟩

end Sys2Proof.Machine

namespace Sys2Proof.Proofs

open Sys2Proof Sys2Proof.Machine Sys2Proof.Claim Sys2Proof.Safety

/-- Settles O7: the body of each request command, read back from the bytes of its fields. -/
theorem everyRequestCanBeSent : Obligations.EveryRequestCanBeSent := by
  intro c h kind level row sendable
  obtain ⟨body, ⟨act, intake, meaning⟩, short, byte⟩ := exists_bodySpells row sendable
  refine ⟨body, short, fun s up free => ?_⟩
  intro bytes
  have kindIs : (BitVec.ofNat 8 kind).toNat = kind := by
    rw [BitVec.toNat_ofNat]
    exact Nat.mod_eq_of_lt byte
  have read : readFrame bytes = some ⟨h.requester, h.crew, h.tag, kind, body⟩ := by
    have read := readFrame_frameBytes h.requester h.crew (BitVec.ofNat 8 kind) h.tag [] short
    rwa [List.append_nil, kindIs] at read
  have shifted : ∀ out, (s.shiftOut out).request h kind level act =
      ((s.pass h.dt).shiftOut out).takeRequest h.requester h.crew h.tag kind (.request level act) := fun out => if_pos up
  rw [exec_send_frame h.dt up free read, meaning, shifted, intake]
  rfl

end Sys2Proof.Proofs
end
